-- ==== Sys2Proof/Word.lean ====
section
/-!
DEFINITION. The word types of the KP16: bytes, the 32-bit words a tester access carries, the numbers that name sites, frames,
slots, rows and columns, and the plainest helpers on them (an update of one place of a vector, the little-endian bytes of a word).
-/

namespace Sys2Proof

/-- One byte of exchange memory. -/
abbrev Byte := BitVec 8

/-- One aligned 32-bit word as a tester access carries it (R164). -/
abbrev Word := BitVec 32

/-- The number of an aligned word of a window: byte offset divided by 4 (R164, R170). -/
abbrev WordNo := BitVec 14

/-- The byte lanes an access enables, bit i for byte i of the word (R164). -/
abbrev Lanes := BitVec 4

/-- A probe site 0..15. -/
abbrev SiteNo := Fin 16

/-- A frame record 0..3 (R133). -/
abbrev FrameNo := Fin 4

/-- A key slot 0..255 (R113). -/
abbrev SlotNo := Fin 256

/-- A row of a die key field; 0..10 or 0..18 according to the key length (R1, R3). -/
abbrev Row := Fin 19

/-- A column of a row (R1). -/
abbrev Col := Fin 32

/-- A 10-bit sense code, 0..1023 (R8). -/
abbrev SenseCode := Fin 1024

/-- A set of columns of one row, as the 32-cell mask that names it: bit c for column c (R9). -/
abbrev ColSet := BitVec 32

/-- The 32 sense codes of one ROW READ, lane c for column c (R11). -/
abbrev LaneCodes := Vector SenseCode 32

/-- The value at one place of a vector. -/
def look {α : Type} {n : Nat} (v : Vector α n) (i : Fin n) : α := v[i]

/-- The vector with one place changed. -/
def put {α : Type} {n : Nat} (v : Vector α n) (i : Fin n) (x : α) : Vector α n :=
  v.set i.val x i.isLt

theorem look_put {α : Type} {n : Nat} (v : Vector α n) (i j : Fin n) (x : α) :
    look (put v i x) j = if i = j then x else look v j := by
  simp [look, put, Vector.getElem_set, Fin.ext_iff]

@[simp] theorem look_put_same {α : Type} {n : Nat} (v : Vector α n) (i : Fin n) (x : α) :
    look (put v i x) i = x := by
  simp [look_put]

@[simp] theorem look_put_other {α : Type} {n : Nat} (v : Vector α n) (i j : Fin n) (x : α) (h : i ≠ j) :
    look (put v i x) j = look v j := by
  simp [look_put, h]

@[simp] theorem look_replicate {α : Type} {n : Nat} (x : α) (i : Fin n) : look (Vector.replicate n x) i = x := by
  simp [look]

@[simp] theorem look_ofFn {α : Type} {n : Nat} (f : Fin n → α) (i : Fin n) : look (Vector.ofFn f) i = f i := by
  simp [look]

theorem look_ext {α : Type} {n : Nat} {v w : Vector α n} (h : ∀ i, look v i = look w i) : v = w := by
  ext i hi
  exact h ⟨i, hi⟩

/-- All sites in ascending order. -/
def allSites : List SiteNo := List.finRange 16

/-- All columns in ascending order. -/
def allCols : List Col := List.finRange 32

@[simp] theorem mem_allSites (k : SiteNo) : k ∈ allSites := List.mem_finRange k

@[simp] theorem mem_allCols (c : Col) : c ∈ allCols := List.mem_finRange c

end Sys2Proof
end

