-- ==== Sys2Proof/Syntax.lean ====
section
/-!
DEFINITION. The commands of the KP16: one constructor of `Instr` for each row of spec/opcode_table.json, with the operands the
spec gives the row. A command is a write of the tester controller to one of the two windows, an event that reaches the part from a
die, a sensor, the pump monitor or a timer, or one of the part's own steps.
-/

namespace Sys2Proof

/-- The commands. `lanes` is the set of byte lanes a tester write to exchange memory enables (R164); `value` is the word written to
a register (R170). A write row names the write itself; what it does is decided by the word written, its record's owner and the value
the word would hold, so a row's command may meet a state in which it is dropped or discarded. -/
inductive Instr where
  /-- POWER_ON_RESET (R174). -/
  | powerOnReset
  /-- INITIALISATION_END (R174). -/
  | initialisationEnd
  /-- RUN_SET (R171): a write of RUN_CTRL. -/
  | runSet (value : Word)
  /-- RUN_CLEAR (R148, R171): a write of RUN_CTRL. -/
  | runClear (value : Word)
  /-- SOFT_RESET (R171, R175): a write of RUN_CTRL. -/
  | softReset (value : Word)
  /-- SOFT_RESET_COMPLETION (R176). -/
  | softResetCompletion
  /-- ATTN_WRITE (R172). -/
  | attnWrite (value : Word)
  /-- ATTN_EN_WRITE (R173). -/
  | attnEnWrite (value : Word)
  /-- REGISTER_WRITE_OTHER (R170): a write of IDENT or of an unused offset of the register window. -/
  | registerWriteOther (word : WordNo) (value : Word)
  /-- POST (R137): POSTED written into the state word of a frame. -/
  | post (f : FrameNo) (lanes : Lanes)
  /-- RELEASE (R147): FREE written into the state word of a frame. -/
  | release (f : FrameNo) (lanes : Lanes)
  /-- SOFT_STOP (R143, R144): 1 written into the stop word of a frame. -/
  | softStop (f : FrameNo) (lanes : Lanes)
  /-- HARD_STOP (R143, R144): 2 written into the stop word of a frame. -/
  | hardStop (f : FrameNo) (lanes : Lanes)
  /-- LOAD (R116): LOADED written into the state word of a slot. -/
  | load (i : SlotNo) (lanes : Lanes)
  /-- RECLAIM (R118): EMPTY written into the state word of a slot. -/
  | reclaim (i : SlotNo) (lanes : Lanes)
  /-- WITHDRAW (R119): WITHDRAW written into the state word of a slot. -/
  | withdraw (i : SlotNo) (lanes : Lanes)
  /-- OPEN (R152): OPEN written into the wafer state word. -/
  | openWafer (lanes : Lanes)
  /-- CLOSE (R154): CLOSE written into the wafer request word. -/
  | closeWafer (lanes : Lanes)
  /-- WATCHED_WORD_NO_REQUEST (R168): a write of a watched word that carries no request value. -/
  | watchedWordNoRequest (word : WordNo) (lanes : Lanes) (data : Word)
  /-- DATA_WORD_WRITE (R163): a write of a word of exchange memory that is not watched. -/
  | dataWordWrite (word : WordNo) (lanes : Lanes) (data : Word)
  /-- FRAME_START (R142). -/
  | frameStart
  /-- HAND_BACK (R146). -/
  | handBack
  /-- CLOSE_COMPLETION (R155). -/
  | closeCompletion
  /-- CONTACT_SAMPLE (R36): a contact sample of site k completes with a code. -/
  | contactSample (k : SiteNo) (code : SenseCode)
  /-- CONTACT_TIMER_EXPIRY (R37). -/
  | contactTimerExpiry (k : SiteNo)
  /-- REFERENCE_READ_COMPLETION (R12, R38). -/
  | referenceReadCompletion (k : SiteNo) (refOpen refBlown : SenseCode)
  /-- READ_A_COMPLETION (R21): a ROW READ at nominal bias completes. -/
  | readACompletion (k : SiteNo) (codes : LaneCodes)
  /-- VERIFY_COMPLETION (R21): a ROW READ at margin bias completes, and with it the verify. -/
  | verifyCompletion (k : SiteNo) (codes : LaneCodes)
  /-- KEY_WAIT_EXPIRY (R41). -/
  | keyWaitExpiry (k : SiteNo)
  /-- KEY_DRAW (R123). -/
  | keyDraw
  /-- BUDGET_GRANT (R94). -/
  | budgetGrant
  /-- PULSE_COMPLETION (R30): the PULSE of site k reaches its full width; the current sample, in mA, is the one taken then. -/
  | pulseCompletion (k : SiteNo) (sample : Nat)
  /-- OVERCURRENT_EVENT (R29): a current sample, in mA, taken during the PULSE of site k. -/
  | overcurrentEvent (k : SiteNo) (sample : Nat)
  /-- THERMAL_READING (R101): the sensor of site k's driver hands over a temperature in degrees Celsius. -/
  | thermalReading (k : SiteNo) (celsius : Int)
  /-- SETTLE_TIMER_EXPIRY (R84). -/
  | settleTimerExpiry
  /-- WAKE_TIMER_EXPIRY (R86). -/
  | wakeTimerExpiry
  /-- IDLE_TIMER_EXPIRY (R85). -/
  | idleTimerExpiry
  /-- UNDERVOLTAGE_EVENT (R87). -/
  | undervoltageEvent
  /-- SUPPLY_GOOD_EVENT (R88). -/
  | supplyGoodEvent
  /-- HOLD_EXPIRY (R89). -/
  | holdExpiry
  /-- OFF_PENDING_COMPLETION (R90). -/
  | offPendingCompletion
  /-- DROPPED_WATCHED_WORD_WRITE (R166): a write of a watched word of a part-owned record. -/
  | droppedWatchedWordWrite (word : WordNo) (lanes : Lanes) (data : Word)
  deriving DecidableEq, Repr

end Sys2Proof
end

