-- ==== Sys2Proof/Decode.lean ====
section
/-!
DEFINITION. The block has no instruction decoder: commands reach it as writes and events. `decodeTableWord` reads a command from the
bits of a row of spec/opcode_table.json; no row of the table gives any bits (every row's "fields" is empty), so it answers none.
-/

namespace Sys2Proof

/-- The command a word spells by the bits of the opcode table. The table gives no row any bits, so no word spells a command. -/
def decodeTableWord (_nbits _w : Nat) : Option Instr := none

end Sys2Proof
end

