-- ==== Sys2Proof/Config.lean ====
section
/-!
DEFINITION. The free values: what the spec leaves open and the part nevertheless decides. Each is an opaque constant without a body,
applied to the number of the choice (`State.choices`), so that no proof can rest on a value of it.
-/

namespace Sys2Proof

/-- FREE VALUE (log 4, R89, R132, R144, R148). When one command reaches several sites and the spec does not say in which order they
take it, they take it in ascending rank; sites of one rank in ascending number. The first argument numbers the choice. -/
opaque Config.siteRank : Nat → SiteNo → Nat

/-- FREE VALUE (log 5, R171). How many of the sites that take the hard stop of a RUN clear take it before the supply unit takes the
RUN clear. The argument numbers the choice. -/
opaque Config.supplyTurn : Nat → Nat

end Sys2Proof
end

