-- ==== Sys2Proof/Machine/State.lean ====
section
/-!
DEFINITION. The state of the KP16: every member the spec gives a block, as plain data, the reasons a step could stop, and the state
right after power-on reset. Timers are held as the period, in microseconds, for which they run, or stopped (log 3).
-/

namespace Sys2Proof.Machine

/-! ### Names the spec gives -/

/-- The two key lengths (R3). -/
inductive KeyLength where
  | bits128
  | bits256
  deriving DecidableEq, Repr

/-- States of a site sequencer (03, table of 3.1). -/
inductive SiteState where
  | idle | contact | refer | blank | keywait | burnWait | pulse | verify | final | ended
  deriving DecidableEq, Repr

/-- The two phases of BURN_WAIT, PULSE and VERIFY (03, 3.1). -/
inductive Phase where
  | burn | locking
  deriving DecidableEq, Repr

/-- Why a site is skipped at frame start (R134, R142). -/
inductive SkipReason where
  | none | notEnabled | offMap | mapKeyed | mapDamaged | mapMark
  deriving DecidableEq, Repr

/-- The fourteen outcomes (R53). -/
inductive SiteOutcome where
  | keyed | skipped | noContact | padShort | refFail | keyStarved | alreadyKeyed | dirty | burnFail | contactLost
  | overcurrent | thermal | supplyLost | aborted
  deriving DecidableEq, Repr

/-- Stop taken by a site (R33, R55 to R57). -/
inductive StopTaken where
  | none | soft | hard
  deriving DecidableEq, Repr

/-- What became of the key drawn for a site (R127, R134). -/
inductive Disposition where
  | none | bound | voided | returned
  deriving DecidableEq, Repr

/-- Class of a cell by a verify (R22). -/
inductive CellClass where
  | blown | intact | marginal
  deriving DecidableEq, Repr

/-- States of a burst former (R60). -/
inductive FormerState where
  | idle | requesting | pulsing | exhausted
  deriving DecidableEq, Repr

/-- Burst order (R62, R63, R180). -/
inductive BurstOrder where
  | linear | split
  deriving DecidableEq, Repr

/-- Bias of a ROW READ: nominal is read A, margin is read B (R11). -/
inductive Bias where
  | nominal | margin
  deriving DecidableEq, Repr

/-- Pulse phase of a monitor (R99, R104). -/
inductive PulsePhase where
  | noPulse | measuring
  deriving DecidableEq, Repr

/-- Pump states (R80). -/
inductive PumpState where
  | off | ramp | ready | idleLow | wake | hold
  deriving DecidableEq, Repr

/-- Idle kind of IDLE_LOW, and the low-power exit of a recipe (R80, R85, R180). -/
inductive IdleKind where
  | fast | slow
  deriving DecidableEq, Repr

/-- States of a frame. No frame rests in POSTED, so it is not one of them (R133). -/
inductive FrameState where
  | free | queued | running | stopping | done | rejected | cancelled
  deriving DecidableEq, Repr

/-- Stop in force on the running frame (R135). -/
inductive FrameStop where
  | none | soft | hard | runCleared
  deriving DecidableEq, Repr

/-- States of a key slot (R113). -/
inductive SlotState where
  | empty | loaded | refused | drawn | bound | voided
  deriving DecidableEq, Repr

/-- Wafer states (R150). -/
inductive WaferState where
  | closed | opened | closing
  deriving DecidableEq, Repr

/-! ### Exchange memory -/

/-- Exchange memory as the list of its non-zero bytes, addresses strictly rising (R163, R174). -/
abbrev Memory := List Host.Cell

/-! ### Recipes -/

/-- A working recipe: the clamped snapshot of a recipe record (R177 to R182). -/
structure Recipe where
  keyLength : KeyLength
  burstSize : Nat
  burstOrder : BurstOrder
  attemptLimit : Nat
  baseWidth : Nat
  escalation : Nat
  wb : Nat
  wi : Nat
  minWindow : Nat
  degradedTolerance : Nat
  pumpLevel : Nat
  cellCurrent : Nat
  budget : Nat
  exitKind : IdleKind
  debounceCount : Nat
  idleTime : Nat
  holdLimit : Nat
  contactTimeout : Nat
  keyWait : Nat
  contactOpenMax : Nat
  contactShortMin : Nat
  thermalWarn : Nat
  thermalShutdown : Nat
  poolWatermark : Nat
  dx : Vector Int 16
  dy : Vector Int 16
  binMap : Vector Nat 14
  deriving DecidableEq, Repr

/-! ### One site: sequencer, burst former, pulse monitor, port -/

/-- The reference set of a site (R17). -/
structure RefSet where
  refOpen : Nat
  refBlown : Nat
  d : Int
  tI : Nat
  tB : Nat
  deriving DecidableEq, Repr

/-- A drawn key: the slot it came from, its serial and the key buffer (R33, R40). -/
structure KeyHeld where
  slot : SlotNo
  serial : Word
  buffer : List Byte
  deriving DecidableEq, Repr

/-- An entry of a row plan: a row and its expected image, given by the expected-blown set; the expected-intact set is the rest
(R2, R3, R61). -/
structure PlanRow where
  row : Row
  image : ColSet
  deriving DecidableEq, Repr

/-- What a completed verify leaves of a row: the class of each cell and its lo and hi values (R21, R22). -/
structure RowVerify where
  cells : Vector CellClass 32
  lo : LaneCodes
  hi : LaneCodes
  deriving DecidableEq, Repr

/-- Members of a site sequencer (R33), with the lane buffer of R21, the counts of R71 to R73 and the chop flag of R74. -/
structure Sequencer where
  state : SiteState
  phase : Phase
  dieX : Int
  dieY : Int
  skip : SkipReason
  lotTag : BitVec 16
  goodRun : Nat
  lastSample : SenseCode
  contactTimer : Option Nat
  refs : RefSet
  key : Option KeyHeld
  fingerprint : BitVec 16
  plan : List PlanRow
  row : Option Row
  attempt : Nat
  pendingSet : ColSet
  verified : Vector (Option RowVerify) 19
  laneA : Option LaneCodes
  keyTimer : Option Nat
  pulsed : Bool
  stopTaken : StopTaken
  worstBlown : Int
  worstIntact : Int
  degraded : Nat
  outcome : Option SiteOutcome
  pulsesIssued : Nat
  cellsPulsed : Nat
  highestAttempt : Nat
  chopApplied : Bool
  deriving DecidableEq, Repr

/-- Members of a burst former (R60). An empty current burst or held remainder stands for none. -/
structure Former where
  state : FormerState
  row : Option Row
  attempt : Nat
  first : List Col
  second : List Col
  current : List Col
  held : List Col
  pulsedCols : ColSet
  deriving DecidableEq, Repr

/-- The limits of the pulse in flight, in mA (R28). -/
structure PulseLimits where
  expected : Nat
  overLimit : Nat
  openLimit : Nat
  deriving DecidableEq, Repr

/-- Members of a pulse monitor (R99) with its three latched flags (R108 to R111). -/
structure Monitor where
  temperature : Option Int
  warnAt : Int
  shutAt : Int
  warnLive : Bool
  shutLatch : Bool
  phase : PulsePhase
  limits : Option PulseLimits
  sample : Option Nat
  holdTouched : Bool
  thermalSeen : Bool
  holdSeen : Bool
  truncated : Bool
  deriving DecidableEq, Repr

/-- The die-side operation in flight at a port (R8). SELECT completes on issue, so it is never in flight (R9). -/
inductive PortOp where
  | contactSample
  | referenceRead
  | rowRead (row : Row) (bias : Bias)
  | pulse (ticks : Nat)
  deriving DecidableEq, Repr

/-- A site port: its selection and the operation in flight. The program line is `Port.lineOn` (R8). -/
structure Port where
  selection : Option (Row × ColSet)
  op : Option PortOp
  deriving DecidableEq, Repr

/-- One probe site. -/
structure Site where
  seq : Sequencer
  former : Former
  monitor : Monitor
  port : Port
  deriving DecidableEq, Repr

/-! ### The shared blocks -/

/-- Members of the frame scheduler (R135), with the frame states of R133 and frames_ended of R146. -/
structure Scheduler where
  frames : Vector FrameState 4
  postList : List FrameNo
  running : Option FrameNo
  stop : FrameStop
  recipes : Vector (Option Recipe) 4
  ended : Vector Bool 16
  nextSeq : Word
  framesEnded : Nat
  deriving DecidableEq, Repr

/-- Members of the key pool unit (R113, R114). -/
structure Pool where
  slots : Vector SlotState 256
  cursor : SlotNo
  redraw : List SlotNo
  highMark : Word
  waiting : Vector (Option KeyLength) 16
  watermark : Nat
  loadedCount : Nat
  draws : Nat
  bound : Nat
  voided : Nat
  returned : Nat
  refused : Nat
  deriving DecidableEq, Repr

/-- The supply parameters of the governing working recipe; all 0 when none are loaded (R80, R81). -/
structure SupplyParams where
  budget : Nat
  cellCurrent : Nat
  level : Nat
  exitKind : IdleKind
  idleTime : Nat
  holdLimit : Nat
  deriving DecidableEq, Repr

/-- Members of the supply unit (R80). -/
structure Supply where
  pump : PumpState
  level : Nat
  idleKind : IdleKind
  settleTimer : Option Nat
  wakeTimer : Option Nat
  idleTimer : Option Nat
  holdTimer : Option Nat
  offPending : Bool
  params : SupplyParams
  holdCount : Nat
  deriving DecidableEq, Repr

/-- Members of the budget arbiter (R92). -/
structure Arbiter where
  requests : Vector (Option Nat) 16
  grants : Vector (Option Nat) 16
  inUse : Nat
  lastGranted : SiteNo
  deriving DecidableEq, Repr

/-- The state of the part. `choices` and `pending` are the model's own: the number of the next free choice (log 4) and the queue of
the commands that wait, first in, first out. -/
structure State where
  run : Bool
  softReset : Bool
  initialising : Bool
  attn : BitVec 11
  attnEn : BitVec 11
  mem : Memory
  droppedWrites : Nat
  wafer : WaferState
  sched : Scheduler
  pool : Pool
  supply : Supply
  arbiter : Arbiter
  sites : Vector Site 16
  choices : Nat
  pending : List Instr
  deriving DecidableEq, Repr

/-- Reasons for which the part stops. There are none: every rule of the spec that turns work down gives the state that follows. -/
inductive Fault where
  deriving DecidableEq, Repr

/-- Reasons for which the model gives a command no meaning. -/
inductive Refusal where
  /-- A command whose meaning has not been written; only an arm of `exec` could answer it, and none does. Safe: the machine stops. -/
  | notModelled (mnemonic : String)
  deriving DecidableEq, Repr

/-! ### Reset values -/

/-- Reset column of R33. R33 does not list the lane buffer of R21: that it is empty at the resets and at the return to IDLE is the model's
choice (log 32, DESIGN CHOICE). -/
def Sequencer.reset : Sequencer :=
  { state := .idle, phase := .burn, dieX := 0, dieY := 0, skip := .none, lotTag := 0, goodRun := 0, lastSample := 0,
    contactTimer := none, refs := { refOpen := 0, refBlown := 0, d := 0, tI := 0, tB := 0 }, key := none, fingerprint := 0,
    plan := [], row := none, attempt := 0, pendingSet := 0, verified := Vector.replicate 19 none, laneA := none, keyTimer := none,
    pulsed := false, stopTaken := .none, worstBlown := 1023, worstIntact := 1023, degraded := 0, outcome := none,
    pulsesIssued := 0, cellsPulsed := 0, highestAttempt := 0, chopApplied := false }

/-- Reset column of R60. -/
def Former.reset : Former :=
  { state := .idle, row := none, attempt := 0, first := [], second := [], current := [], held := [], pulsedCols := 0 }

/-- Reset column of R99. -/
def Monitor.reset : Monitor :=
  { temperature := none, warnAt := 150, shutAt := 180, warnLive := false, shutLatch := false, phase := .noPulse, limits := none,
    sample := none, holdTouched := false, thermalSeen := false, holdSeen := false, truncated := false }

/-- A port after power-on reset and after soft reset (R8). -/
def Port.reset : Port := { selection := none, op := none }

/-- A site after power-on reset. -/
def Site.reset : Site := { seq := .reset, former := .reset, monitor := .reset, port := .reset }

/-- Power-on column of R135, with every frame FREE (R133). -/
def Scheduler.reset : Scheduler :=
  { frames := Vector.replicate 4 .free, postList := [], running := none, stop := .none, recipes := Vector.replicate 4 none,
    ended := Vector.replicate 16 false, nextSeq := 1, framesEnded := 0 }

/-- Power-on column of R114, with every slot EMPTY (R113). -/
def Pool.reset : Pool :=
  { slots := Vector.replicate 256 .empty, cursor := 0, redraw := [], highMark := 0, waiting := Vector.replicate 16 none,
    watermark := 0, loadedCount := 0, draws := 0, bound := 0, voided := 0, returned := 0, refused := 0 }

/-- Supply parameters when none are loaded (R80). -/
def SupplyParams.none : SupplyParams :=
  { budget := 0, cellCurrent := 0, level := 0, exitKind := .fast, idleTime := 0, holdLimit := 0 }

/-- Power-on column of R80. -/
def Supply.reset : Supply :=
  { pump := .off, level := 0, idleKind := .fast, settleTimer := Option.none, wakeTimer := Option.none, idleTimer := Option.none,
    holdTimer := Option.none, offPending := false, params := .none, holdCount := 0 }

/-- Power-on column of R92. -/
def Arbiter.reset : Arbiter :=
  { requests := Vector.replicate 16 Option.none, grants := Vector.replicate 16 Option.none, inUse := 0, lastGranted := 15 }

/-- The part right after power-on reset: every block at its power-on values, exchange memory all zero, initialisation running (R174). -/
def State.reset : State :=
  { run := false, softReset := false, initialising := true, attn := 0, attnEn := 0, mem := [], droppedWrites := 0, wafer := .closed,
    sched := .reset, pool := .reset, supply := .reset, arbiter := .reset, sites := Vector.replicate 16 .reset, choices := 0,
    pending := [] }

end Sys2Proof.Machine
end

