-- ==== Sys2Proof/Machine/Codes.lean ====
section
/-!
DEFINITION. The numbers by which states, outcomes and reasons are written into exchange memory, as the code tables of the spec give
them, and the owner of each record by its state (R113, R133, R150).
-/

namespace Sys2Proof.Machine

/-- Number of key rows K (R3). -/
def KeyLength.keyRows : KeyLength → Nat
  | .bits128 => 8
  | .bits256 => 16

/-- Number of key bytes, N/8 (R4). -/
def KeyLength.keyBytes : KeyLength → Nat
  | .bits128 => 16
  | .bits256 => 32

/-- The lock row K + 2, which is the last row R - 1 (R3). -/
def KeyLength.lockRow : KeyLength → Row
  | .bits128 => 10
  | .bits256 => 18

/-- The check row K + 1 (R3). -/
def KeyLength.checkRow : KeyLength → Row
  | .bits128 => 9
  | .bits256 => 17

/-- The tag row K (R3). -/
def KeyLength.tagRow : KeyLength → Row
  | .bits128 => 8
  | .bits256 => 16

/-- Live site state code (R34). -/
def liveCode : SiteState → Phase → Nat
  | .idle, _ => 0
  | .contact, _ => 1
  | .refer, _ => 2
  | .blank, _ => 3
  | .keywait, _ => 4
  | .burnWait, .burn => 5
  | .pulse, .burn => 6
  | .verify, .burn => 7
  | .final, _ => 8
  | .burnWait, .locking => 9
  | .pulse, .locking => 10
  | .verify, .locking => 11
  | .ended, _ => 12

/-- Outcome code (R53). -/
def SiteOutcome.code : SiteOutcome → Fin 14
  | .keyed => 0
  | .skipped => 1
  | .noContact => 2
  | .padShort => 3
  | .refFail => 4
  | .keyStarved => 5
  | .alreadyKeyed => 6
  | .dirty => 7
  | .burnFail => 8
  | .contactLost => 9
  | .overcurrent => 10
  | .thermal => 11
  | .supplyLost => 12
  | .aborted => 13

/-- Key disposition code (R134). -/
def Disposition.code : Disposition → Nat
  | .none => 0
  | .bound => 1
  | .voided => 2
  | .returned => 3

/-- Skip reason code (R134). -/
def SkipReason.code : SkipReason → Nat
  | .none => 0
  | .notEnabled => 1
  | .offMap => 2
  | .mapKeyed => 3
  | .mapDamaged => 4
  | .mapMark => 5

/-- Pump state code (R98). -/
def PumpState.code : PumpState → Nat
  | .off => 0
  | .ramp => 1
  | .ready => 2
  | .idleLow => 3
  | .wake => 4
  | .hold => 5

/-- Frame state code (R133). -/
def FrameState.code : FrameState → Nat
  | .free => 0
  | .queued => 2
  | .running => 3
  | .stopping => 4
  | .done => 5
  | .rejected => 6
  | .cancelled => 7

/-- A frame is part-owned while QUEUED, RUNNING or STOPPING (R133). -/
def FrameState.partOwned : FrameState → Bool
  | .queued | .running | .stopping => true
  | _ => false

/-- Slot state code (R113). -/
def SlotState.code : SlotState → Nat
  | .empty => 0
  | .loaded => 1
  | .refused => 2
  | .drawn => 3
  | .bound => 4
  | .voided => 5

/-- A slot is part-owned while LOADED or DRAWN (R113). -/
def SlotState.partOwned : SlotState → Bool
  | .loaded | .drawn => true
  | _ => false

/-- Wafer state code (R150). -/
def WaferState.code : WaferState → Nat
  | .closed => 0
  | .opened => 1
  | .closing => 2

/-- The wafer record and the map are part-owned while the wafer is OPEN or CLOSING (R150). -/
def WaferState.partOwned : WaferState → Bool
  | .closed => false
  | _ => true

/-- What the scheduler writes back into a stop word: 0 for NONE, 1 for SOFT, 2 for HARD or RUN_CLEARED (R136). -/
def FrameStop.code : FrameStop → Nat
  | .none => 0
  | .soft => 1
  | .hard => 2
  | .runCleared => 2

/-- Completion kind of a hand-back, by the frame stop (R133, R146). -/
def FrameStop.completionKind : FrameStop → Nat
  | .none => 1
  | .soft => 2
  | .hard => 3
  | .runCleared => 4

/-- Completion kind of a frame handed back by soft reset (R133, R149). -/
def completionReset : Nat := 5

/-- The five reasons to reject a post (R133, R137). -/
inductive RejectReason where
  | noWafer | waferClosing | noSites | badKeyLength | duplicateDie
  deriving DecidableEq, Repr

/-- Reject reason code (R133). -/
def RejectReason.code : RejectReason → Nat
  | .noWafer => 1
  | .waferClosing => 2
  | .noSites => 3
  | .badKeyLength => 4
  | .duplicateDie => 5

/-- The two reasons to refuse a load (R113, R116). -/
inductive RefusalReason where
  | zeroKey | serialOrder
  deriving DecidableEq, Repr

/-- Refusal reason code (R113). -/
def RefusalReason.code : RefusalReason → Nat
  | .zeroKey => 1
  | .serialOrder => 2

/-- POSTED, the request value of a frame state word (R133, R168). -/
def postedValue : Word := 1

/-- FREE, the other request value of a frame state word (R168). -/
def freeValue : Word := 0

/-- SOFT, a request value of a stop word (R168). -/
def softValue : Word := 1

/-- HARD, a request value of a stop word (R168). -/
def hardValue : Word := 2

/-- LOADED, a request value of a slot state word (R113, R168). -/
def loadedValue : Word := 1

/-- EMPTY, a request value of a slot state word (R113, R168). -/
def emptyValue : Word := 0

/-- WITHDRAW, a request value of a slot state word (R113, R168). -/
def withdrawValue : Word := 6

/-- OPEN, the request value of the wafer state word (R150, R168). -/
def openValue : Word := 1

/-- CLOSE, the request value of the wafer request word (R150, R168). -/
def closeValue : Word := 1

/-- The map code a site's end writes, by its outcome and its pulsed flag; none for SKIPPED (R53, R159). -/
def mapCodeOf (o : SiteOutcome) (pulsed : Bool) : Option Byte :=
  match o with
  | .keyed => some 2
  | .skipped => none
  | .noContact | .padShort | .refFail | .keyStarved => some 5
  | .alreadyKeyed => some 3
  | .dirty | .burnFail | .contactLost | .overcurrent => some 4
  | .thermal | .supplyLost | .aborted => if pulsed then some 4 else some 5

end Sys2Proof.Machine
end

