-- ==== Sys2Proof/Machine/KeyField.lean ====
section
/-!
DEFINITION. The die key field (01): bit order, check value, row plan, pair coding and the readback of a verified field.
-/

namespace Sys2Proof.Machine

/-! ### Bits of a key and of a 16-bit value, most significant first -/

/-- The bits of a byte, most significant first (R4). -/
def byteBits (b : Byte) : List Bool :=
  [b.getLsbD 7, b.getLsbD 6, b.getLsbD 5, b.getLsbD 4, b.getLsbD 3, b.getLsbD 2, b.getLsbD 1, b.getLsbD 0]

/-- The key bits in the order k = 0 .. N - 1 (R4). -/
def keyBits (key : List Byte) : List Bool := key.flatMap byteBits

/-- The bits of a 16-bit value, most significant first: bit b of the tag row or check row is bit 15 - b (R5, R6). -/
def wordBits (x : BitVec 16) : List Bool := (List.range 16).map fun b => x.getLsbD (15 - b)

/-- One step of the CRC register for one key bit (R6). -/
def crcStep (reg : BitVec 16) (bit : Bool) : BitVec 16 :=
  if (reg.getLsbD 15).xor bit then (reg <<< 1) ^^^ 0x1021#16 else reg <<< 1

/-- The check value of a key: CRC-16 with start FFFFh and generator 1021h, nothing reflected, no final XOR (R6). -/
def checkValue (key : List Byte) : BitVec 16 := (keyBits key).foldl crcStep 0xFFFF#16

/-! ### Column sets -/

/-- The set of the columns a test holds for. -/
def colSet (p : Col → Bool) : ColSet := allCols.foldl (fun m c => if p c then m ||| (1#32 <<< c.val) else m) 0

/-- Whether a column is in a set. -/
def hasCol (m : ColSet) (c : Col) : Bool := m.getLsbD c.val

/-- The columns of a set in ascending order. -/
def colsOf (m : ColSet) : List Col := allCols.filter (hasCol m)

/-- The set of a list of columns. -/
def setOf (l : List Col) : ColSet := colSet fun c => l.contains c

/-- Number of columns of a set. -/
def countCols (m : ColSet) : Nat := (colsOf m).length

/-! ### Pair coding and the row plan -/

/-- The expected-blown set of a row of 16 bits: bit b of value 1 places columns 2b and 2b + 1 in it (R2, R61). -/
def rowImage (bits : List Bool) : ColSet := colSet fun c => bits.getD (c.val / 2) false

/-- The 16 bits of key row r: key bits 16r .. 16r + 15 (R4). -/
def keyRowBits (key : List Byte) (r : Nat) : List Bool := ((keyBits key).drop (16 * r)).take 16

/-- The 16 bits row r of the field is to hold: key bits, lot tag, check value, and all ones in the lock row (R3 to R6). -/
def rowBits (len : KeyLength) (key : List Byte) (tag : BitVec 16) (r : Row) : List Bool :=
  if r.val < len.keyRows then keyRowBits key r.val
  else if r = len.tagRow then wordBits tag
  else if r = len.checkRow then wordBits (checkValue key)
  else List.replicate 16 true

/-- The rows 0 .. R - 1 of a field, ascending (R1, R3). -/
def KeyLength.rows (len : KeyLength) : List Row := (List.finRange 19).filter fun r => decide (r ≤ len.lockRow)

/-- The row plan (R3). -/
def rowPlan (len : KeyLength) (key : List Byte) (tag : BitVec 16) : List PlanRow :=
  len.rows.map fun r => { row := r, image := rowImage (rowBits len key tag r) }

/-- The row after a row. -/
def nextRow (r : Row) : Row := Fin.ofNat 19 (r.val + 1)

/-- The expected image of a row of a plan; the empty set for a row the plan does not list. -/
def planImage (plan : List PlanRow) (r : Row) : ColSet :=
  match plan.find? fun e => e.row == r with
  | some e => e.image
  | none => 0

/-! ### Readback -/

/-- The four readbacks of a pair (R14). -/
inductive PairRead where
  | full | degraded | clear | unresolved
  deriving DecidableEq, Repr

/-- Readback of a pair from the classes of its primary and secondary cell (R14). -/
def pairRead : CellClass → CellClass → PairRead
  | .blown, .blown => .full
  | .blown, _ => .degraded
  | _, .blown => .degraded
  | .intact, .intact => .clear
  | _, _ => .unresolved

/-- The bit a pair reads as; none for UNRESOLVED (R14). -/
def PairRead.bit : PairRead → Option Bool
  | .full | .degraded => some true
  | .clear => some false
  | .unresolved => none

/-- Column of the primary cell of bit b (R2). -/
def primaryCol (b : Fin 16) : Col := Fin.ofNat 32 (2 * b.val)

/-- Column of the secondary cell of bit b (R2). -/
def secondaryCol (b : Fin 16) : Col := Fin.ofNat 32 (2 * b.val + 1)

/-- Readback of pair b of a row (R14). -/
def pairOf (cells : Vector CellClass 32) (b : Fin 16) : PairRead :=
  pairRead (look cells (primaryCol b)) (look cells (secondaryCol b))

/-- The 16 bits a verified row reads, or none if a pair is UNRESOLVED (R15). -/
def readRow (cells : Vector CellClass 32) : Option (List Bool) := (List.finRange 16).mapM fun b => (pairOf cells b).bit

/-- Number of pairs of a row that read 1 (R15, R16, R50). -/
def pairsReadingOne (cells : Vector CellClass 32) : Nat :=
  (List.finRange 16).countP fun b => (pairOf cells b).bit == some true

/-- Number of degraded pairs of a row: pairs expected to read 1 whose readback is DEGRADED (R14, R47). -/
def degradedPairs (image : ColSet) (cells : Vector CellClass 32) : Nat :=
  (List.finRange 16).countP fun b => hasCol image (primaryCol b) && (pairOf cells b == .degraded)

/-- The bits a verified row of a field reads; none if the row has no verify or a pair is UNRESOLVED (R15). -/
def readVerified (verified : Vector (Option RowVerify) 19) (r : Row) : Option (List Bool) :=
  match look verified r with
  | some v => readRow v.cells
  | none => none

/-- The bits the key rows read, in key bit order; none if a pair of them is UNRESOLVED (R15). -/
def readKeyBits (len : KeyLength) (verified : Vector (Option RowVerify) 19) : Option (List Bool) :=
  ((len.rows.filter fun r => decide (r.val < len.keyRows)).mapM (readVerified verified)).map List.flatten

/-- Test 1 of the readback compare: read key, read lot tag and read check value equal the key buffer, the lot tag taken at frame start
and the check value computed again from the buffer (R7, R15, R48). -/
def readbackMatches (len : KeyLength) (key : List Byte) (tag : BitVec 16) (verified : Vector (Option RowVerify) 19) : Bool :=
  readKeyBits len verified == some (keyBits key)
    && readVerified verified len.tagRow == some (wordBits tag)
    && readVerified verified len.checkRow == some (wordBits (checkValue key))

/-- The three judgements of a blank check (R16). -/
inductive BlankJudgement where
  | locked | dirty | blank
  deriving DecidableEq, Repr

/-- The cells of a row are all INTACT in its latest verify. -/
def rowIntact (verified : Vector (Option RowVerify) 19) (r : Row) : Bool :=
  match look verified r with
  | some v => allCols.all fun c => look v.cells c == .intact
  | none => false

/-- Number of lock row pairs that read 1 in the latest verify of the lock row (R16, R50). -/
def lockPairs (len : KeyLength) (verified : Vector (Option RowVerify) 19) : Nat :=
  match look verified len.lockRow with
  | some v => pairsReadingOne v.cells
  | none => 0

/-- The blank judgement: locked, else dirty, else blank (R16). -/
def judgeBlank (len : KeyLength) (verified : Vector (Option RowVerify) 19) : BlankJudgement :=
  if 8 ≤ lockPairs len verified then .locked
  else if len.rows.all (rowIntact verified) then .blank
  else .dirty

end Sys2Proof.Machine
end

