-- ==== Sys2Proof/Machine/Former.lean ====
section
/-!
DEFINITION. The burst former (04): listing an attempt's cells, cutting bursts, the held remainder of a chopped grant. Every function
here works on the members of one former; the requests it leads to are made by the arbiter's operations.
-/

namespace Sys2Proof.Machine

/-- The effective burst size at a cut: s, or ceil(s/2) while the site's thermal warning is live (R64). -/
def effectiveSize (s : Nat) (warnLive : Bool) : Nat := if warnLive then (s + 1) / 2 else s

/-- Whether a column is a primary (even) column (R2, R63). -/
def isPrimary (c : Col) : Bool := c.val % 2 == 0

/-- The first list of an attempt: all pending columns in LINEAR order, the pending even columns in SPLIT order (R62, R63). -/
def firstList (order : BurstOrder) (pending : ColSet) : List Col :=
  match order with
  | .linear => colsOf pending
  | .split => (colsOf pending).filter isPrimary

/-- The second list of an attempt: empty in LINEAR order, the pending odd columns in SPLIT order (R62, R63). -/
def secondList (order : BurstOrder) (pending : ColSet) : List Col :=
  match order with
  | .linear => []
  | .split => (colsOf pending).filter fun c => !isPrimary c

/-- A cut of at most e columns from the first list, or from the second when the first is empty (R65). The cut becomes the current
burst and the former is REQUESTING. -/
def Former.cut (e : Nat) (f : Former) : Former :=
  if f.first.isEmpty then { f with state := .requesting, current := f.second.take e, second := f.second.drop e }
  else { f with state := .requesting, current := f.first.take e, first := f.first.drop e }

/-- The former takes attempt n of a row: it sets row and attempt, clears the pulsed columns when n = 0, lays out the pending set and
cuts the first burst (R62, R63, R65). -/
def Former.takeAttempt (order : BurstOrder) (e : Nat) (row : Row) (n : Nat) (pending : ColSet) (f : Former) : Former :=
  Former.cut e
    { f with row := some row, attempt := n, first := firstList order pending, second := secondList order pending,
             held := [], pulsedCols := if n = 0 then 0 else f.pulsedCols }

/-- The former takes a grant of g cells: the first g columns of the current burst are pulsed, the others become the held remainder
(R66, R67), and the pulsed columns take those carried (R72). -/
def Former.takeGrant (g : Nat) (f : Former) : Former :=
  { f with state := .pulsing, current := f.current.take g, held := f.current.drop g,
           pulsedCols := f.pulsedCols ||| setOf (f.current.take g) }

/-- Number of columns of a pulse that no earlier pulse of the row carried (R72). -/
def Former.newCells (g : Nat) (f : Former) : Nat := countCols (setOf (f.current.take g) &&& ~~~f.pulsedCols)

/-- After a GOOD pulse: the held remainder becomes the current burst, else the next burst is cut, else the former is EXHAUSTED (R68,
R69). -/
def Former.afterGood (e : Nat) (f : Former) : Former :=
  if !f.held.isEmpty then { f with state := .requesting, current := f.held, held := [] }
  else if !(f.first.isEmpty && f.second.isEmpty) then Former.cut e f
  else { f with state := .exhausted, current := [] }

/-- The row is done: the former goes from EXHAUSTED to IDLE; row, attempt and pulsed columns take their reset values (R60). -/
def Former.rowDone (f : Former) : Former :=
  { f with state := .idle, row := none, attempt := 0, pulsedCols := 0 }

/-- The site enters END: the former discards its lists, current burst and held remainder and goes to IDLE (R60, R75). -/
def Former.discard (f : Former) : Former :=
  { f with state := .idle, first := [], second := [], current := [], held := [] }

end Sys2Proof.Machine
end

