-- ==== Sys2Proof/Machine/Flags.lean ====
section
/-!
DEFINITION. Flag computations: the attention causes and the attention line (R172, R173), the latched flags of a site record (10.5,
R108) and the powered, running and quiet tests that several blocks make.
-/

namespace Sys2Proof.Machine

/-- The eleven attention causes (R172). -/
inductive Cause where
  | frameEnded | waferOpened | waferRefused | waferClosed | slotRefused | poolLow | poolDry | writeDropped | supplyHold
  | supplyLost | resetDone
  deriving DecidableEq, Repr

/-- Bit number of a cause in ATTN and ATTN_EN (10.5). -/
def Cause.bit : Cause → Nat
  | .frameEnded => 0
  | .waferOpened => 1
  | .waferRefused => 2
  | .waferClosed => 3
  | .slotRefused => 4
  | .poolLow => 5
  | .poolDry => 6
  | .writeDropped => 7
  | .supplyHold => 8
  | .supplyLost => 9
  | .resetDone => 10

/-- The mask of a cause in ATTN. -/
def Cause.mask (c : Cause) : BitVec 11 := 1#11 <<< c.bit

/-- A raise sets the cause's bit and leaves a bit already set as it is (R172). -/
def State.raise (c : Cause) (s : State) : State := { s with attn := s.attn ||| c.mask }

/-- Whether a cause is recorded in ATTN. -/
def State.recorded (s : State) (c : Cause) : Bool := s.attn.getLsbD c.bit

/-- The attention line: asserted while a cause is both recorded and enabled (R173). -/
def State.attentionLine (s : State) : Bool := (s.attn &&& s.attnEn) != 0

/-- The program line of a port is ON only during a PULSE (R8). -/
def Port.lineOn (p : Port) : Bool :=
  match p.op with
  | some (.pulse _) => true
  | _ => false

/-- The site is in a state from CONTACT up to, but not including, END (R54, R108). -/
def SiteState.isRunning : SiteState → Bool
  | .idle | .ended => false
  | _ => true

/-- The latched flags byte of a site record: thermal warning seen, chop applied, supply hold seen, pulse truncated (10.5). -/
def latchedFlags (k : Site) : Byte :=
  BitVec.ofNat 8
    ((if k.monitor.thermalSeen then 1 else 0) + (if k.seq.chopApplied then 2 else 0)
      + (if k.monitor.holdSeen then 4 else 0) + (if k.monitor.truncated then 8 else 0))

/-- The powered states: RAMP, READY, WAKE and IDLE_LOW of kind FAST (R80). -/
def Supply.powered (p : Supply) : Bool :=
  match p.pump with
  | .ramp | .ready | .wake => true
  | .idleLow => p.idleKind == .fast
  | _ => false

/-- The supply evaluates requests only in READY with off pending clear (R93). -/
def Supply.granting (p : Supply) : Bool := p.pump == .ready && !p.offPending

/-- No burst request waits at the arbiter. -/
def Arbiter.noRequest (a : Arbiter) : Bool := allSites.all fun k => (look a.requests k).isNone

/-- No pulse is in flight: no grant is (R92). -/
def Arbiter.noGrant (a : Arbiter) : Bool := allSites.all fun k => (look a.grants k).isNone

/-- The scheduler is idle: no frame runs and the post list is empty (R146). -/
def Scheduler.isIdle (c : Scheduler) : Bool := c.running.isNone && c.postList.isEmpty

/-- Every site of the running frame has reported END (R146). -/
def Scheduler.allEnded (c : Scheduler) : Bool := allSites.all fun k => look c.ended k

/-- Tester writes to exchange memory are discarded during initialisation and while a soft reset runs (R174, R175). -/
def State.writesDiscarded (s : State) : Bool := s.initialising || s.softReset

end Sys2Proof.Machine
end

