-- ==== Sys2Proof/Machine/Layout.lean ====
section
/-!
DEFINITION. The layout of exchange memory (R163 and the layout tables of 10.5): the offset of every region and field, and what kind of
word each aligned word is (R168).
-/

namespace Sys2Proof.Machine

/-- Size in bytes of exchange memory (R163). -/
def exchangeSize : Nat := 0x10000

/-- Size in bytes of the header (R163). -/
def headerSize : Nat := 0x100

/-- Offset of the wafer record (R163). -/
def waferBase : Nat := 0x100

/-- Offset of the recipe (R163). -/
def recipeBase : Nat := 0x200

/-- Offset of frame record f (R163). -/
def frameBase (f : FrameNo) : Nat := 0x800 + 0x800 * f.val

/-- Offset of the record of site k in frame f (10.5, frame header table). -/
def siteRecordBase (f : FrameNo) (k : SiteNo) : Nat := frameBase f + 0x400 + 0x40 * k.val

/-- Offset of key slot i (R163). -/
def slotBase (i : SlotNo) : Nat := 0x4000 + 0x40 * i.val

/-- Offset of the wafer map (R158). -/
def mapBase : Nat := 0xC000

/-- What an aligned word of exchange memory is: a word of a part-written view, one of the watched words of R168, a data word of a
record, or unmapped (R163). -/
inductive WordKind where
  | header
  | waferState
  | waferRequest
  | waferData
  | recipe
  | frameState (f : FrameNo)
  | frameStop (f : FrameNo)
  | frameData (f : FrameNo)
  | slotState (i : SlotNo)
  | slotData (i : SlotNo)
  | map
  | unmapped
  deriving DecidableEq, Repr

/-- Byte offset of a word of a window (R164). -/
def wordOffset (w : WordNo) : Nat := 4 * w.toNat

/-- Number of the aligned word at a byte offset. -/
def wordAt (offset : Nat) : WordNo := BitVec.ofNat 14 (offset / 4)

/-- Kind of the word at an aligned byte offset, by the regions of R163 and the watched words of R168. -/
def kindAt (o : Nat) : WordKind :=
  if o < 0x100 then .header
  else if o < 0x200 then
    if o = 0x100 then .waferState else if o = 0x104 then .waferRequest else .waferData
  else if o < 0x600 then .recipe
  else if o < 0x800 then .unmapped
  else if o < 0x2800 then
    let f : FrameNo := Fin.ofNat 4 ((o - 0x800) / 0x800)
    let r := (o - 0x800) % 0x800
    if r = 0 then .frameState f else if r = 4 then .frameStop f else .frameData f
  else if o < 0x4000 then .unmapped
  else if o < 0x8000 then
    let i : SlotNo := Fin.ofNat 256 ((o - 0x4000) / 0x40)
    if (o - 0x4000) % 0x40 = 0 then .slotState i else .slotData i
  else if o < 0xC000 then .unmapped
  else .map

/-- Kind of an aligned word of exchange memory. -/
def wordKind (w : WordNo) : WordKind := kindAt (wordOffset w)

/-- The watched words of R168. -/
def WordKind.watched : WordKind → Bool
  | .waferState | .waferRequest | .frameState _ | .frameStop _ | .slotState _ => true
  | _ => false

end Sys2Proof.Machine
end

