-- ==== Sys2Proof/Machine/Ops.lean ====
section
/-!
DEFINITION. The named operations on exchange memory, on the members of a state, and the tester's view of the part: what a read of
exchange memory or of a register returns (R163, R164, R169, R170).
-/

namespace Sys2Proof.Machine

/-! ### Bytes -/

/-- The two bytes of a 16-bit field, least significant first (00, Numbers). -/
def bytes16 (x : BitVec 16) : List Byte := [x.extractLsb' 0 8, x.extractLsb' 8 8]

/-- The four bytes of a 32-bit field, least significant first (00, Numbers). -/
def bytes32 (x : Word) : List Byte :=
  [x.extractLsb' 0 8, x.extractLsb' 8 8, x.extractLsb' 16 8, x.extractLsb' 24 8]

/-- A number as the bytes of a 16-bit field. -/
def nat16 (n : Nat) : List Byte := bytes16 (BitVec.ofNat 16 n)

/-- A number as the bytes of a 32-bit field. -/
def nat32 (n : Nat) : List Byte := bytes32 (BitVec.ofNat 32 n)

/-- A signed number as the bytes of a 16-bit two's complement field. -/
def int16 (n : Int) : List Byte := bytes16 (BitVec.ofInt 16 n)

/-- A signed number as the bytes of a 32-bit two's complement field. -/
def int32 (n : Int) : List Byte := bytes32 (BitVec.ofInt 32 n)

/-- A number as one byte. -/
def nat8 (n : Nat) : Byte := BitVec.ofNat 8 n

/-- A count that stops at FFFFh (00, Saturating). -/
def sat16 (n : Nat) : Nat := min n 0xFFFF

/-- A count that stops at FFFFFFFFh (R153). -/
def sat32 (n : Nat) : Nat := min n 0xFFFFFFFF

/-! ### Exchange memory as a list of its non-zero bytes -/

/-- The byte at an address; an unlisted address reads as 00h, the contents power-on reset gives every byte (R174). -/
def Memory.read (m : Memory) (a : Nat) : Byte :=
  match m with
  | [] => 0
  | (x, v) :: t => if x = a then v else Memory.read t a

/-- The memory without an entry for an address. -/
def Memory.erase (m : Memory) (a : Nat) : Memory := m.filter fun c => c.1 != a

/-- A cell put before the first entry of a greater address. -/
def Memory.insert (m : Memory) (a : Nat) (b : Byte) : Memory :=
  match m with
  | [] => [(a, b)]
  | (x, v) :: t => if a < x then (a, b) :: (x, v) :: t else (x, v) :: Memory.insert t a b

/-- Stores one byte; storing 00h leaves no entry, so that equal memories are equal lists. -/
def Memory.write (m : Memory) (a : Nat) (b : Byte) : Memory :=
  if b = 0 then Memory.erase m a else Memory.insert (Memory.erase m a) a b

/-- Stores bytes at rising addresses from `a`. -/
def Memory.writeBytes (m : Memory) (a : Nat) (bs : List Byte) : Memory :=
  match bs with
  | [] => m
  | b :: t => Memory.writeBytes (Memory.write m a b) (a + 1) t

/-- Reads n bytes from `a` up. -/
def Memory.readBytes (m : Memory) (a n : Nat) : List Byte := (List.range n).map fun i => Memory.read m (a + i)

/-- A 16-bit field (00, Numbers: least significant byte first). -/
def Memory.read16 (m : Memory) (a : Nat) : BitVec 16 := Memory.read m (a + 1) ++ Memory.read m a

/-- A 32-bit field. -/
def Memory.read32 (m : Memory) (a : Nat) : Word :=
  Memory.read m (a + 3) ++ Memory.read m (a + 2) ++ Memory.read m (a + 1) ++ Memory.read m a

/-- Addresses strictly rise, starting above or at `low`, every entry is inside exchange memory and none is 00h. -/
def Memory.wfFrom (low : Nat) (m : Memory) : Bool :=
  match m with
  | [] => true
  | (x, v) :: t => decide (low ≤ x) && decide (x < exchangeSize) && v != 0 && Memory.wfFrom (x + 1) t

/-- The canonical form of exchange memory. -/
def Memory.wf (m : Memory) : Bool := Memory.wfFrom 0 m

/-! ### Updates of a state -/

/-- Site k of a state. -/
def State.site (s : State) (k : SiteNo) : Site := look s.sites k

/-- The state with site k changed. -/
def State.onSite (k : SiteNo) (f : Site → Site) (s : State) : State :=
  { s with sites := put s.sites k (f (s.site k)) }

/-- The state with the sequencer of site k changed. -/
def State.onSeq (k : SiteNo) (f : Sequencer → Sequencer) (s : State) : State :=
  s.onSite k fun x => { x with seq := f x.seq }

/-- The state with the burst former of site k changed. -/
def State.onFormer (k : SiteNo) (f : Former → Former) (s : State) : State :=
  s.onSite k fun x => { x with former := f x.former }

/-- The state with the pulse monitor of site k changed. -/
def State.onMonitor (k : SiteNo) (f : Monitor → Monitor) (s : State) : State :=
  s.onSite k fun x => { x with monitor := f x.monitor }

/-- The state with the port of site k changed. -/
def State.onPort (k : SiteNo) (f : Port → Port) (s : State) : State :=
  s.onSite k fun x => { x with port := f x.port }

/-- The state with every site changed by one function. -/
def State.onEverySite (f : Site → Site) (s : State) : State :=
  { s with sites := Vector.ofFn fun k => f (s.site k) }

/-- The state with bytes of exchange memory stored by the part or by a tester write that is taken. -/
def State.store (a : Nat) (bs : List Byte) (s : State) : State := { s with mem := Memory.writeBytes s.mem a bs }

/-- State of frame f (R133). -/
def State.frameState (s : State) (f : FrameNo) : FrameState := look s.sched.frames f

/-- The state with the state of frame f changed. -/
def State.setFrame (f : FrameNo) (x : FrameState) (s : State) : State :=
  { s with sched := { s.sched with frames := put s.sched.frames f x } }

/-- State of slot i (R113). -/
def State.slotState (s : State) (i : SlotNo) : SlotState := look s.pool.slots i

/-- The state with the state of slot i changed. -/
def State.setSlot (i : SlotNo) (x : SlotState) (s : State) : State :=
  { s with pool := { s.pool with slots := put s.pool.slots i x } }

/-- The die-side operation in flight at site k (R8). -/
def State.opOf (s : State) (k : SiteNo) : Option PortOp := (s.site k).port.op

/-- Issues a die-side operation at site k. -/
def State.issueOp (k : SiteNo) (op : PortOp) (s : State) : State := s.onPort k fun p => { p with op := some op }

/-- Takes the completion or truncation of the operation in flight at site k; the selection stays as it is (R10, R11). -/
def State.endOp (k : SiteNo) (s : State) : State := s.onPort k fun p => { p with op := none }

/-- Takes the completion of an operation whose site has already ended: its codes are discarded and the selection becomes none (R8,
R51). -/
def State.dropOp (k : SiteNo) (s : State) : State := s.onPort k fun _ => { selection := none, op := none }

/-- The state with the supply unit changed. -/
def State.onSupply (f : Supply → Supply) (s : State) : State := { s with supply := f s.supply }

/-- The state with the key pool unit changed. -/
def State.onPool (f : Pool → Pool) (s : State) : State := { s with pool := f s.pool }

/-! ### What the tester reads -/

/-- Sum of 2^k over the sites k that a test holds for: a 16-bit mask with bit n for site n (R112). -/
def siteMask (p : SiteNo → Bool) : BitVec 16 :=
  allSites.foldl (fun m k => if p k then m ||| (1#16 <<< k.val) else m) 0

/-- The bytes of the header up to its last field, each the view of a member (R169, 10.5). -/
def State.headerBytes (s : State) : List Byte :=
  nat16 s.pool.loadedCount ++ nat16 s.pool.draws ++ nat16 s.pool.bound ++ nat16 s.pool.voided ++ nat16 s.pool.returned
    ++ nat16 s.pool.refused ++ bytes32 s.pool.highMark ++ nat16 s.droppedWrites ++ nat16 s.sched.framesEnded
    ++ bytes32 s.sched.nextSeq ++ [nat8 s.supply.pump.code, nat8 s.supply.level] ++ nat16 s.arbiter.inUse
    ++ nat16 s.supply.holdCount ++ bytes16 (siteMask fun k => (s.site k).monitor.warnLive)
    ++ bytes16 (siteMask fun k => (s.site k).monitor.shutLatch) ++ [0, 0]
    ++ allSites.map fun k => nat8 (liveCode (s.site k).seq.state (s.site k).seq.phase)

/-- Byte i of a state word that holds a code (R164: the part always writes back a 32-bit state code). -/
def codeByte (code i : Nat) : Byte := if i = 0 then nat8 code else 0

/-- The byte of exchange memory at an offset, as a tester read sees it (R163, R164, R169). -/
def State.readByte (s : State) (o : Nat) : Byte :=
  match kindAt (4 * (o / 4)) with
  | .header => s.headerBytes.getD o 0
  | .waferState => codeByte s.wafer.code (o % 4)
  | .frameState f => codeByte (s.frameState f).code (o % 4)
  | .slotState i => codeByte (s.slotState i).code (o % 4)
  | .unmapped => 0
  | _ => Memory.read s.mem o

/-- A tester read of an aligned word of exchange memory (R164). It changes no state. -/
def State.readWord (s : State) (w : WordNo) : Word :=
  s.readByte (wordOffset w + 3) ++ s.readByte (wordOffset w + 2) ++ s.readByte (wordOffset w + 1) ++ s.readByte (wordOffset w)

/-- IDENT (R170). -/
def identValue : Word := 0x4E160110

/-- A tester read of a word of the register window; an offset with no register returns zero (R170, R171). -/
def State.readRegister (s : State) (w : WordNo) : Word :=
  if w = 0 then identValue
  else if w = 1 then (if s.run then 1 else 0) ||| (if s.softReset then 2 else 0)
  else if w = 2 then s.attn.setWidth 32
  else if w = 3 then s.attnEn.setWidth 32
  else 0

end Sys2Proof.Machine
end

