-- ==== Sys2Proof/Machine/Operands.lean ====
section
/-!
DEFINITION. The operand forms: the value a tester write carries (R164), the fields of the records the blocks read, and the recipe
snapshot with its clamps and clamp flags (R177 to R182).
-/

namespace Sys2Proof.Machine

/-! ### Tester writes -/

/-- The mask of the bytes whose lanes are enabled. -/
def laneMask (lanes : Lanes) : Word :=
  (if lanes.getLsbD 0 then 0x000000FF else 0) ||| (if lanes.getLsbD 1 then 0x0000FF00 else 0)
    ||| (if lanes.getLsbD 2 then 0x00FF0000 else 0) ||| (if lanes.getLsbD 3 then 0xFF000000 else 0)

/-- The value a word would hold with the enabled lanes replaced by the written bytes and the others kept (R164). -/
def mergeLanes (old : Word) (lanes : Lanes) (data : Word) : Word :=
  (old &&& ~~~(laneMask lanes)) ||| (data &&& laneMask lanes)

/-- The 32-bit value that a tester write to a word of exchange memory carries (R164). -/
def State.writtenValue (s : State) (w : WordNo) (lanes : Lanes) (data : Word) : Word :=
  mergeLanes (s.readWord w) lanes data

/-! ### Fields of the wafer record, the frames and the slots (10.5) -/

/-- Wafer id (R150). -/
def State.waferId (s : State) : Word := Memory.read32 s.mem (waferBase + 0x08)

/-- Lot tag (R150). -/
def State.lotTag (s : State) : BitVec 16 := Memory.read16 s.mem (waferBase + 0x0C)

/-- Frames run (R150). -/
def State.framesRun (s : State) : Word := Memory.read32 s.mem (waferBase + 0x20)

/-- Keys bound (R150). -/
def State.keysBound (s : State) : Word := Memory.read32 s.mem (waferBase + 0x24)

/-- Frame sequence in the header of frame f (R133). -/
def State.frameSeq (s : State) (f : FrameNo) : Word := Memory.read32 s.mem (frameBase f + 0x008)

/-- Origin x of frame f, signed (R133). -/
def State.originX (s : State) (f : FrameNo) : Int := (Memory.read16 s.mem (frameBase f + 0x00C)).toInt

/-- Origin y of frame f, signed (R133). -/
def State.originY (s : State) (f : FrameNo) : Int := (Memory.read16 s.mem (frameBase f + 0x00E)).toInt

/-- Site enable mask of frame f (R133). -/
def State.enableMask (s : State) (f : FrameNo) : BitVec 16 := Memory.read16 s.mem (frameBase f + 0x010)

/-- Bit n of the enable mask of frame f (R133). -/
def State.enabled (s : State) (f : FrameNo) (k : SiteNo) : Bool := (s.enableMask f).getLsbD k.val

/-- Number of set bits of the enable mask (R133). -/
def State.sitesEnabled (s : State) (f : FrameNo) : Nat := allSites.countP fun k => s.enabled f k

/-- Key disposition byte of the record of site k in frame f (10.5, site record). -/
def State.recordDisposition (s : State) (f : FrameNo) (k : SiteNo) : Byte := Memory.read s.mem (siteRecordBase f k + 0x10)

/-- Serial of slot i (R113). -/
def State.slotSerial (s : State) (i : SlotNo) : Word := Memory.read32 s.mem (slotBase i + 0x08)

/-- The first n bytes of the key value field of slot i (R113). -/
def State.slotKey (s : State) (i : SlotNo) (n : Nat) : List Byte := Memory.readBytes s.mem (slotBase i + 0x20) n

/-- Index of a die position in the wafer map (R158). -/
def mapIndex (x y : Int) : Nat := ((y + 64) * 128 + (x + 64)).toNat

/-- Whether a die position has a map entry: both coordinates lie in -64..63 (R158). -/
def onMap (x y : Int) : Bool := decide (-64 ≤ x) && decide (x ≤ 63) && decide (-64 ≤ y) && decide (y ≤ 63)

/-- The map code at a die position (R158, R161). -/
def State.mapCode (s : State) (x y : Int) : Byte := Memory.read s.mem (mapBase + mapIndex x y)

/-! ### Recipe snapshot -/

/-- A value brought into lo..hi: below the range the lowest value, above it the highest (R178). -/
def clampTo (lo hi raw : Nat) : Nat := if raw < lo then lo else if hi < raw then hi else raw

/-- A clamp flag: set when the raw value differed from the value it is used as (R178). -/
def clampFlag (bit raw used : Nat) : Word := if raw = used then 0 else 1#32 <<< bit

/-- The fields of the recipe record as they stand, before any clamp (10.5, recipe table). -/
structure RawRecipe where
  keyLengthCode : Nat
  burstSize : Nat
  burstOrder : Nat
  attemptLimit : Nat
  baseWidth : Nat
  escalation : Nat
  wb : Nat
  wi : Nat
  minWindow : Nat
  degradedTolerance : Nat
  pumpLevel : Nat
  cellCurrent : Nat
  budget : Nat
  exitCode : Nat
  debounceCount : Nat
  idleTime : Nat
  holdLimit : Nat
  contactTimeout : Nat
  keyWait : Nat
  contactOpenMax : Nat
  contactShortMin : Nat
  thermalWarn : Nat
  thermalShutdown : Nat
  poolWatermark : Nat
  dx : Vector Int 16
  dy : Vector Int 16
  binMap : Vector Nat 14
  deriving DecidableEq, Repr

/-- An unsigned one-byte field of the recipe record. -/
def recipeU8 (m : Memory) (o : Nat) : Nat := (Memory.read m (recipeBase + o)).toNat

/-- An unsigned two-byte field of the recipe record. -/
def recipeU16 (m : Memory) (o : Nat) : Nat := (Memory.read16 m (recipeBase + o)).toNat

/-- The recipe record as it stands (R177, 10.5). -/
def rawRecipe (m : Memory) : RawRecipe :=
  { keyLengthCode := recipeU8 m 0x00, burstSize := recipeU8 m 0x01, burstOrder := recipeU8 m 0x02,
    attemptLimit := recipeU8 m 0x03, baseWidth := recipeU8 m 0x04, escalation := recipeU8 m 0x05, wb := recipeU8 m 0x06,
    wi := recipeU8 m 0x07, minWindow := recipeU16 m 0x08, degradedTolerance := recipeU8 m 0x0A, pumpLevel := recipeU8 m 0x0B,
    cellCurrent := recipeU16 m 0x0C, budget := recipeU16 m 0x0E, exitCode := recipeU8 m 0x10, debounceCount := recipeU8 m 0x11,
    idleTime := recipeU16 m 0x12, holdLimit := recipeU8 m 0x14, contactTimeout := recipeU8 m 0x15, keyWait := recipeU16 m 0x16,
    contactOpenMax := recipeU16 m 0x18, contactShortMin := recipeU16 m 0x1A, thermalWarn := recipeU8 m 0x1C,
    thermalShutdown := recipeU8 m 0x1D, poolWatermark := recipeU8 m 0x1E,
    dx := Vector.ofFn fun n => (Memory.read m (recipeBase + 0x20 + 2 * n.val)).toInt,
    dy := Vector.ofFn fun n => (Memory.read m (recipeBase + 0x21 + 2 * n.val)).toInt,
    binMap := Vector.ofFn fun c => recipeU8 m (0x40 + c.val) }

/-- Whether the snapshot's key length code is one a frame may carry (R180). -/
def RawRecipe.keyLengthOk (r : RawRecipe) : Bool := r.keyLengthCode == 0 || r.keyLengthCode == 1

/-- The working recipe of a snapshot: every field in its range, in each dependent pair the first field first (R178 to R182). -/
def RawRecipe.clamped (r : RawRecipe) : Recipe :=
  let wb := clampTo 1 7 r.wb
  let budget := clampTo 20 1000 r.budget
  let warn := clampTo 60 150 r.thermalWarn
  let openMax := clampTo 0 1022 r.contactOpenMax
  { keyLength := if r.keyLengthCode = 1 then .bits256 else .bits128
    burstSize := clampTo 1 8 r.burstSize
    burstOrder := if r.burstOrder = 1 then .split else .linear
    attemptLimit := clampTo 1 8 r.attemptLimit
    baseWidth := clampTo 1 50 r.baseWidth
    escalation := clampTo 0 16 r.escalation
    wb := wb
    wi := clampTo 0 (wb - 1) r.wi
    minWindow := clampTo 16 1023 r.minWindow
    degradedTolerance := clampTo 0 16 r.degradedTolerance
    pumpLevel := clampTo 0 15 r.pumpLevel
    cellCurrent := clampTo 1 (min 60 budget) r.cellCurrent
    budget := budget
    exitKind := if r.exitCode = 0 then .fast else .slow
    debounceCount := clampTo 1 15 r.debounceCount
    idleTime := clampTo 0 1000 r.idleTime
    holdLimit := clampTo 1 100 r.holdLimit
    contactTimeout := clampTo 1 50 r.contactTimeout
    keyWait := clampTo 0 5000 r.keyWait
    contactOpenMax := openMax
    contactShortMin := clampTo (openMax + 1) 1023 r.contactShortMin
    thermalWarn := warn
    thermalShutdown := clampTo (warn + 10) 180 r.thermalShutdown
    poolWatermark := r.poolWatermark
    dx := r.dx
    dy := r.dy
    binMap := Vector.ofFn fun c => clampTo 0 63 (look r.binMap c) }

/-- The clamp flags of a snapshot, by the bit numbers of the recipe layout (R178 to R182, 10.5). -/
def RawRecipe.clampFlags (r : RawRecipe) : Word :=
  let u := r.clamped
  clampFlag 0 r.burstSize u.burstSize ||| (if r.burstOrder ≤ 1 then 0#32 else 1#32 <<< 1)
    ||| clampFlag 2 r.attemptLimit u.attemptLimit ||| clampFlag 3 r.baseWidth u.baseWidth
    ||| clampFlag 4 r.escalation u.escalation ||| clampFlag 5 r.wb u.wb ||| clampFlag 6 r.wi u.wi
    ||| clampFlag 7 r.minWindow u.minWindow ||| clampFlag 8 r.degradedTolerance u.degradedTolerance
    ||| clampFlag 9 r.pumpLevel u.pumpLevel ||| clampFlag 10 r.cellCurrent u.cellCurrent ||| clampFlag 11 r.budget u.budget
    ||| clampFlag 12 r.debounceCount u.debounceCount ||| clampFlag 13 r.idleTime u.idleTime
    ||| clampFlag 14 r.holdLimit u.holdLimit ||| clampFlag 15 r.contactTimeout u.contactTimeout
    ||| clampFlag 16 r.keyWait u.keyWait ||| clampFlag 17 r.contactOpenMax u.contactOpenMax
    ||| clampFlag 18 r.contactShortMin u.contactShortMin ||| clampFlag 19 r.thermalWarn u.thermalWarn
    ||| clampFlag 20 r.thermalShutdown u.thermalShutdown
    ||| (if (List.finRange 14).all fun c => look r.binMap c == look u.binMap c then 0#32 else 1#32 <<< 21)

/-- The recipe of a record that is all zero (11.6): what stands in for the working recipe in a state that holds none (log 18). -/
def zeroRecipe : Recipe := (rawRecipe []).clamped

/-- The working recipe of the running frame (R35, R135). -/
def State.workingRecipe (s : State) : Recipe :=
  match s.sched.running with
  | some f => (look s.sched.recipes f).getD zeroRecipe
  | none => zeroRecipe

/-- Die x of site k for frame f and a recipe: origin plus offset, exactly (R142). -/
def State.dieX (s : State) (f : FrameNo) (r : Recipe) (k : SiteNo) : Int := s.originX f + look r.dx k

/-- Die y of site k for frame f and a recipe (R142). -/
def State.dieY (s : State) (f : FrameNo) (r : Recipe) (k : SiteNo) : Int := s.originY f + look r.dy k

end Sys2Proof.Machine
end

