-- ==== Sys2Proof/Machine/Sense.lean ====
section
/-!
DEFINITION. Sense arithmetic (02): the reference window and thresholds, the verify, margins, pulse width and the current sort.
-/

namespace Sys2Proof.Machine

/-! ### Reference window and thresholds -/

/-- d = ref_blown - ref_open, signed (R17). -/
def windowOf (refOpen refBlown : SenseCode) : Int := (refBlown.val : Int) - (refOpen.val : Int)

/-- The window check (R18). -/
def windowPasses (minWindow : Nat) (refOpen refBlown : SenseCode) : Bool :=
  decide ((minWindow : Int) ≤ windowOf refOpen refBlown)

/-- A threshold: ref_open + floor(d * weight / 8) (R20). -/
def threshold (refOpen : SenseCode) (d : Int) (weight : Nat) : Nat := refOpen.val + (d.toNat * weight) / 8

/-- The reference set taken at the completion of the REFERENCE READ: both codes and d, and the thresholds if the window check passes,
else 0 (R17, R18, R20). -/
def takeRefs (r : Recipe) (refOpen refBlown : SenseCode) : RefSet :=
  let d := windowOf refOpen refBlown
  if windowPasses r.minWindow refOpen refBlown then
    { refOpen := refOpen.val, refBlown := refBlown.val, d := d, tI := threshold refOpen d r.wi, tB := threshold refOpen d r.wb }
  else { refOpen := refOpen.val, refBlown := refBlown.val, d := d, tI := 0, tB := 0 }

/-! ### The verify -/

/-- Class of a cell from its lo and hi values and the thresholds (R22). -/
def classOf (refs : RefSet) (lo hi : SenseCode) : CellClass :=
  if refs.tB ≤ lo.val then .blown else if hi.val ≤ refs.tI then .intact else .marginal

/-- A completed verify from the codes of read A and read B (R21, R22). -/
def verifyRow (refs : RefSet) (a b : LaneCodes) : RowVerify :=
  { cells := Vector.ofFn fun c => classOf refs (min (look a c) (look b c)) (max (look a c) (look b c))
    lo := Vector.ofFn fun c => min (look a c) (look b c)
    hi := Vector.ofFn fun c => max (look a c) (look b c) }

/-- The disturb columns: expected intact and not INTACT (R23). -/
def disturbSet (image : ColSet) (v : RowVerify) : ColSet :=
  colSet fun c => !hasCol image c && !(look v.cells c == .intact)

/-- The failing expected-blown columns: expected blown and not BLOWN (R23). -/
def failingSet (image : ColSet) (v : RowVerify) : ColSet :=
  colSet fun c => hasCol image c && !(look v.cells c == .blown)

/-! ### Margins -/

/-- Blown margin of a cell: lo - T_b (R24). -/
def blownMargin (refs : RefSet) (v : RowVerify) (c : Col) : Int := ((look v.lo c).val : Int) - (refs.tB : Int)

/-- Intact margin of a cell: T_i - hi (R24). -/
def intactMargin (refs : RefSet) (v : RowVerify) (c : Col) : Int := (refs.tI : Int) - ((look v.hi c).val : Int)

/-- The worst blown margin after a row is folded: the lowest of it and the margins of the expected-blown cells (R25). -/
def foldBlown (refs : RefSet) (image : ColSet) (v : RowVerify) (worst : Int) : Int :=
  allCols.foldl (fun w c => if hasCol image c then min w (blownMargin refs v c) else w) worst

/-- The worst intact margin after a row is folded (R25). -/
def foldIntact (refs : RefSet) (image : ColSet) (v : RowVerify) (worst : Int) : Int :=
  allCols.foldl (fun w c => if hasCol image c then w else min w (intactMargin refs v c)) worst

/-! ### Pulse width and current sort -/

/-- Width of a pulse of attempt n in ticks: ceil(W0 * (8 + n * E) / 2), clamped to 4..800 (R26, R27). -/
def pulseTicks (r : Recipe) (n : Nat) : Nat :=
  max 4 (min 800 ((r.baseWidth * (8 + n * r.escalation) + 1) / 2))

/-- The limits of a pulse that carries c cells (R28). -/
def limitsFor (cellCurrent c : Nat) : PulseLimits :=
  { expected := c * cellCurrent, overLimit := 2 * (c * cellCurrent), openLimit := (c * cellCurrent) / 4 }

/-- A current sample in the measuring range 0..2000 mA (R28). -/
def senseCurrent (sample : Nat) : Nat := min sample 2000

/-- The three sorts of a pulse (R29, R30). -/
inductive PulseSort where
  | good | opened | overcurrent
  deriving DecidableEq, Repr

/-- The sort of a pulse that completed: OVERCURRENT before OPEN; the open test is skipped when the pump entered HOLD during the pulse
or is in HOLD at its completion (R29, R30, R104, R105). -/
def sortCompletion (limits : PulseLimits) (sample : Nat) (held : Bool) : PulseSort :=
  if limits.overLimit < sample then .overcurrent
  else if !held && decide (sample < limits.openLimit) then .opened
  else .good

/-! ### Contact -/

/-- The three classes of a contact sample (R13, R36). -/
inductive ContactClass where
  | opened | short | good
  deriving DecidableEq, Repr

/-- Class of a contact sample: open below contact_open_max, short above contact_short_min, good otherwise (R36). -/
def contactClass (r : Recipe) (code : SenseCode) : ContactClass :=
  if code.val < r.contactOpenMax then .opened
  else if r.contactShortMin < code.val then .short
  else .good

end Sys2Proof.Machine
end

