-- ==== Sys2Proof/Machine/Supply.lean ====
section
/-!
DEFINITION. The supply unit and the budget arbiter (05), and what a grant does at its site: SELECT, PULSE, counts and limits
(R44, R66, R67, R71 to R74, R104). Timer periods are in microseconds.
-/

namespace Sys2Proof.Machine

/-! ### Pump transitions -/

/-- Entry to RAMP: the settle timer is started for 200 microseconds (R84). -/
def Supply.toRamp (p : Supply) : Supply :=
  { p with pump := .ramp, settleTimer := some 200, wakeTimer := none, idleTimer := none, holdTimer := none }

/-- Entry to WAKE: the wake timer is started for 10 microseconds (R86). -/
def Supply.toWake (p : Supply) : Supply := { p with pump := .wake, wakeTimer := some 10 }

/-- Entry to READY from RAMP or WAKE (R84, R86). -/
def Supply.toReady (p : Supply) : Supply := { p with pump := .ready, settleTimer := none, wakeTimer := none }

/-- Entry to IDLE_LOW: the idle kind is taken from the low-power exit of the supply parameters (R85). -/
def Supply.toIdleLow (p : Supply) : Supply := { p with pump := .idleLow, idleTimer := none, idleKind := p.params.exitKind }

/-- Entry to HOLD: settle, wake and idle timer stop, the hold timer is started for hold_limit, the hold count rises (R87). -/
def Supply.toHold (p : Supply) : Supply :=
  { p with pump := .hold, settleTimer := none, wakeTimer := none, idleTimer := none,
           holdTimer := some (p.params.holdLimit * 1000), holdCount := sat16 (p.holdCount + 1) }

/-- Entry to OFF: off pending is cleared and every timer stops (R89, R90). -/
def Supply.toOff (p : Supply) : Supply :=
  { p with pump := .off, offPending := false, settleTimer := none, wakeTimer := none, idleTimer := none, holdTimer := none }

/-- Starts the idle timer for idle_time when the pump is READY with off pending clear, no request waits and no pulse is in flight;
an idle_time of 0 starts none (R84, R85, R95, R96). -/
def State.startIdleIfQuiet (s : State) : State :=
  if s.supply.granting && s.arbiter.noRequest && s.arbiter.noGrant && s.supply.params.idleTime != 0 then
    s.onSupply fun p => { p with idleTimer := some (p.params.idleTime * 1000) }
  else s

/-- What the arrival of a burst request does to the pump: it wakes it from OFF when RUN is 1 and from IDLE_LOW by its kind, and stops
the idle timer in READY; with off pending set the pump makes no such transition (R83, R85, R86, R90). -/
def Supply.onRequest (run : Bool) (p : Supply) : Supply :=
  match p.pump with
  | .off => if run && !p.offPending then p.toRamp else p
  | .idleLow => if p.offPending then p else if p.idleKind = .fast then p.toWake else p.toRamp
  | .ready => { p with idleTimer := none }
  | _ => p

/-! ### Grants -/

/-- The site takes a grant of g cells: SELECT of the burst's first g columns, PULSE of Ticks(n), the pulsed flag, the counts and the
chop flag; the monitor fixes its limits for g cells (R44, R66, R67, R71 to R74, R104). -/
def Site.issuePulse (r : Recipe) (g : Nat) (chopped : Bool) (x : Site) : Site :=
  { seq :=
      { x.seq with
        state := .pulse
        pulsed := true
        pulsesIssued := x.seq.pulsesIssued + 1
        cellsPulsed := x.seq.cellsPulsed + x.former.newCells g
        highestAttempt := max x.seq.highestAttempt x.former.attempt
        chopApplied := x.seq.chopApplied || chopped }
    former := x.former.takeGrant g
    monitor :=
      { x.monitor with
        phase := .measuring, limits := some (limitsFor r.cellCurrent g), sample := none, holdTouched := false }
    port :=
      { selection := x.former.row.map fun row => (row, setOf (x.former.current.take g))
        op := some (.pulse (pulseTicks r x.former.attempt)) } }

/-- The arbiter grants site k the current for g cells and hands the grant to the site at once (R94, R95). -/
def State.grant (k : SiteNo) (g : Nat) (chopped : Bool) (s : State) : State :=
  State.onSite k (Site.issuePulse s.workingRecipe g chopped)
    { s with
      arbiter :=
        { requests := put s.arbiter.requests k none
          grants := put s.arbiter.grants k (some g)
          inUse := s.arbiter.inUse + g * s.supply.params.cellCurrent
          lastGranted := k } }

/-- Half of a request, rounded up (R67, R94). -/
def chopOf (n : Nat) : Nat := (n + 1) / 2

/-- Whether g cells fit in what is left of the budget (R94). -/
def State.fits (s : State) (g : Nat) : Bool :=
  decide (s.arbiter.inUse + g * s.supply.params.cellCurrent ≤ s.supply.params.budget)

/-- The grant rule for one site of a pass: whole, else chopped, else it keeps waiting (R94). -/
def State.grantTurn (k : SiteNo) (s : State) : State :=
  match look s.arbiter.requests k with
  | none => s
  | some n =>
    if s.fits n then s.grant k n false
    else if 2 ≤ n ∧ s.fits (chopOf n) = true then s.grant k (chopOf n) true
    else s

/-- The sixteen sites in round-robin order, beginning at the site after the last granted one (R94). -/
def passOrder (last : SiteNo) : List SiteNo := (List.range 16).map fun i => Fin.ofNat 16 (last.val + 1 + i)

/-- One evaluation pass; made only while the pump is READY and off pending is clear (R93, R94). -/
def State.evaluate (s : State) : State :=
  if s.supply.granting then (passOrder s.arbiter.lastGranted).foldl (fun t k => t.grantTurn k) s else s

/-- A burst request of site k for n cells arrives: it is entered as the site's waiting request, and it may wake the pump (R83, R85, R86,
R93). The evaluation on its arrival is the step BUDGET_GRANT, so that an ending event or a stop may be taken between the request and its
grant (R54 to R56, R96; log 31). -/
def State.requestBurst (k : SiteNo) (n : Nat) (s : State) : State :=
  { s with
    arbiter := { s.arbiter with requests := put s.arbiter.requests k (some n) }
    supply := s.supply.onRequest s.run }

/-- The site withdraws its waiting burst request, if it has one (R96). -/
def State.withdrawBurst (k : SiteNo) (s : State) : State :=
  match look s.arbiter.requests k with
  | none => s
  | some _ =>
    State.startIdleIfQuiet { s with arbiter := { s.arbiter with requests := put s.arbiter.requests k none } }

/-- Off pending completes when the current in use is 0: the pump enters OFF (R90). -/
def State.completeOffPending (s : State) : State :=
  if s.supply.offPending && s.arbiter.inUse == 0 then s.onSupply Supply.toOff else s

/-- A release lowers the current in use by the g cells of site k's grant, and off pending may complete (R90, R95). -/
def State.lowerInUse (k : SiteNo) (g : Nat) (s : State) : State :=
  State.completeOffPending
    { s with
      arbiter :=
        { s.arbiter with
          grants := put s.arbiter.grants k none
          inUse := s.arbiter.inUse - g * s.supply.params.cellCurrent } }

/-- The grant of site k is released at the completion or truncation of its pulse: requests that arrived before it are evaluated first, so
that each is tested against the current in use it arrived at; then the current in use falls, the waiting requests are evaluated, and the
idle timer starts if nothing is left (R93, R95; log 31). -/
def State.release (k : SiteNo) (s : State) : State :=
  match look s.arbiter.grants k with
  | none => s
  | some g => ((s.evaluate.lowerInUse k g).evaluate).startIdleIfQuiet

/-- The pump enters READY: the waiting requests are evaluated, and the idle timer starts if none waits and no pulse is in flight
(R84, R86, R93). -/
def State.enterReady (s : State) : State := ((s.onSupply Supply.toReady).evaluate).startIdleIfQuiet

/-! ### Frame start, RUN and the pump monitor's events -/

/-- The supply parameters of a working recipe (R81). -/
def Recipe.supplyParams (r : Recipe) : SupplyParams :=
  { budget := r.budget, cellCurrent := r.cellCurrent, level := r.pumpLevel, exitKind := r.exitKind, idleTime := r.idleTime,
    holdLimit := r.holdLimit }

/-- The supply parameters are loaded; a running idle timer is restarted with the new idle_time, or stopped if it is 0 (R81). -/
def Supply.loadParams (q : SupplyParams) (p : Supply) : Supply :=
  { p with
    params := q
    idleTimer := match p.idleTimer with
      | none => none
      | some _ => if q.idleTime = 0 then none else some (q.idleTime * 1000) }

/-- The level comparison at a frame start, by pump state (R82). With off pending set the pump makes no transition to RAMP (R90). -/
def Supply.changeLevel (level : Nat) (p : Supply) : Supply :=
  if p.level = level then p
  else
    match p.pump with
    | .off | .hold => { p with level := level }
    | _ => if p.offPending then { p with level := level } else { p with level := level }.toRamp

/-- A frame start loads its supply parameters and compares the pump level (R81, R82). -/
def Supply.frameStart (r : Recipe) (p : Supply) : Supply :=
  (p.loadParams r.supplyParams).changeLevel r.pumpLevel

/-- RUN set: a request that waits sends the pump from OFF to RAMP (R83, R171). -/
def State.supplyRunSet (s : State) : State :=
  if s.supply.pump == .off && !s.supply.offPending && !s.arbiter.noRequest then s.onSupply Supply.toRamp else s

/-- RUN clear: off pending is set unless the pump is OFF, settle, wake and idle timer stop, and off pending completes at once if the
current in use is 0 (R90). -/
def State.supplyRunClear (s : State) : State :=
  if s.supply.pump = .off then s
  else
    State.completeOffPending
      (s.onSupply fun p => { p with offPending := true, settleTimer := none, wakeTimer := none, idleTimer := none })

/-- The supply hold seen flag of a site in a state from CONTACT up to END, and the hold touched mark of a pulse in flight, at the
pump's entry to HOLD (R87, R104, R109). -/
def Site.noteHold (x : Site) : Site :=
  { x with
    monitor :=
      { x.monitor with
        holdSeen := x.monitor.holdSeen || x.seq.state.isRunning
        holdTouched := x.monitor.holdTouched || x.monitor.phase == .measuring } }

/-- The pump enters HOLD (R87). -/
def State.enterHold (s : State) : State :=
  ((s.onSupply Supply.toHold).raise .supplyHold).onEverySite Site.noteHold

/-- The soft reset column of R80 and R91: everything but the hold count takes its reset value. -/
def Supply.softReset (p : Supply) : Supply := { Supply.reset with holdCount := p.holdCount }

/-! ### Meanings of the supply commands -/

/-- SETTLE_TIMER_EXPIRY (R84). -/
def execSettleTimerExpiry (s : State) : Host.Outcome State Fault Refusal :=
  if s.supply.pump = .ramp ∧ s.supply.settleTimer.isSome = true then .next s.enterReady else .next s

/-- WAKE_TIMER_EXPIRY (R86). -/
def execWakeTimerExpiry (s : State) : Host.Outcome State Fault Refusal :=
  if s.supply.pump = .wake ∧ s.supply.wakeTimer.isSome = true then .next s.enterReady else .next s

/-- IDLE_TIMER_EXPIRY (R85). -/
def execIdleTimerExpiry (s : State) : Host.Outcome State Fault Refusal :=
  if s.supply.pump = .ready ∧ s.supply.idleTimer.isSome = true then .next (s.onSupply Supply.toIdleLow) else .next s

/-- UNDERVOLTAGE_EVENT (R87): taken in a powered state, without effect in any other. -/
def execUndervoltageEvent (s : State) : Host.Outcome State Fault Refusal :=
  if s.supply.powered then .next s.enterHold else .next s

/-- SUPPLY_GOOD_EVENT (R88): taken in HOLD, unless off pending is set (R90). -/
def execSupplyGoodEvent (s : State) : Host.Outcome State Fault Refusal :=
  if s.supply.pump = .hold ∧ s.supply.offPending = false then .next (s.onSupply Supply.toRamp) else .next s

/-- OFF_PENDING_COMPLETION (R90). -/
def execOffPendingCompletion (s : State) : Host.Outcome State Fault Refusal := .next s.completeOffPending

/-- BUDGET_GRANT (R94): one evaluation pass of the arbiter, the one that follows the arrival of a request (R93; log 31). A pass with no
request that fits changes nothing. -/
def execBudgetGrant (s : State) : Host.Outcome State Fault Refusal := .next s.evaluate

end Sys2Proof.Machine
end

