-- ==== Sys2Proof/Machine/Burn.lean ====
section
/-!
DEFINITION. How a site goes through its rows (03, 3.6 to 3.8): beginning a row or an attempt, going on after a GOOD pulse, entering
FINAL and the LOCKING phase. None of these ends the site.
-/

namespace Sys2Proof.Machine

/-- The effective burst size of site k at this moment (R64). -/
def State.burstSize (s : State) (k : SiteNo) : Nat :=
  effectiveSize s.workingRecipe.burstSize (s.site k).monitor.warnLive

/-- The site requests its current burst from the arbiter and is in BURN_WAIT (R43, R44, R65, R68). -/
def State.requestCurrent (k : SiteNo) (s : State) : State :=
  State.requestBurst k (s.site k).former.current.length (s.onSeq k fun q => { q with state := .burnWait })

/-- Attempt n of a row begins: the pending set goes to the former, which cuts the first burst, and the burst is requested (R43, R46,
R62, R70). -/
def State.beginAttempt (k : SiteNo) (row : Row) (n : Nat) (pending : ColSet) (s : State) : State :=
  State.requestCurrent k
    ((s.onSeq k fun q => { q with row := some row, attempt := n, pendingSet := pending }).onFormer k
      (Former.takeAttempt s.workingRecipe.burstOrder (s.burstSize k) row n pending))

/-- The site issues read A of the verify of a row (R21). -/
def State.issueVerify (k : SiteNo) (row : Row) (s : State) : State := s.issueOp k (.rowRead row .nominal)

/-- The site enters FINAL: margins and degraded pairs start anew and the verify of row 0 is issued (R25, R47). No rule gives the attempt
number in FINAL, where no attempt is made: that it is 0 there is the model's choice (log 29, DESIGN CHOICE, unsafe). -/
def State.enterFinal (k : SiteNo) (s : State) : State :=
  State.issueVerify k 0
    (s.onSeq k fun q =>
      { q with state := .final, row := some 0, attempt := 0, pendingSet := 0, worstBlown := 1023, worstIntact := 1023, degraded := 0 })

/-- The first row of a plan, from a row up, that is to be burned in the BURN phase: it is not the lock row and its expected-blown set
is not empty (R43). -/
def firstBurnRow (len : KeyLength) (plan : List PlanRow) (row : Row) : Option PlanRow :=
  plan.find? fun e => decide (row ≤ e.row) && e.row != len.lockRow && e.image != 0

/-- A row of the BURN phase becomes current: rows with an empty expected-blown set are passed over, and after row K + 1 the site enters
FINAL (R43, R46). -/
def State.beginRow (k : SiteNo) (row : Row) (s : State) : State :=
  match firstBurnRow s.workingRecipe.keyLength (s.site k).seq.plan row with
  | some e => State.beginAttempt k e.row 0 e.image s
  | none => State.enterFinal k s

/-- The site enters the LOCKING phase and the lock row becomes current (R48, R49). -/
def State.beginLocking (k : SiteNo) (s : State) : State :=
  State.beginAttempt k s.workingRecipe.keyLength.lockRow 0
    (planImage (s.site k).seq.plan s.workingRecipe.keyLength.lockRow) (s.onSeq k fun q => { q with phase := .locking })

/-- After a pulse sorted GOOD: the held remainder or the next burst is requested, or, when every cell of the attempt has been carried,
the verify of the current row is issued (R44, R68). -/
def State.afterGoodPulse (k : SiteNo) (s : State) : State :=
  let t := s.onFormer k (Former.afterGood (s.burstSize k))
  if (t.site k).former.state = .exhausted then
    match (t.site k).seq.row with
    | some row => State.issueVerify k row (t.onSeq k fun q => { q with state := .verify })
    | none => t
  else State.requestCurrent k t

end Sys2Proof.Machine
end

