-- ==== Sys2Proof/Machine/KeyPool.lean ====
section
/-!
DEFINITION. The key pool unit (07): choosing and drawing a slot, the key grant at the site, evaluation of the waiting sites, and the
settlement of a key by bind, void or return.
-/

namespace Sys2Proof.Machine

/-- What a draw hands to a site: the slot, its serial and the contents of the key buffer (R123). -/
structure KeyGrant where
  site : SiteNo
  slot : SlotNo
  serial : Word
  buffer : List Byte
  deriving DecidableEq, Repr

/-- The slots in scan order: from the draw cursor upward, wrapping from 255 to 0, each once (R122). -/
def scanOrder (cursor : SlotNo) : List SlotNo := (List.range 256).map fun i => Fin.ofNat 256 (cursor.val + i)

/-- The slot drawn next, with the pool after the choice: the head of the redraw list, else the first LOADED slot of the scan, which
moves the cursor past it (R122). -/
def Pool.choose (p : Pool) : Option (SlotNo × Pool) :=
  match p.redraw with
  | i :: rest => some (i, { p with redraw := rest })
  | [] =>
    match (scanOrder p.cursor).find? fun i => look p.slots i == .loaded with
    | some i => some (i, { p with cursor := Fin.ofNat 256 (i.val + 1) })
    | none => none

/-- loaded_count falls by 1, and POOL_LOW is raised if the fall crosses the watermark in force (R126). -/
def State.lowerLoaded (s : State) : State :=
  let t := s.onPool fun p => { p with loadedCount := p.loadedCount - 1 }
  if s.pool.watermark ≤ s.pool.loadedCount ∧ s.pool.loadedCount - 1 < s.pool.watermark then t.raise .poolLow else t

/-- A draw of slot i for site k, from the pool as the choice left it: DRAWN, key copied and wiped, waiting request removed, tallies
(R121, R123). -/
def State.drawSlot (k : SiteNo) (i : SlotNo) (p : Pool) (s : State) : State :=
  State.lowerLoaded
    (State.store (slotBase i + 0x20) (List.replicate 32 0)
      { s with
        pool := { p with slots := put p.slots i .drawn, waiting := put p.waiting k none, draws := sat16 (p.draws + 1) } })

/-- Draws a slot for site k with a key length, if a slot is drawable (R120, R122, R123). -/
def State.draw (k : SiteNo) (len : KeyLength) (s : State) : Option (State × KeyGrant) :=
  match s.pool.choose with
  | none => none
  | some (i, p) =>
    some (s.drawSlot k i p, { site := k, slot := i, serial := s.slotSerial i, buffer := s.slotKey i len.keyBytes })

/-- The site takes its key grant: the timer stops, it holds the key, computes the fingerprint, builds the plan, clears the pulsed flag
and begins the first row (R7, R40, R42). -/
def State.takeKeyGrant (g : KeyGrant) (s : State) : State :=
  State.beginRow g.site 0
    (s.onSeq g.site fun q =>
      { q with
        keyTimer := none
        key := some { slot := g.slot, serial := g.serial, buffer := g.buffer }
        fingerprint := checkValue g.buffer
        plan := rowPlan s.workingRecipe.keyLength g.buffer q.lotTag
        pulsed := false })

/-- Hands key grants to their sites, in order. -/
def State.deliver (gs : List KeyGrant) (s : State) : State := gs.foldl (fun t g => t.takeKeyGrant g) s

/-- One turn of an evaluation: a waiting site is served if a slot is drawable (R121). -/
def drawTurn (acc : State × List KeyGrant) (k : SiteNo) : State × List KeyGrant :=
  match look acc.1.pool.waiting k with
  | none => acc
  | some len =>
    match acc.1.draw k len with
    | none => acc
    | some (t, g) => (t, acc.2 ++ [g])

/-- An evaluation of the waiting sites in ascending number: the state after its draws and the key grants they make, not yet taken
(R121). -/
def State.evaluateDraws (s : State) : State × List KeyGrant := allSites.foldl drawTurn (s, [])

/-- An evaluation whose key grants are taken at once (R121, R123). -/
def State.evaluatePool (s : State) : State := State.deliver s.evaluateDraws.2 s.evaluateDraws.1

/-- The site withdraws its draw request (R124). -/
def State.withdrawDraw (k : SiteNo) (s : State) : State := s.onPool fun p => { p with waiting := put p.waiting k none }

/-! ### Settlement -/

/-- The frame sequence of the running frame (R127, R129). -/
def State.runningSeq (s : State) : Word :=
  match s.sched.running with
  | some f => s.frameSeq f
  | none => 0

/-- The disposition fields of slot i are written for site k (R129, 10.5). -/
def State.writeDisposition (k : SiteNo) (i : SlotNo) (s : State) : State :=
  ((s.store (slotBase i + 0x0C) [nat8 k.val]).store (slotBase i + 0x0E) (bytes16 (s.site k).seq.fingerprint)).store
    (slotBase i + 0x10)
    (bytes32 s.waferId ++ int16 (s.site k).seq.dieX ++ int16 (s.site k).seq.dieY ++ bytes32 s.runningSeq)

/-- A bind of slot i from site k (R129). -/
def State.bindSlot (k : SiteNo) (i : SlotNo) (s : State) : State :=
  State.writeDisposition k i ((s.setSlot i .bound).onPool fun p => { p with bound := sat16 (p.bound + 1) })

/-- A void of slot i from site k (R129). -/
def State.voidSlot (k : SiteNo) (i : SlotNo) (s : State) : State :=
  State.writeDisposition k i ((s.setSlot i .voided).onPool fun p => { p with voided := sat16 (p.voided + 1) })

/-- A return of slot i with the contents of the key buffer, 16 or 32 bytes, before the evaluation it starts (R128). -/
def State.returnSlot (i : SlotNo) (buffer : List Byte) (s : State) : State :=
  State.store (slotBase i + 0x20) (buffer.take 32)
    ((s.setSlot i .loaded).onPool fun p =>
      { p with redraw := p.redraw ++ [i], loadedCount := p.loadedCount + 1, returned := sat16 (p.returned + 1) })

/-- Settlement of the key a site holds, by the return-versus-void rule: the state after it, the disposition, and the key grants of the
evaluation a return starts (R127, R128, R129). -/
def State.settleKey (k : SiteNo) (o : SiteOutcome) (s : State) : State × Disposition × List KeyGrant :=
  match (s.site k).seq.key with
  | none => (s, .none, [])
  | some h =>
    if o = .keyed then (s.bindSlot k h.slot, .bound, [])
    else if (s.site k).seq.pulsed then (s.voidSlot k h.slot, .voided, [])
    else ((s.returnSlot h.slot h.buffer).evaluateDraws.1, .returned, (s.returnSlot h.slot h.buffer).evaluateDraws.2)

/-! ### Slot writes of the tester -/

/-- The refusal reason and the disposition fields of slot i are written: the reason, and zeros (R116, R117). -/
def State.clearDisposition (i : SlotNo) (reason : Nat) (s : State) : State :=
  ((s.store (slotBase i + 0x04) [nat8 reason]).store (slotBase i + 0x0C) [0]).store (slotBase i + 0x0E) (List.replicate 14 0)

/-- The test that refuses a load, if one does: the zero key first, then the serial order (R116). -/
def State.loadRefusal (i : SlotNo) (s : State) : Option RefusalReason :=
  if s.slotKey i 16 = List.replicate 16 0 then some .zeroKey
  else if s.slotSerial i ≤ s.pool.highMark then some .serialOrder
  else none

/-- A load is refused (R116). -/
def State.refuseLoad (i : SlotNo) (why : RefusalReason) (s : State) : State :=
  State.raise .slotRefused
    ((State.clearDisposition i why.code (s.setSlot i .refused)).onPool fun p => { p with refused := sat16 (p.refused + 1) })

/-- A load is accepted, before the evaluation it starts (R117). -/
def State.acceptLoad (i : SlotNo) (s : State) : State :=
  (State.clearDisposition i 0 (s.setSlot i .loaded)).onPool fun p =>
    { p with highMark := s.slotSerial i, loadedCount := p.loadedCount + 1 }

/-- A load of slot i is taken (R116, R117). -/
def State.takeLoad (i : SlotNo) (s : State) : State :=
  match s.loadRefusal i with
  | some why => s.refuseLoad i why
  | none => (s.acceptLoad i).evaluatePool

/-- A reclaim of slot i is taken (R118). -/
def State.takeReclaim (i : SlotNo) (s : State) : State :=
  ((s.setSlot i .empty).store (slotBase i + 0x04) [0]).store (slotBase i + 0x20) (List.replicate 32 0)

/-- A withdraw of slot i is taken (R119). -/
def State.takeWithdraw (i : SlotNo) (s : State) : State :=
  State.lowerLoaded
    (((s.setSlot i .empty).store (slotBase i + 0x20) (List.replicate 32 0)).onPool fun p =>
      { p with redraw := p.redraw.filter fun j => j != i })

/-- The lowest-numbered site with a waiting draw request, with its key length (R121). -/
def Pool.nextWaiting (p : Pool) : Option (SiteNo × KeyLength) :=
  allSites.findSome? fun k => (look p.waiting k).map fun len => (k, len)

/-- KEY_DRAW (R123): one draw, for the lowest-numbered waiting site, when a slot is drawable. -/
def execKeyDraw (s : State) : Host.Outcome State Fault Refusal :=
  match s.pool.nextWaiting with
  | none => .next s
  | some (k, len) =>
    match s.draw k len with
    | none => .next s
    | some (t, g) => .next (t.takeKeyGrant g)

end Sys2Proof.Machine
end

