-- ==== Sys2Proof/Machine/SiteEnd.lean ====
section
/-!
DEFINITION. How a site ends (03, 3.9 and 3.10): withdrawal, key settlement, site record, map write and report (R51 to R53), the stops
(R55 to R57), truncation and the thermal shutdown event (R31, R54, R102), and the order in which one command reaches several sites.
-/

namespace Sys2Proof.Machine

/-! ### End actions -/

/-- Whether the operation in flight at a port outlives its site's entry to END: reads complete later, contact sampling stops (R8, R51). -/
def PortOp.outlivesEnd : PortOp → Bool
  | .contactSample => false
  | _ => true

/-- The port at its site's entry to END: the selection becomes none, at once or, with a read in flight, when it completes (R8). -/
def Port.atEnd (p : Port) : Port :=
  match p.op with
  | none => { selection := none, op := none }
  | some op => if op.outlivesEnd then p else { selection := none, op := none }

/-- A site enters END with an outcome: both timers stop, sampling stops, the row plan is discarded, the former discards its work (R3,
R8, R51, R60). No rule says what becomes of read A's codes when a site ends with read B in flight: that the lane buffer keeps them until
the return to IDLE, where no verify can use them, is the model's choice (log 32, DESIGN CHOICE). -/
def Site.enterEnd (o : SiteOutcome) (x : Site) : Site :=
  { seq := { x.seq with state := .ended, outcome := some o, contactTimer := none, keyTimer := none, plan := [] }
    former := x.former.discard
    monitor := x.monitor
    port := x.port.atEnd }

/-- The 38 bytes of a site record (R52, R134, 10.5). -/
def recordBytes (k : SiteNo) (x : Site) (r : Recipe) (o : SiteOutcome) (d : Disposition) (serial : Word) : List Byte :=
  [nat8 k.val, nat8 o.code.val, nat8 x.seq.skip.code, nat8 (look r.binMap o.code)]
    ++ int32 x.seq.dieX ++ int32 x.seq.dieY ++ bytes32 serial
    ++ [nat8 d.code, latchedFlags x] ++ bytes16 x.seq.fingerprint
    ++ nat16 x.seq.refs.refOpen ++ nat16 x.seq.refs.refBlown ++ nat16 x.seq.refs.tI ++ nat16 x.seq.refs.tB
    ++ nat16 x.seq.cellsPulsed ++ nat16 x.seq.pulsesIssued
    ++ [nat8 x.seq.highestAttempt, nat8 (min x.seq.degraded 255)] ++ int16 x.seq.worstBlown ++ int16 x.seq.worstIntact

/-- The site writes its record into the running frame (R52). -/
def State.writeRecord (k : SiteNo) (o : SiteOutcome) (d : Disposition) (serial : Word) (s : State) : State :=
  match s.sched.running with
  | some f => s.store (siteRecordBase f k) (recordBytes k (s.site k) s.workingRecipe o d serial)
  | none => s

/-- The map code of the outcome is written at the site's die position; SKIPPED writes none, and a position off the map has no entry
(R52, R53, R158, R161). -/
def State.writeMap (k : SiteNo) (o : SiteOutcome) (s : State) : State :=
  let q := (s.site k).seq
  match mapCodeOf o q.pulsed with
  | some code => if onMap q.dieX q.dieY then s.store (mapBase + mapIndex q.dieX q.dieY) [code] else s
  | none => s

/-- The site reports END to the scheduler (R52, R146). -/
def State.report (k : SiteNo) (s : State) : State :=
  { s with sched := { s.sched with ended := put s.sched.ended k true } }

/-- Serial of the key a site holds, or 0 (R52). -/
def Sequencer.heldSerial (q : Sequencer) : Word :=
  match q.key with
  | some h => h.serial
  | none => 0

/-- The end actions in the order of R52, after the entry to END: settlement, record, map write, report. The key grants of the
evaluation a return starts are handed over with the state. -/
def State.endActions (k : SiteNo) (o : SiteOutcome) (s : State) : State × List KeyGrant :=
  let settled := s.settleKey k o
  (State.report k (State.writeMap k o (State.writeRecord k o settled.2.1 (s.site k).seq.heldSerial
    (settled.1.onSeq k fun q => { q with key := none }))), settled.2.2)

/-- A running site takes an ending event that fixes an outcome: it withdraws its requests, enters END and performs its end actions. A
site in IDLE or END is not affected (R51, R52). -/
def State.endSiteWith (k : SiteNo) (o : SiteOutcome) (s : State) : State × List KeyGrant :=
  if (s.site k).seq.state.isRunning then
    State.endActions k o (((s.withdrawDraw k).withdrawBurst k).onSite k (Site.enterEnd o))
  else (s, [])

/-- A running site ends, and the sites its returned key was drawn for take their key grants at once (R51, R52, R128). -/
def State.endSite (k : SiteNo) (o : SiteOutcome) (s : State) : State :=
  State.deliver (s.endSiteWith k o).2 (s.endSiteWith k o).1

/-! ### The key request -/

/-- The site enters KEYWAIT: it starts its key wait timer unless the limit is 0, and its draw request is drawn for at once, entered as
waiting, or answered with no slot (R40, R41, R120). -/
def State.enterKeywait (k : SiteNo) (s : State) : State :=
  let r := s.workingRecipe
  let t := s.onSeq k fun q =>
    { q with state := .keywait, keyTimer := if r.keyWait = 0 then none else some (r.keyWait * 1000) }
  match t.draw k r.keyLength with
  | some (u, g) => u.takeKeyGrant g
  | none =>
    if r.keyWait = 0 then State.endSite k .keyStarved (t.raise .poolDry)
    else (t.raise .poolDry).onPool fun p => { p with waiting := put p.waiting k (some r.keyLength) }

/-! ### Truncation and the thermal shutdown event -/

/-- The monitor at the end of a pulse: limits and latest sample are released, the phase is NO_PULSE (R104). -/
def Monitor.pulseOver (m : Monitor) : Monitor := { m with phase := .noPulse, limits := none, sample := none }

/-- A pulse of site k is truncated: the program line goes off, the pulse truncated flag is set, the grant is released (R10, R31, R104,
R111). -/
def State.truncatePulse (k : SiteNo) (s : State) : State :=
  State.release k ((s.endOp k).onMonitor k fun m => { m.pulseOver with truncated := true })

/-- Whether a PULSE of site k is in flight (R8, R104). -/
def State.pulsing (s : State) (k : SiteNo) : Bool := (s.site k).port.lineOn

/-- The site takes a thermal shutdown event: a pulse in flight is truncated, and the site ends THERMAL (R54, R102). -/
def State.thermalEvent (k : SiteNo) (s : State) : State :=
  State.endSite k .thermal (if s.pulsing k then s.truncatePulse k else s)

/-! ### Stops -/

/-- The site holds a key with which a pulse has been issued: a SOFT stop lets it run on to its natural end (R56). -/
def Sequencer.holdsPulsedKey (q : Sequencer) : Bool := q.pulsed && q.key.isSome

/-- At a boundary the stop the site has taken ends it: a HARD stop always, a SOFT stop unless the site holds a pulsed key (R55, R56). -/
def Sequencer.stopDue (q : Sequencer) : Bool :=
  match q.stopTaken with
  | .none => false
  | .soft => !q.holdsPulsedKey
  | .hard => true

/-- States in which a HARD stop finds its boundary at once (R55). -/
def SiteState.boundaryAtOnce : SiteState → Bool
  | .contact | .keywait | .burnWait => true
  | _ => false

/-- The site takes a HARD stop (R55, R57). -/
def State.takeHard (k : SiteNo) (s : State) : State :=
  let q := (s.site k).seq
  if q.state.isRunning && q.stopTaken != .hard then
    let t := s.onSeq k fun q => { q with stopTaken := .hard }
    if q.state.boundaryAtOnce then t.endSite k .aborted else t
  else s

/-- The site takes a SOFT stop: it ends at its boundary unless it holds a pulsed key (R56, R57). -/
def State.takeSoft (k : SiteNo) (s : State) : State :=
  let q := (s.site k).seq
  if q.state.isRunning && q.stopTaken == .none then
    let t := s.onSeq k fun q => { q with stopTaken := .soft }
    if q.state.boundaryAtOnce && !q.holdsPulsedKey then t.endSite k .aborted else t
  else s

/-- The site takes a soft reset: a pulse in flight is truncated, a read abandoned, and a site that has not ended ends ABORTED (R58). -/
def State.takeReset (k : SiteNo) (s : State) : State :=
  if (s.site k).seq.state.isRunning then
    State.endSite k .aborted (if s.pulsing k then s.truncatePulse k else s.endOp k)
  else s

/-! ### One command reaching several sites -/

/-- Sites in the order of choice n: ascending rank, sites of one rank in the order of the list (log 4). -/
def orderSites (n : Nat) (l : List SiteNo) : List SiteNo :=
  l.insertionSort fun a b => Config.siteRank n a ≤ Config.siteRank n b

/-- The running sites in the order in which the next choice lets them take a command (log 4). -/
def State.takingOrder (s : State) : List SiteNo :=
  orderSites s.choices (allSites.filter fun k => (s.site k).seq.state.isRunning)

/-- The state after one choice has been made. -/
def State.chosen (s : State) : State := { s with choices := s.choices + 1 }

/-- Every running site takes an action, one after the other in the order of the next choice (log 4). -/
def State.everyRunning (act : SiteNo → State → State) (s : State) : State :=
  s.takingOrder.foldl (fun t k => act k t) s.chosen

end Sys2Proof.Machine
end

