-- ==== Sys2Proof/Machine/Wafer.lean ====
section
/-!
DEFINITION. The wafer unit (09): open, close, close completion with its summary, and the count of a frame that has ended.
-/

namespace Sys2Proof.Machine

/-- Map entry of an index (R158). -/
def State.mapEntry (s : State) (i : Nat) : Byte := Memory.read s.mem (mapBase + i)

/-- Number of map entries whose code a test holds for (R157). -/
def State.countMap (s : State) (p : Byte → Bool) : Nat := (List.range 16384).countP fun i => p (s.mapEntry i)

/-- The seven counts of the close summary: UNTOUCHED, HOST_SKIP, KEYED, FOREIGN, DAMAGED, RETRY, other (R157). -/
def State.summary (s : State) : List Nat :=
  [s.countMap (· == 0), s.countMap (· == 1), s.countMap (· == 2), s.countMap (· == 3), s.countMap (· == 4), s.countMap (· == 5),
    s.countMap fun b => decide (6 ≤ b.toNat)]

/-- The bytes of the close summary (10.5). -/
def summaryBytes (counts : List Nat) : List Byte := counts.flatMap nat16

/-- The close completes: summary, CLOSED and request word 0, hand-over of record and map, WAFER_CLOSED (R155). -/
def State.completeClose (s : State) : State :=
  State.raise .waferClosed
    { (s.store (waferBase + 0x10) (summaryBytes s.summary)).store (waferBase + 0x04) (bytes32 0) with wafer := .closed }

/-- The scheduler reports that it is idle: a CLOSING wafer completes its close (R146, R155). -/
def State.idleReport (s : State) : State := if s.wafer = .closing then s.completeClose else s

/-- An open is taken while the wafer is CLOSED: refused for wafer id 0, else accepted (R152). -/
def State.takeOpen (s : State) : State :=
  if s.waferId = 0 then s.raise .waferRefused
  else
    State.raise .waferOpened
      { ((s.store (waferBase + 0x04) (bytes32 0)).store (waferBase + 0x10) (List.replicate 14 0)).store (waferBase + 0x20)
          (List.replicate 8 0) with wafer := .opened }

/-- A close request is taken while the wafer is OPEN or CLOSING (R154). -/
def State.takeClose (s : State) : State :=
  if s.wafer = .opened then
    if s.sched.isIdle then s.completeClose
    else { s.store (waferBase + 0x04) (bytes32 1) with wafer := .closing }
  else s

/-- The wafer unit is told that a frame has ended with a keyed count: frames run and keys bound rise, saturating (R153). -/
def State.countFrame (keyed : Nat) (s : State) : State :=
  s.store (waferBase + 0x20)
    (nat32 (sat32 (s.framesRun.toNat + 1)) ++ nat32 (sat32 (s.keysBound.toNat + keyed)))

/-- CLOSE_COMPLETION (R155): at an idle report while the wafer is CLOSING. While a soft reset runs the report has not been made yet
(R176). -/
def execCloseCompletion (s : State) : Host.Outcome State Fault Refusal :=
  if s.sched.isIdle && !s.softReset then .next s.idleReport else .next s

end Sys2Proof.Machine
end

