-- ==== Sys2Proof/Machine/Frames.lean ====
section
/-!
DEFINITION. The frame scheduler (08): post, acceptance and rejection, start, stops, hand-back and release; and RUN clear and soft reset
as they reach the frames.
-/

namespace Sys2Proof.Machine

/-! ### Frame start -/

/-- Hysteresis of a thermal test: set at or above the threshold, clear below the threshold minus 10, else as it was (R100 to R102). -/
def thermalTest (threshold t : Int) (was : Bool) : Bool :=
  if threshold ≤ t then true else if t < threshold - 10 then false else was

/-- A monitor loads its thresholds and takes its temperature again against them; with no reading nothing else changes (R100). -/
def Monitor.loadThresholds (r : Recipe) (m : Monitor) : Monitor :=
  let warn : Int := r.thermalWarn
  let shut : Int := r.thermalShutdown
  match m.temperature with
  | none => { m with warnAt := warn, shutAt := shut }
  | some t =>
    { m with
      warnAt := warn, shutAt := shut, warnLive := thermalTest warn t m.warnLive, shutLatch := thermalTest shut t m.shutLatch }

/-- The five skip tests of a start, in their order; none means the site runs (R142). -/
def State.skipTest (s : State) (f : FrameNo) (r : Recipe) (k : SiteNo) : SkipReason :=
  let x := s.dieX f r k
  let y := s.dieY f r k
  if !s.enabled f k then .notEnabled
  else if !onMap x y then .offMap
  else
    let code := s.mapCode x y
    if code = 2 then .mapKeyed
    else if code = 3 ∨ code = 4 then .mapDamaged
    else if code = 0 ∨ code = 5 then .none
    else .mapMark

/-- A skipped site takes its die position, skip reason and outcome, enters END at once, writes its record and reports; it asks for no
map write (R35, R52, R142). -/
def State.skipSite (k : SiteNo) (why : SkipReason) (x y : Int) (s : State) : State :=
  let t := s.onSeq k fun q => { q with state := .ended, dieX := x, dieY := y, skip := why, outcome := some .skipped }
  State.report k (State.writeRecord k .skipped .none 0 t)

/-- A running site at its entry to CONTACT: position, lot tag, margins, contact timer, sampling, and the flags its monitor sets at that
entry (R13, R25, R35, R87, R110). -/
def Site.enterContact (r : Recipe) (tag : BitVec 16) (pump : PumpState) (x y : Int) (k : Site) : Site :=
  { seq :=
      { k.seq with
        state := .contact, dieX := x, dieY := y, skip := .none, lotTag := tag, worstBlown := 1023, worstIntact := 1023,
        contactTimer := some (r.contactTimeout * 1000) }
    former := k.former
    monitor :=
      { k.monitor with
        thermalSeen := k.monitor.thermalSeen || k.monitor.warnLive, holdSeen := k.monitor.holdSeen || pump == .hold }
    port := { selection := none, op := some .contactSample } }

/-- A running site enters CONTACT, and ends THERMAL at once if its monitor's shutdown latch is set (R35, R103). -/
def State.runSite (k : SiteNo) (r : Recipe) (x y : Int) (s : State) : State :=
  let t := s.onSite k (Site.enterContact r s.lotTag s.supply.pump x y)
  if (s.site k).monitor.shutLatch then t.endSite k .thermal else t

/-- The frame leaves the post list and becomes the running frame, and its parameters are loaded (R142, steps 1 and 2). -/
def State.loadFrame (f : FrameNo) (rest : List FrameNo) (s : State) : State :=
  let t := State.setFrame f .running
    { s with sched := { s.sched with postList := rest, running := some f, stop := .none, ended := Vector.replicate 16 false } }
  let r := t.workingRecipe
  ((t.onSupply (Supply.frameStart r)).onEverySite fun x => { x with monitor := x.monitor.loadThresholds r }).onPool fun p =>
    { p with watermark := r.poolWatermark }

/-- The site is handed its die position and its decision, which was made for the whole start before any site is handed its own (R142,
step 5). -/
def State.handSite (f : FrameNo) (r : Recipe) (at_ : State) (k : SiteNo) (s : State) : State :=
  if at_.skipTest f r k = .none then s.runSite k r (at_.dieX f r k) (at_.dieY f r k)
  else s.skipSite k (at_.skipTest f r k) (at_.dieX f r k) (at_.dieY f r k)

/-- A start of frame f (R142). -/
def State.startFrame (f : FrameNo) (rest : List FrameNo) (s : State) : State :=
  let t := s.loadFrame f rest
  allSites.foldl (fun u k => State.handSite f t.workingRecipe t k u) t

/-- The head of the post list starts when RUN is 1, no frame runs and the list is not empty (R141). -/
def State.startIfDue (s : State) : State :=
  match s.sched.running, s.sched.postList with
  | none, f :: rest => if s.run then s.startFrame f rest else s
  | _, _ => s

/-! ### Hand-back -/

/-- Number of site records of frame f with a key disposition (R146). -/
def State.countDisposition (s : State) (f : FrameNo) (d : Disposition) : Nat :=
  allSites.countP fun k => s.recordDisposition f k == nat8 d.code

/-- A site returns to IDLE: sequencer and former take their reset values, the site-cleared members of the monitor too (R59, R60, R99). -/
def Site.returnToIdle (x : Site) : Site :=
  { seq := .reset
    former := .reset
    monitor :=
      { x.monitor with
        phase := .noPulse, limits := none, sample := none, holdTouched := false, thermalSeen := false, holdSeen := false,
        truncated := false }
    port := x.port }

/-- The scheduler's part of a hand-back: counts and completion kind are written, the frame is DONE, the recipe discarded, no frame runs,
frames_ended rises and FRAME_ENDED is raised (R146, steps 1 to 4). -/
def State.closeFrame (f : FrameNo) (kind : Nat) (s : State) : State :=
  let t := (s.store (frameBase f + 0x012) [nat8 kind]).store (frameBase f + 0x019)
    [nat8 (s.countDisposition f .bound), nat8 (s.countDisposition f .voided), nat8 (s.countDisposition f .returned)]
  State.raise .frameEnded
    { t with
      sched :=
        { t.sched with
          frames := put t.sched.frames f .done, running := none, recipes := put t.sched.recipes f none,
          ended := Vector.replicate 16 false, framesEnded := sat16 (t.sched.framesEnded + 1) } }

/-- A hand-back of frame f up to step 6: the sites return to IDLE and the wafer unit counts the frame (R146). -/
def State.handBackFrame (f : FrameNo) (kind : Nat) (s : State) : State :=
  State.countFrame (s.countDisposition f .bound) ((s.closeFrame f kind).onEverySite Site.returnToIdle)

/-- What follows a hand-back: the next head starts, or the scheduler is idle and reports it (R146, step 7). -/
def State.afterHandBack (s : State) : State := if s.sched.postList.isEmpty then s.idleReport else s.startIfDue

/-- One hand-back, when every site of the running frame has reported END (R146). -/
def State.handBackIfDue (s : State) : State :=
  match s.sched.running with
  | some f => if s.sched.allEnded then (s.handBackFrame f s.sched.stop.completionKind).afterHandBack else s
  | none => s

/-- Hand-backs and starts until no hand-back is due, at most n times: frames whose sites are all skipped pass through in succession
(R141). -/
def State.settleFrames (n : Nat) (s : State) : State :=
  match n with
  | 0 => s
  | m + 1 => if s.sched.running.isSome && s.sched.allEnded then State.settleFrames m s.handBackIfDue else s

/-- The scheduler takes the reports of the sites that ended in a command (R141, R146). Each hand-back starts at most one frame of the
post list, so one more than its length is enough. -/
def State.settle (s : State) : State := s.settleFrames (s.sched.postList.length + 1)

/-! ### Posting -/

/-- Whether two enabled sites of frame f compute the same die position (R137, check 5). -/
def State.duplicateDie (s : State) (f : FrameNo) (r : Recipe) : Bool :=
  allSites.any fun a => allSites.any fun b =>
    decide (a < b) && s.enabled f a && s.enabled f b && (s.dieX f r a == s.dieX f r b) && (s.dieY f r a == s.dieY f r b)

/-- The checks of a post in their order; none means the frame is accepted (R137). -/
def State.postCheck (s : State) (f : FrameNo) (raw : RawRecipe) : Option RejectReason :=
  if s.wafer = .closed then some .noWafer
  else if s.wafer = .closing then some .waferClosing
  else if s.enableMask f = 0 then some .noSites
  else if !raw.keyLengthOk then some .badKeyLength
  else if s.duplicateDie f raw.clamped then some .duplicateDie
  else none

/-- The frame header as a post writes it: sequence, completion kind NONE, reject reason, clamp flags, sites enabled, three zero counts
(R138, R139). -/
def State.writeHeader (f : FrameNo) (seq : Word) (reason : Nat) (flags : Word) (s : State) : State :=
  (s.store (frameBase f + 0x008) (bytes32 seq)).store (frameBase f + 0x012)
    ([0, nat8 reason] ++ bytes32 flags ++ [nat8 (s.sitesEnabled f), 0, 0, 0])

/-- The sequence after a sequence; FFFFFFFFh is followed by 1 (R135). -/
def nextSequence (q : Word) : Word := if q = 0xFFFFFFFF then 1 else q + 1

/-- Acceptance of frame f (R138). -/
def State.acceptPost (f : FrameNo) (raw : RawRecipe) (s : State) : State :=
  let t := s.writeHeader f s.sched.nextSeq 0 raw.clampFlags
  { t with
    sched :=
      { t.sched with
        frames := put t.sched.frames f .queued, postList := t.sched.postList ++ [f],
        recipes := put t.sched.recipes f (some raw.clamped), nextSeq := nextSequence t.sched.nextSeq } }

/-- Rejection of frame f (R139). -/
def State.rejectPost (f : FrameNo) (why : RejectReason) (raw : RawRecipe) (s : State) : State :=
  ((s.writeHeader f 0 why.code raw.clampFlags).setFrame f .rejected).raise .frameEnded

/-- A post of frame f is taken: stop word, snapshot, checks, then acceptance or rejection; an accepted frame starts at once if it may
(R137 to R141). -/
def State.takePost (f : FrameNo) (s : State) : State :=
  let t := s.store (frameBase f + 0x004) (bytes32 0)
  let raw := rawRecipe t.mem
  match t.postCheck f raw with
  | some why => t.rejectPost f why raw
  | none => (t.acceptPost f raw).startIfDue

/-- A release of frame f is taken (R147). -/
def State.takeRelease (f : FrameNo) (s : State) : State := s.setFrame f .free

/-! ### Stops, RUN clear and soft reset -/

/-- Cancellation of a queued frame (R143). -/
def State.cancelFrame (f : FrameNo) (s : State) : State :=
  State.raise .frameEnded
    { s with
      sched :=
        { s.sched with
          frames := put s.sched.frames f .cancelled, postList := s.sched.postList.filter fun g => g != f,
          recipes := put s.sched.recipes f none } }

/-- After a cancellation the scheduler may have become idle, and reports it (R143, R146). -/
def State.reportIfIdle (s : State) : State := if s.sched.isIdle then s.idleReport else s

/-- The running frame's stop and state are set (R144, R148). -/
def State.setStop (f : FrameNo) (stop : FrameStop) (s : State) : State :=
  State.setFrame f .stopping { s with sched := { s.sched with stop := stop } }

/-- A SOFT stop of the running frame is taken (R144). -/
def State.softStopFrame (f : FrameNo) (s : State) : State :=
  if s.sched.stop = .none then (s.setStop f .soft).everyRunning State.takeSoft else s

/-- A HARD stop of the running frame is taken (R144). -/
def State.hardStopFrame (f : FrameNo) (s : State) : State :=
  if s.sched.stop = .none ∨ s.sched.stop = .soft then (s.setStop f .hard).everyRunning State.takeHard else s

/-- The scheduler writes the stop in force back into the stop word of frame f (R136). -/
def State.writeBackStop (f : FrameNo) (s : State) : State :=
  s.store (frameBase f + 0x004) (nat32 s.sched.stop.code)

/-- A write to the stop word of frame f is taken: stored in a tester-owned frame, else a stop request for value 1 or 2, and the stop in
force written back unless a queued frame was cancelled (R136, R143, R144). -/
def State.writeStopWord (f : FrameNo) (v : Word) (s : State) : State :=
  match s.frameState f with
  | .queued =>
    if v = softValue ∨ v = hardValue then
      ((s.store (frameBase f + 0x004) (bytes32 v)).cancelFrame f).reportIfIdle
    else s.store (frameBase f + 0x004) (bytes32 0)
  | .running | .stopping =>
    State.writeBackStop f
      (if v = softValue then s.softStopFrame f else if v = hardValue then s.hardStopFrame f else s)
  | _ => s.store (frameBase f + 0x004) (bytes32 v)

/-- RUN clear as it reaches the frames and the supply unit: the running frame is hard-stopped, whatever its stop was; the supply unit
takes the RUN clear among the sites' stops, after as many of them as the choice says (R90, R148, R171; log 5). -/
def State.takeRunClear (s : State) : State :=
  match s.sched.running with
  | none => s.supplyRunClear
  | some f =>
    let t := s.setStop f .runCleared
    let early := t.takingOrder.take (Config.supplyTurn s.choices)
    let late := t.takingOrder.drop (Config.supplyTurn s.choices)
    late.foldl (fun u k => u.takeHard k) (early.foldl (fun u k => u.takeHard k) t.chosen).supplyRunClear

/-- The running frame is handed back by a soft reset with completion kind RESET; no frame starts and no idle report is made (R149). -/
def State.resetFrame (s : State) : State :=
  match s.sched.running with
  | some f => s.handBackFrame f completionReset
  | none => s

/-- The blocks' own reset values at a soft reset (R33, R58, R60, R80, R91, R92, R99, R132, R135, R149). -/
def State.resetBlocks (s : State) : State :=
  { s with
    sched := { s.sched with running := none, stop := .none, recipes := Vector.replicate 4 none, ended := Vector.replicate 16 false }
    pool := { s.pool with waiting := Vector.replicate 16 none, watermark := 0 }
    supply := s.supply.softReset
    arbiter := .reset
    sites := Vector.replicate 16 .reset }

/-- Every waiting draw request and burst request is withdrawn, as a soft reset does before any site settles its key or releases its
grant, so that no key is drawn and no current granted while it runs (R58, R91, R132; log 21). -/
def State.withdrawAll (s : State) : State :=
  { s with
    pool := { s.pool with waiting := Vector.replicate 16 none }
    arbiter := { s.arbiter with requests := Vector.replicate 16 none } }

/-- A soft reset begins: RUN becomes 0, SOFT_RESET reads 1, the requests are withdrawn, the sites end, the running frame is handed back,
the queued frames are cancelled in the order of the post list, and every block takes its reset (R149, R175). -/
def State.beginSoftReset (s : State) : State :=
  let sites := State.everyRunning State.takeReset (State.withdrawAll { s with run := false, softReset := true })
  let back := sites.resetFrame
  (back.sched.postList.foldl (fun t f => t.cancelFrame f) back).resetBlocks

/-! ### Meanings of the scheduler's own steps -/

/-- FRAME_START (R142). -/
def execFrameStart (s : State) : Host.Outcome State Fault Refusal := .next s.startIfDue.settle

/-- HAND_BACK (R146). -/
def execHandBack (s : State) : Host.Outcome State Fault Refusal := .next s.settle

end Sys2Proof.Machine
end

