-- ==== Sys2Proof/Machine/SiteEvents.lean ====
section
/-!
DEFINITION. The meanings of the events that reach a site: samples, reads and verifies, the site's timers, the end of a pulse, the
temperature readings, and the hold expiry (03, 05, 06).
-/

namespace Sys2Proof.Machine

/-- At a boundary, the stop the site has taken ends it ABORTED; otherwise the site goes on (R55, R56). -/
def State.unlessStopped (k : SiteNo) (go : State → State) (s : State) : State :=
  if (s.site k).seq.stopDue then s.endSite k .aborted else go s

/-! ### Contact and reference -/

/-- Whether contact is being sampled at site k: the site is in CONTACT and its port samples (R13). -/
def State.sampling (s : State) (k : SiteNo) : Bool :=
  (s.site k).seq.state == .contact && s.opOf k == some .contactSample

/-- The good run after a sample (R36). -/
def goodRunAfter (r : Recipe) (code : SenseCode) (run : Nat) : Nat := if contactClass r code = .good then run + 1 else 0

/-- The site takes a contact sample (R36). -/
def State.takeSample (k : SiteNo) (code : SenseCode) (s : State) : State :=
  let r := s.workingRecipe
  let run := goodRunAfter r code (s.site k).seq.goodRun
  let t := s.onSeq k fun q => { q with lastSample := code, goodRun := run }
  if r.debounceCount ≤ run then
    (t.onSeq k fun q => { q with contactTimer := none, state := .refer }).issueOp k .referenceRead
  else t

/-- CONTACT_SAMPLE (R36): a sample completes while the site is in CONTACT. -/
def execContactSample (k : SiteNo) (code : SenseCode) (s : State) : Host.Outcome State Fault Refusal :=
  if s.sampling k then .next (s.takeSample k code) else .next s

/-- The outcome of a contact timeout, by the last sample (R37). -/
def timeoutOutcome (r : Recipe) (last : SenseCode) : SiteOutcome :=
  if contactClass r last = .short then .padShort else .noContact

/-- CONTACT_TIMER_EXPIRY (R37). -/
def execContactTimerExpiry (k : SiteNo) (s : State) : Host.Outcome State Fault Refusal :=
  if (s.site k).seq.state = .contact ∧ (s.site k).seq.contactTimer.isSome = true then
    .next (s.endSite k (timeoutOutcome s.workingRecipe (s.site k).seq.lastSample)).settle
  else .next s

/-- The site takes its reference set (R12, R17). -/
def State.recordRefs (k : SiteNo) (refOpen refBlown : SenseCode) (s : State) : State :=
  (s.onSeq k fun q => { q with refs := takeRefs s.workingRecipe refOpen refBlown }).endOp k

/-- After the reference read: REF_FAIL, a stop, or BLANK with the verify of row 0 issued (R18, R38, R55). -/
def State.afterRefs (k : SiteNo) (refOpen refBlown : SenseCode) (s : State) : State :=
  if windowPasses s.workingRecipe.minWindow refOpen refBlown then
    s.unlessStopped k fun t => State.issueVerify k 0 (t.onSeq k fun q => { q with state := .blank })
  else s.endSite k .refFail

/-- REFERENCE_READ_COMPLETION (R12, R38). A read whose site has ended gives no reference set (R51). -/
def execReferenceReadCompletion (k : SiteNo) (refOpen refBlown : SenseCode) (s : State) : Host.Outcome State Fault Refusal :=
  if s.opOf k = some .referenceRead then
    if (s.site k).seq.state.isRunning then .next ((s.recordRefs k refOpen refBlown).afterRefs k refOpen refBlown).settle
    else .next (s.dropOp k)
  else .next s

/-! ### Verifies -/

/-- READ_A_COMPLETION (R11, R21): the 32 codes go into the lane buffer and read B is issued at once; the codes of a read whose site has
ended are discarded (R51). -/
def execReadACompletion (k : SiteNo) (codes : LaneCodes) (s : State) : Host.Outcome State Fault Refusal :=
  match s.opOf k with
  | some (.rowRead row .nominal) =>
    if (s.site k).seq.state.isRunning then
      .next ((s.onSeq k fun q => { q with laneA := some codes }).issueOp k (.rowRead row .margin))
    else .next (s.dropOp k)
  | _ => .next s

/-- The verify that read B completes, from the lane buffer and the codes of read B (R21). -/
def State.verifyOf (s : State) (k : SiteNo) (codes : LaneCodes) : RowVerify :=
  verifyRow (s.site k).seq.refs ((s.site k).seq.laneA.getD codes) codes

/-- The verify replaces what the site holds for the row, and the lane buffer is discarded (R21). -/
def State.recordVerify (k : SiteNo) (row : Row) (v : RowVerify) (s : State) : State :=
  (s.onSeq k fun q => { q with verified := put q.verified row (some v), laneA := none }).endOp k

/-- A verify of BLANK has completed (R16, R39). -/
def State.blankVerified (k : SiteNo) (row : Row) (s : State) : State :=
  let len := s.workingRecipe.keyLength
  if row = len.lockRow then
    match judgeBlank len (s.site k).seq.verified with
    | .locked => s.endSite k .alreadyKeyed
    | .dirty => s.endSite k .dirty
    | .blank => s.unlessStopped k (State.enterKeywait k)
  else s.unlessStopped k (State.issueVerify k (nextRow row))

/-- The lock judgement (R50). -/
def lockOutcome (pairs : Nat) : SiteOutcome := if 8 ≤ pairs then .keyed else .burnFail

/-- The current row is done (R46): the lock is judged, or the next row of the plan becomes current (R43, R50, R60). -/
def State.rowDone (k : SiteNo) (row : Row) (s : State) : State :=
  let t := (s.onSeq k fun q => { q with pendingSet := 0 }).onFormer k Former.rowDone
  match (t.site k).seq.phase with
  | .locking => t.endSite k (lockOutcome (lockPairs t.workingRecipe.keyLength (t.site k).seq.verified))
  | .burn => t.unlessStopped k (State.beginRow k (nextRow row))

/-- A verify of the current row has completed in VERIFY: disturb, retry or done (R45, R46, R49). -/
def State.burnVerified (k : SiteNo) (row : Row) (v : RowVerify) (s : State) : State :=
  let q := (s.site k).seq
  let image := planImage q.plan row
  if disturbSet image v ≠ 0 then s.endSite k .burnFail
  else if failingSet image v ≠ 0 ∧ q.attempt + 1 < s.workingRecipe.attemptLimit then
    s.unlessStopped k (State.beginAttempt k row (q.attempt + 1) (failingSet image v))
  else s.rowDone k row

/-- A row of the final verify is folded into the margins and the degraded pair count (R25, R47). -/
def State.foldFinal (k : SiteNo) (image : ColSet) (v : RowVerify) (s : State) : State :=
  s.onSeq k fun q =>
    { q with
      worstBlown := foldBlown q.refs image v q.worstBlown
      worstIntact := foldIntact q.refs image v q.worstIntact
      degraded := q.degraded + degradedPairs image v.cells }

/-- Both tests of R48: the readback compare and the degraded pair count. -/
def State.finalPasses (s : State) (k : SiteNo) : Bool :=
  let q := (s.site k).seq
  match q.key with
  | some h =>
    readbackMatches s.workingRecipe.keyLength h.buffer q.lotTag q.verified
      && decide (q.degraded ≤ s.workingRecipe.degradedTolerance)
  | none => false

/-- A verify of FINAL has completed (R25, R47, R48). -/
def State.finalVerified (k : SiteNo) (row : Row) (v : RowVerify) (s : State) : State :=
  let image := planImage (s.site k).seq.plan row
  let t := s.foldFinal k image v
  if disturbSet image v ≠ 0 then t.endSite k .burnFail
  else if row = t.workingRecipe.keyLength.checkRow then
    if t.finalPasses k then t.unlessStopped k (State.beginLocking k) else t.endSite k .burnFail
  else
    t.unlessStopped k fun u =>
      State.issueVerify k (nextRow row) (u.onSeq k fun q => { q with row := some (nextRow row) })

/-- The site acts on a completed verify by its state (R39, R45 to R50). -/
def State.afterVerify (k : SiteNo) (row : Row) (v : RowVerify) (s : State) : State :=
  match (s.site k).seq.state with
  | .blank => s.blankVerified k row
  | .verify => s.burnVerified k row v
  | .final => s.finalVerified k row v
  | _ => s

/-- VERIFY_COMPLETION (R21): read B of a verify completes. The codes of a read whose site has ended are discarded (R51). -/
def execVerifyCompletion (k : SiteNo) (codes : LaneCodes) (s : State) : Host.Outcome State Fault Refusal :=
  match s.opOf k with
  | some (.rowRead row .margin) =>
    if (s.site k).seq.state.isRunning then
      .next ((s.recordVerify k row (s.verifyOf k codes)).afterVerify k row (s.verifyOf k codes)).settle
    else .next (s.dropOp k)
  | _ => .next s

/-- KEY_WAIT_EXPIRY (R41). -/
def execKeyWaitExpiry (k : SiteNo) (s : State) : Host.Outcome State Fault Refusal :=
  if (s.site k).seq.state = .keywait ∧ (s.site k).seq.keyTimer.isSome = true then .next (s.endSite k .keyStarved).settle
  else .next s

/-! ### Pulses -/

/-- The sort of a completed pulse at site k from its completion sample (R29, R30, R104). -/
def State.sortOf (s : State) (k : SiteNo) (sample : Nat) : PulseSort :=
  match (s.site k).monitor.limits with
  | some l => sortCompletion l (senseCurrent sample) ((s.site k).monitor.holdTouched || s.supply.pump == .hold)
  | none => .good

/-- The port hands over the completion: the program line goes off, the monitor lets go of its limits, the grant is released (R10, R95,
R104). -/
def State.completePulse (k : SiteNo) (s : State) : State :=
  State.release k ((s.endOp k).onMonitor k Monitor.pulseOver)

/-- The site takes the sort of a completed pulse (R29, R30, R44, R55, R68). -/
def State.takeSort (k : SiteNo) (sort : PulseSort) (s : State) : State :=
  match sort with
  | .overcurrent => s.endSite k .overcurrent
  | .opened => s.endSite k .contactLost
  | .good => s.unlessStopped k (State.afterGoodPulse k)

/-- PULSE_COMPLETION (R10, R30, R105). -/
def execPulseCompletion (k : SiteNo) (sample : Nat) (s : State) : Host.Outcome State Fault Refusal :=
  if s.pulsing k then .next ((s.completePulse k).takeSort k (s.sortOf k sample)).settle else .next s

/-- Whether a sample taken during the pulse of site k is above its overcurrent limit (R29). -/
def State.overLimit (s : State) (k : SiteNo) (sample : Nat) : Bool :=
  match (s.site k).monitor.limits with
  | some l => decide (l.overLimit < senseCurrent sample)
  | none => false

/-- OVERCURRENT_EVENT (R29, R104): a sample above the limit truncates the pulse and the site ends OVERCURRENT; a sample that is not
above it becomes the latest sample. -/
def execOvercurrentEvent (k : SiteNo) (sample : Nat) (s : State) : Host.Outcome State Fault Refusal :=
  if s.pulsing k then
    if s.overLimit k sample then .next ((s.truncatePulse k).endSite k .overcurrent).settle
    else .next (s.onMonitor k fun m => { m with sample := some (senseCurrent sample) })
  else .next s

/-! ### Temperature -/

/-- A reading as the sensor hands it over, -40..200 (R101). -/
def clampCelsius (t : Int) : Int := if t < -40 then -40 else if 200 < t then 200 else t

/-- A monitor takes a reading: temperature, warning test, shutdown test; the warning becoming live while the site runs sets the thermal
warning seen flag (R101, R102, R110). -/
def Monitor.takeReading (running : Bool) (t : Int) (m : Monitor) : Monitor :=
  let warn := thermalTest m.warnAt t m.warnLive
  { m with
    temperature := some t
    warnLive := warn
    shutLatch := thermalTest m.shutAt t m.shutLatch
    thermalSeen := m.thermalSeen || (running && warn && !m.warnLive) }

/-- Whether a reading sets the shutdown latch of site k: a shutdown event (R102). -/
def State.shutsDown (s : State) (k : SiteNo) (t : Int) : Bool :=
  thermalTest (s.site k).monitor.shutAt t (s.site k).monitor.shutLatch && !(s.site k).monitor.shutLatch

/-- The monitor of site k takes a reading (R101, R102). -/
def State.takeReading (k : SiteNo) (t : Int) (s : State) : State :=
  s.onMonitor k (Monitor.takeReading (s.site k).seq.state.isRunning t)

/-- THERMAL_READING (R101, R102). -/
def execThermalReading (k : SiteNo) (celsius : Int) (s : State) : Host.Outcome State Fault Refusal :=
  if s.shutsDown k (clampCelsius celsius) then .next (State.thermalEvent k (s.takeReading k (clampCelsius celsius))).settle
  else .next (s.takeReading k (clampCelsius celsius))

/-! ### Hold expiry -/

/-- Whether site k holds a key and has not ended: the sites a hold expiry ends (R54). -/
def State.holdsKey (s : State) (k : SiteNo) : Bool := (s.site k).seq.state.isRunning && (s.site k).seq.key.isSome

/-- One site ends SUPPLY_LOST; the key grants its return makes are kept for later (R89, step 1). -/
def loseSupply (acc : State × List KeyGrant) (k : SiteNo) : State × List KeyGrant :=
  ((acc.1.endSiteWith k .supplyLost).1, acc.2 ++ (acc.1.endSiteWith k .supplyLost).2)

/-- Every site that holds a key ends SUPPLY_LOST, in the order of the next choice (R54, R89, step 1; log 4). -/
def State.loseAll (s : State) : State × List KeyGrant :=
  (orderSites s.choices (allSites.filter fun k => s.holdsKey k)).foldl loseSupply (s.chosen, [])

/-- The hold timer expires in HOLD: the sites with keys end, the pump enters OFF, SUPPLY_LOST is raised, and then the key grants of
step 1 are taken (R89). -/
def State.expireHold (s : State) : State :=
  State.deliver s.loseAll.2 ((s.loseAll.1.onSupply Supply.toOff).raise .supplyLost)

/-- HOLD_EXPIRY (R89): no pulse is in flight at a hold expiry (R87; log 6). -/
def execHoldExpiry (s : State) : Host.Outcome State Fault Refusal :=
  if s.supply.pump = .hold ∧ s.supply.holdTimer.isSome = true ∧ s.arbiter.noGrant = true then .next s.expireHold.settle
  else .next s

end Sys2Proof.Machine
end

