-- ==== Sys2Proof/Machine/Window.lean ====
section
/-!
DEFINITION. Tester writes to exchange memory (10.1 to 10.3): owner tags, dropped writes, the watched-word decoder, and the meanings of
the write commands. A write is judged by the word it goes to, the owner of its record and the value the word would hold; the row
of the opcode table that names it decides nothing.
-/

namespace Sys2Proof.Machine

/-- A dropped write: the word and its record stay, dropped_writes rises, WRITE_DROPPED is raised (R166). -/
def State.dropWrite (s : State) : State :=
  State.raise .writeDropped { s with droppedWrites := sat16 (s.droppedWrites + 1) }

/-- A value stored into an aligned word (R164). -/
def State.storeWord (w : WordNo) (v : Word) (s : State) : State := s.store (wordOffset w) (bytes32 v)

/-- A write to a data word: stored in a tester-owned record, dropped in a part-owned one (R163, R166). -/
def State.writeData (partOwned : Bool) (w : WordNo) (v : Word) (s : State) : State :=
  if partOwned then s.dropWrite else s.storeWord w v

/-- A write to the wafer state word (R151). -/
def State.writeWaferState (v : Word) (s : State) : State :=
  if s.wafer.partOwned then s.dropWrite else if v = openValue then s.takeOpen else s

/-- The wafer unit writes the close in force back into the request word (R151). -/
def State.writeBackClose (s : State) : State :=
  s.store (waferBase + 0x04) (bytes32 (if s.wafer = .closing then 1 else 0))

/-- A write to the wafer request word: stored while CLOSED, else a request for value 1, with the close in force written back (R151,
R154). -/
def State.writeWaferRequest (w : WordNo) (v : Word) (s : State) : State :=
  if s.wafer = .closed then s.storeWord w v
  else State.writeBackClose (if v = closeValue then s.takeClose else s)

/-- A write to the state word of frame f (R136). -/
def State.writeFrameState (f : FrameNo) (v : Word) (s : State) : State :=
  if (s.frameState f).partOwned then s.dropWrite
  else if v = postedValue then (s.takePost f).settle
  else if v = freeValue then s.takeRelease f
  else s

/-- What a write to a slot state word asks of the key pool unit (R115). -/
inductive SlotRequest where
  | load | reclaim | withdraw | noChange | dropped
  deriving DecidableEq, Repr

/-- The table of R115. -/
def slotRequest (x : SlotState) (v : Word) : SlotRequest :=
  match x with
  | .drawn => .dropped
  | .loaded => if v = withdrawValue then .withdraw else .dropped
  | .empty => if v = loadedValue then .load else .noChange
  | .refused | .bound | .voided =>
    if v = loadedValue then .load else if v = emptyValue then .reclaim else .noChange

/-- A write to the state word of slot i (R115). -/
def State.writeSlotState (i : SlotNo) (v : Word) (s : State) : State :=
  match slotRequest (s.slotState i) v with
  | .load => s.takeLoad i
  | .reclaim => s.takeReclaim i
  | .withdraw => s.takeWithdraw i
  | .noChange => s
  | .dropped => s.dropWrite

/-- A tester write that would leave value v in word w, taken by the rules of the word's record (R163, R166, R168). -/
def State.takeWrite (w : WordNo) (v : Word) (s : State) : State :=
  match wordKind w with
  | .header => s.dropWrite
  | .waferState => s.writeWaferState v
  | .waferRequest => s.writeWaferRequest w v
  | .waferData => s.writeData s.wafer.partOwned w v
  | .recipe => s.storeWord w v
  | .frameState f => s.writeFrameState f v
  | .frameStop f => (s.writeStopWord f v).settle
  | .frameData f => s.writeData (s.frameState f).partOwned w v
  | .slotState i => s.writeSlotState i v
  | .slotData i => s.writeData (s.slotState i).partOwned w v
  | .map => s.writeData s.wafer.partOwned w v
  | .unmapped => s

/-- A tester write of one aligned word of exchange memory; discarded during initialisation and while a soft reset runs (R164, R174,
R175). -/
def State.testerWrite (w : WordNo) (lanes : Lanes) (data : Word) (s : State) : State :=
  if s.writesDiscarded then s else s.takeWrite w (s.writtenValue w lanes data)

/-! ### The words of the request rows -/

/-- State word of frame f (10.5). -/
def frameStateWord (f : FrameNo) : WordNo := wordAt (frameBase f)

/-- Stop word of frame f (10.5). -/
def frameStopWord (f : FrameNo) : WordNo := wordAt (frameBase f + 0x004)

/-- State word of slot i (10.5). -/
def slotStateWord (i : SlotNo) : WordNo := wordAt (slotBase i)

/-- State word of the wafer record (10.5). -/
def waferStateWord : WordNo := wordAt waferBase

/-- Request word of the wafer record (10.5). -/
def waferRequestWord : WordNo := wordAt (waferBase + 0x04)

/-! ### Meanings -/

/-- POST (R136, R137). -/
def execPost (f : FrameNo) (lanes : Lanes) (s : State) : Host.Outcome State Fault Refusal :=
  .next (s.testerWrite (frameStateWord f) lanes postedValue)

/-- RELEASE (R136, R147). -/
def execRelease (f : FrameNo) (lanes : Lanes) (s : State) : Host.Outcome State Fault Refusal :=
  .next (s.testerWrite (frameStateWord f) lanes freeValue)

/-- SOFT_STOP (R136, R143, R144). -/
def execSoftStop (f : FrameNo) (lanes : Lanes) (s : State) : Host.Outcome State Fault Refusal :=
  .next (s.testerWrite (frameStopWord f) lanes softValue)

/-- HARD_STOP (R136, R143, R144). -/
def execHardStop (f : FrameNo) (lanes : Lanes) (s : State) : Host.Outcome State Fault Refusal :=
  .next (s.testerWrite (frameStopWord f) lanes hardValue)

/-- LOAD (R115, R116). -/
def execLoad (i : SlotNo) (lanes : Lanes) (s : State) : Host.Outcome State Fault Refusal :=
  .next (s.testerWrite (slotStateWord i) lanes loadedValue)

/-- RECLAIM (R115, R118). -/
def execReclaim (i : SlotNo) (lanes : Lanes) (s : State) : Host.Outcome State Fault Refusal :=
  .next (s.testerWrite (slotStateWord i) lanes emptyValue)

/-- WITHDRAW (R115, R119). -/
def execWithdraw (i : SlotNo) (lanes : Lanes) (s : State) : Host.Outcome State Fault Refusal :=
  .next (s.testerWrite (slotStateWord i) lanes withdrawValue)

/-- OPEN (R151, R152). -/
def execOpenWafer (lanes : Lanes) (s : State) : Host.Outcome State Fault Refusal :=
  .next (s.testerWrite waferStateWord lanes openValue)

/-- CLOSE (R151, R154). -/
def execCloseWafer (lanes : Lanes) (s : State) : Host.Outcome State Fault Refusal :=
  .next (s.testerWrite waferRequestWord lanes closeValue)

/-- WATCHED_WORD_NO_REQUEST (R115, R136, R151, R168). -/
def execWatchedWordNoRequest (w : WordNo) (lanes : Lanes) (data : Word) (s : State) : Host.Outcome State Fault Refusal :=
  .next (s.testerWrite w lanes data)

/-- DATA_WORD_WRITE (R163, R166, R168). -/
def execDataWordWrite (w : WordNo) (lanes : Lanes) (data : Word) (s : State) : Host.Outcome State Fault Refusal :=
  .next (s.testerWrite w lanes data)

/-- DROPPED_WATCHED_WORD_WRITE (R166). -/
def execDroppedWatchedWordWrite (w : WordNo) (lanes : Lanes) (data : Word) (s : State) : Host.Outcome State Fault Refusal :=
  .next (s.testerWrite w lanes data)

end Sys2Proof.Machine
end

