-- ==== Sys2Proof/Machine/Registers.lean ====
section
/-!
DEFINITION. The register window (10.6, 10.7) and the resets (10.8): tester writes to RUN_CTRL, ATTN and ATTN_EN, power-on reset and
initialisation, soft reset and its completion.
-/

namespace Sys2Proof.Machine

/-- SOFT_RESET, bit 1 of a word written to RUN_CTRL (R171). -/
def asksSoftReset (value : Word) : Bool := value.getLsbD 1

/-- RUN, bit 0 of a word written to RUN_CTRL (R171). -/
def asksRun (value : Word) : Bool := value.getLsbD 0

/-- A RUN set: RUN becomes 1, the scheduler starts the head of the post list if it may, and the supply unit wakes for a waiting request
(R83, R141, R148, R171). -/
def State.takeRunSet (s : State) : State := (State.startIfDue { s with run := true }).supplyRunSet.settle

/-- A RUN clear: RUN becomes 0, the running frame is hard-stopped and the supply unit sets off pending (R90, R148, R171). -/
def State.clearRun (s : State) : State := (State.takeRunClear { s with run := false }).settle

/-- A write to RUN_CTRL outside initialisation (R171). -/
def State.writeRunCtrl (value : Word) (s : State) : State :=
  if s.softReset then s
  else if asksSoftReset value then s.beginSoftReset
  else if asksRun value = s.run then s
  else if asksRun value then s.takeRunSet
  else s.clearRun

/-- A write to ATTN clears each bit written as 1 (R172). -/
def State.writeAttn (value : Word) (s : State) : State := { s with attn := s.attn &&& ~~~(value.setWidth 11) }

/-- A write to ATTN_EN (R173). -/
def State.writeAttnEn (value : Word) (s : State) : State := { s with attnEn := value.setWidth 11 }

/-- A tester write of an aligned word of the register window; discarded until initialisation has ended (R170). -/
def State.registerWrite (w : WordNo) (value : Word) (s : State) : State :=
  if s.initialising then s
  else if w = 1 then s.writeRunCtrl value
  else if w = 2 then s.writeAttn value
  else if w = 3 then s.writeAttnEn value
  else s

/-- What a soft reset waits for before it completes (R176). -/
def State.resetSettled (s : State) : Bool :=
  (allSites.all fun k => (s.site k).seq.state == .idle) && s.sched.isIdle && s.supply.pump == .off

/-- The completion of a soft reset (R176): both live masks read 0 from here on, so a temperature reading taken while the reset ran is
forgotten with what it set, and every monitor starts again from its reset values (R99, R169; log 30). -/
def State.completeReset (s : State) : State :=
  State.idleReport
    { State.raise .resetDone { s.onEverySite (fun x => { x with monitor := .reset }) with attn := 0 } with softReset := false }

/-! ### Meanings -/

/-- POWER_ON_RESET (R174). The queue of waiting commands and the number of the next choice are the model's own and stay (log 17). -/
def execPowerOnReset (s : State) : Host.Outcome State Fault Refusal :=
  .next { State.reset with choices := s.choices, pending := s.pending }

/-- INITIALISATION_END (R174). -/
def execInitialisationEnd (s : State) : Host.Outcome State Fault Refusal :=
  if s.initialising then .next (State.raise .resetDone { s with initialising := false }) else .next s

/-- RUN_SET (R171). -/
def execRunSet (value : Word) (s : State) : Host.Outcome State Fault Refusal := .next (s.registerWrite 1 value)

/-- RUN_CLEAR (R171). -/
def execRunClear (value : Word) (s : State) : Host.Outcome State Fault Refusal := .next (s.registerWrite 1 value)

/-- SOFT_RESET (R171, R175). -/
def execSoftReset (value : Word) (s : State) : Host.Outcome State Fault Refusal := .next (s.registerWrite 1 value)

/-- SOFT_RESET_COMPLETION (R176). -/
def execSoftResetCompletion (s : State) : Host.Outcome State Fault Refusal :=
  if s.softReset && s.resetSettled then .next s.completeReset else .next s

/-- ATTN_WRITE (R172). -/
def execAttnWrite (value : Word) (s : State) : Host.Outcome State Fault Refusal := .next (s.registerWrite 2 value)

/-- ATTN_EN_WRITE (R173). -/
def execAttnEnWrite (value : Word) (s : State) : Host.Outcome State Fault Refusal := .next (s.registerWrite 3 value)

/-- REGISTER_WRITE_OTHER (R170): IDENT, or an offset with no register. -/
def execRegisterWriteOther (w : WordNo) (value : Word) (s : State) : Host.Outcome State Fault Refusal :=
  .next (s.registerWrite w value)

end Sys2Proof.Machine
end

