-- ==== Sys2Proof/Machine/Dispatch.lean ====
section
/-!
DEFINITION. What a command does to everything but the queue: one arm per constructor of `Instr`, each one call of the command's meaning.
-/

namespace Sys2Proof.Machine

def exec (i : Instr) (s : State) : Host.Outcome State Fault Refusal :=
  match i with
  | .powerOnReset => Sys2Proof.Machine.execPowerOnReset s
  | .initialisationEnd => Sys2Proof.Machine.execInitialisationEnd s
  | .runSet value => Sys2Proof.Machine.execRunSet value s
  | .runClear value => Sys2Proof.Machine.execRunClear value s
  | .softReset value => Sys2Proof.Machine.execSoftReset value s
  | .softResetCompletion => Sys2Proof.Machine.execSoftResetCompletion s
  | .attnWrite value => Sys2Proof.Machine.execAttnWrite value s
  | .attnEnWrite value => Sys2Proof.Machine.execAttnEnWrite value s
  | .registerWriteOther word value => Sys2Proof.Machine.execRegisterWriteOther word value s
  | .post f lanes => Sys2Proof.Machine.execPost f lanes s
  | .release f lanes => Sys2Proof.Machine.execRelease f lanes s
  | .softStop f lanes => Sys2Proof.Machine.execSoftStop f lanes s
  | .hardStop f lanes => Sys2Proof.Machine.execHardStop f lanes s
  | .load slot lanes => Sys2Proof.Machine.execLoad slot lanes s
  | .reclaim slot lanes => Sys2Proof.Machine.execReclaim slot lanes s
  | .withdraw slot lanes => Sys2Proof.Machine.execWithdraw slot lanes s
  | .openWafer lanes => Sys2Proof.Machine.execOpenWafer lanes s
  | .closeWafer lanes => Sys2Proof.Machine.execCloseWafer lanes s
  | .watchedWordNoRequest word lanes data => Sys2Proof.Machine.execWatchedWordNoRequest word lanes data s
  | .dataWordWrite word lanes data => Sys2Proof.Machine.execDataWordWrite word lanes data s
  | .frameStart => Sys2Proof.Machine.execFrameStart s
  | .handBack => Sys2Proof.Machine.execHandBack s
  | .closeCompletion => Sys2Proof.Machine.execCloseCompletion s
  | .contactSample k code => Sys2Proof.Machine.execContactSample k code s
  | .contactTimerExpiry k => Sys2Proof.Machine.execContactTimerExpiry k s
  | .referenceReadCompletion k refOpen refBlown => Sys2Proof.Machine.execReferenceReadCompletion k refOpen refBlown s
  | .readACompletion k codes => Sys2Proof.Machine.execReadACompletion k codes s
  | .verifyCompletion k codes => Sys2Proof.Machine.execVerifyCompletion k codes s
  | .keyWaitExpiry k => Sys2Proof.Machine.execKeyWaitExpiry k s
  | .keyDraw => Sys2Proof.Machine.execKeyDraw s
  | .budgetGrant => Sys2Proof.Machine.execBudgetGrant s
  | .pulseCompletion k sample => Sys2Proof.Machine.execPulseCompletion k sample s
  | .overcurrentEvent k sample => Sys2Proof.Machine.execOvercurrentEvent k sample s
  | .thermalReading k celsius => Sys2Proof.Machine.execThermalReading k celsius s
  | .settleTimerExpiry => Sys2Proof.Machine.execSettleTimerExpiry s
  | .wakeTimerExpiry => Sys2Proof.Machine.execWakeTimerExpiry s
  | .idleTimerExpiry => Sys2Proof.Machine.execIdleTimerExpiry s
  | .undervoltageEvent => Sys2Proof.Machine.execUndervoltageEvent s
  | .supplyGoodEvent => Sys2Proof.Machine.execSupplyGoodEvent s
  | .holdExpiry => Sys2Proof.Machine.execHoldExpiry s
  | .offPendingCompletion => Sys2Proof.Machine.execOffPendingCompletion s
  | .droppedWatchedWordWrite word lanes data => Sys2Proof.Machine.execDroppedWatchedWordWrite word lanes data s

end Sys2Proof.Machine
end

