-- ==== Sys2Proof/Safety.lean ====
section
/-!
DEFINITION. What a safe state is, in the terms the claims use: the invariants of exchange memory, the frame scheduler, the key pool, the
working recipes, the monitors and the current budget; which commands are tester writes; and what the end of a site leaves.
-/

namespace Sys2Proof

/-- The commands that are tester writes to exchange memory. -/
def Instr.isMemoryWrite : Instr → Bool
  | .post _ _ | .release _ _ | .softStop _ _ | .hardStop _ _ | .load _ _ | .reclaim _ _ | .withdraw _ _ | .openWafer _
  | .closeWafer _ | .watchedWordNoRequest _ _ _ | .dataWordWrite _ _ _ | .droppedWatchedWordWrite _ _ _ => true
  | .powerOnReset | .initialisationEnd | .runSet _ | .runClear _ | .softReset _ | .softResetCompletion | .attnWrite _
  | .attnEnWrite _ | .registerWriteOther _ _ | .frameStart | .handBack | .closeCompletion | .contactSample _ _
  | .contactTimerExpiry _ | .referenceReadCompletion _ _ _ | .readACompletion _ _ | .verifyCompletion _ _ | .keyWaitExpiry _
  | .keyDraw | .budgetGrant | .pulseCompletion _ _ | .overcurrentEvent _ _ | .thermalReading _ _ | .settleTimerExpiry
  | .wakeTimerExpiry | .idleTimerExpiry | .undervoltageEvent | .supplyGoodEvent | .holdExpiry | .offPendingCompletion => false

/-- The commands that are tester writes to RUN_CTRL. -/
def Instr.isRunCtrlWrite : Instr → Bool
  | .runSet _ | .runClear _ | .softReset _ => true
  | .post _ _ | .release _ _ | .softStop _ _ | .hardStop _ _ | .load _ _ | .reclaim _ _ | .withdraw _ _ | .openWafer _
  | .closeWafer _ | .watchedWordNoRequest _ _ _ | .dataWordWrite _ _ _ | .droppedWatchedWordWrite _ _ _ | .powerOnReset
  | .initialisationEnd | .softResetCompletion | .attnWrite _ | .attnEnWrite _ | .registerWriteOther _ _ | .frameStart | .handBack
  | .closeCompletion | .contactSample _ _ | .contactTimerExpiry _ | .referenceReadCompletion _ _ _ | .readACompletion _ _
  | .verifyCompletion _ _ | .keyWaitExpiry _ | .keyDraw | .budgetGrant | .pulseCompletion _ _ | .overcurrentEvent _ _
  | .thermalReading _ _ | .settleTimerExpiry | .wakeTimerExpiry | .idleTimerExpiry | .undervoltageEvent | .supplyGoodEvent
  | .holdExpiry | .offPendingCompletion => false

namespace Machine

/-! ### Invariants -/

/-- Exchange memory has its canonical form. -/
def State.MemoryCanonical (s : State) : Prop := Memory.wf s.mem = true

/-- The post list holds exactly the QUEUED frames, each once; the running frame is the one in RUNNING or STOPPING; a working recipe is
held for exactly the part-owned frames; and a CLOSED wafer finds the scheduler idle (R135, R138, R153, R177). -/
def State.FramesCoherent (s : State) : Prop :=
  s.sched.postList.Nodup ∧ (∀ f, f ∈ s.sched.postList ↔ s.frameState f = .queued)
    ∧ (∀ f, s.sched.running = some f ↔ s.frameState f = .running ∨ s.frameState f = .stopping)
    ∧ (∀ f, (look s.sched.recipes f).isSome = (s.frameState f).partOwned)
    ∧ (s.wafer = .closed → s.sched.running = none ∧ s.sched.postList = [])

/-- loaded_count is the number of LOADED slots; the redraw list holds distinct LOADED slots; the keys that sites hold come from distinct
DRAWN slots; and while any site waits, no slot is drawable (R120, R123, R130, R131). -/
def State.PoolCoherent (s : State) : Prop :=
  s.pool.loadedCount = (List.finRange 256).countP (fun i => s.slotState i == .loaded)
    ∧ s.pool.redraw.Nodup ∧ (∀ i ∈ s.pool.redraw, s.slotState i = .loaded)
    ∧ (∀ k h, (s.site k).seq.key = some h → s.slotState h.slot = .drawn)
    ∧ (∀ j k h h', j ≠ k → (s.site j).seq.key = some h → (s.site k).seq.key = some h' → h.slot ≠ h'.slot)
    ∧ ((∃ k, look s.pool.waiting k ≠ none) → s.pool.loadedCount = 0)

/-- No key of zeros is in the pool or with a site: the first 16 bytes of the key value of a LOADED slot, and of a key buffer, are not all
zero (R116, R123, R128). -/
def State.KeysNonzero (s : State) : Prop :=
  (∀ i, s.slotState i = .loaded → ∃ j < 16, Memory.read s.mem (slotBase i + 0x20 + j) ≠ 0)
    ∧ ∀ k h, (s.site k).seq.key = some h → ∃ j < 16, ∃ b, h.buffer[j]? = some b ∧ b ≠ 0

/-- The key value field of every DRAWN slot reads as zero (R123). -/
def State.DrawnWiped (s : State) : Prop :=
  ∀ i, s.slotState i = .drawn → ∀ j < 32, Memory.read s.mem (slotBase i + 0x20 + j) = 0

/-- A working recipe is within the ranges of R178 to R180 and R182. -/
def Recipe.InRange (r : Recipe) : Prop :=
  (1 ≤ r.burstSize ∧ r.burstSize ≤ 8) ∧ (1 ≤ r.attemptLimit ∧ r.attemptLimit ≤ 8) ∧ (1 ≤ r.baseWidth ∧ r.baseWidth ≤ 50)
    ∧ r.escalation ≤ 16 ∧ (1 ≤ r.wb ∧ r.wb ≤ 7) ∧ r.wi < r.wb ∧ (16 ≤ r.minWindow ∧ r.minWindow ≤ 1023)
    ∧ r.degradedTolerance ≤ 16 ∧ r.pumpLevel ≤ 15 ∧ (20 ≤ r.budget ∧ r.budget ≤ 1000)
    ∧ (1 ≤ r.cellCurrent ∧ r.cellCurrent ≤ 60 ∧ r.cellCurrent ≤ r.budget) ∧ (1 ≤ r.debounceCount ∧ r.debounceCount ≤ 15)
    ∧ r.idleTime ≤ 1000 ∧ (1 ≤ r.holdLimit ∧ r.holdLimit ≤ 100) ∧ (1 ≤ r.contactTimeout ∧ r.contactTimeout ≤ 50)
    ∧ r.keyWait ≤ 5000 ∧ r.contactOpenMax < r.contactShortMin ∧ r.contactShortMin ≤ 1023
    ∧ (60 ≤ r.thermalWarn ∧ r.thermalWarn ≤ 150) ∧ (r.thermalWarn + 10 ≤ r.thermalShutdown ∧ r.thermalShutdown ≤ 180)
    ∧ r.poolWatermark ≤ 255 ∧ ∀ c, look r.binMap c ≤ 63

/-- Every working recipe held is in range (R177 to R182). -/
def State.RecipesInRange (s : State) : Prop := ∀ f r, look s.sched.recipes f = some r → r.InRange

/-- Every monitor's shutdown threshold lies at least 10 above its warning threshold, and a set shutdown latch comes with a live warning
(R99, R102). -/
def State.MonitorsOrdered (s : State) : Prop :=
  ∀ k, (s.site k).monitor.warnAt + 10 ≤ (s.site k).monitor.shutAt
    ∧ ((s.site k).monitor.shutLatch = true → (s.site k).monitor.warnLive = true)

/-- The current in use is the sum over the grants in flight and at most B; a grant is in flight exactly while a PULSE of its site is,
and its site is then in PULSE; requests wait for sites in BURN_WAIT and draw requests for sites in KEYWAIT alone; keys are held from
BURN_WAIT on; a REFERENCE READ is in flight at a site in REFER or at one that does not run; a site that has reported END does not run,
and without a running frame no site runs (R8, R33, R38, R51, R59, R92, R95, R146). -/
def State.BudgetCoherent (s : State) : Prop :=
  s.arbiter.inUse = (allSites.map fun k => (look s.arbiter.grants k).getD 0 * s.supply.params.cellCurrent).sum
    ∧ s.arbiter.inUse ≤ s.supply.params.budget
    ∧ (∀ k, look s.arbiter.grants k ≠ none ↔ (s.site k).port.lineOn = true)
    ∧ (∀ k, look s.arbiter.grants k ≠ none → (s.site k).seq.state = .pulse)
    ∧ (∀ k, look s.arbiter.requests k ≠ none → (s.site k).seq.state = .burnWait)
    ∧ (∀ k, look s.pool.waiting k ≠ none → (s.site k).seq.state = .keywait)
    ∧ (∀ k, (s.site k).seq.key ≠ none → (s.site k).seq.state = .burnWait ∨ (s.site k).seq.state = .pulse
        ∨ (s.site k).seq.state = .verify ∨ (s.site k).seq.state = .final)
    ∧ (∀ k, s.opOf k = some .referenceRead → (s.site k).seq.state = .refer ∨ (s.site k).seq.state.isRunning = false)
    ∧ (∀ k, look s.sched.ended k = true → (s.site k).seq.state.isRunning = false)
    ∧ (s.sched.running = none → ∀ k, (s.site k).seq.state.isRunning = false)

/-- The site waits for the boundary of an operation in flight: REFER, BLANK, PULSE, VERIFY or FINAL (R55). -/
def SiteState.busy : SiteState → Bool
  | .refer | .blank | .pulse | .verify | .final => true
  | .idle | .contact | .keywait | .burnWait | .ended => false

/-- A site that has taken a HARD stop waits for its boundary or has ended; no site has taken a stop while none is in force or no frame runs,
and none a HARD one while SOFT is in force (R55, R57, R144). -/
def State.StopsCoherent (s : State) : Prop :=
  (∀ k, (s.site k).seq.stopTaken = .hard → (s.site k).seq.state.busy = true ∨ (s.site k).seq.state = .ended)
    ∧ ((s.sched.stop = .none ∨ s.sched.running = none) → ∀ k, (s.site k).seq.stopTaken = .none)
    ∧ (s.sched.stop = .soft → ∀ k, (s.site k).seq.stopTaken ≠ .hard)

/-- Whether a tester write of an ordinary word of exchange memory meets a part-owned record (R163, R166). -/
def State.wordPartOwned (s : State) : WordKind → Bool
  | .header => true
  | .waferState | .waferRequest | .waferData | .map => s.wafer.partOwned
  | .recipe | .unmapped => false
  | .frameState f | .frameStop f | .frameData f => (s.frameState f).partOwned
  | .slotState i | .slotData i => (s.slotState i).partOwned

/-- A verify judged from the codes of read A and read B against a reference set, cell by cell (R21, R22). -/
def RowVerify.JudgedFrom (v : RowVerify) (refs : RefSet) (a b : LaneCodes) : Prop :=
  ∀ c, look v.lo c = min (look a c) (look b c) ∧ look v.hi c = max (look a c) (look b c)
    ∧ look v.cells c = if refs.tB ≤ (look v.lo c).val then .blown else if (look v.hi c).val ≤ refs.tI then .intact else .marginal

/-- Number of pairs of a verified row with at least one BLOWN cell (R14, R16, R50). -/
def RowVerify.blownPairs (v : RowVerify) : Nat :=
  (List.finRange 16).countP fun b => look v.cells (primaryCol b) == .blown || look v.cells (secondaryCol b) == .blown

/-- Site k has read B of a verify of a row in flight, with read A's codes in its lane buffer, and the verify comes out as v (R21). -/
def State.Verifying (s : State) (k : SiteNo) (row : Row) (codes : LaneCodes) (v : RowVerify) : Prop :=
  s.opOf k = some (.rowRead row .margin) ∧ ∃ a, (s.site k).seq.laneA = some a ∧ v.JudgedFrom (s.site k).seq.refs a codes

/-- Frame f runs, site k has no burst request waiting, and another site has not reported END: what the statements on the end of one
site rest on, so that nothing but that end follows. -/
def State.EndsAlone (s : State) (f : FrameNo) (k : SiteNo) : Prop :=
  s.sched.running = some f ∧ look s.arbiter.requests k = none ∧ ∃ j, j ≠ k ∧ look s.sched.ended j = false

/-- The supply unit of t is that of s after a burst request has arrived: with off pending clear, OFF with RUN 1 and IDLE_LOW of kind SLOW
lead to RAMP with 200 us to settle, IDLE_LOW of kind FAST to WAKE with 10 us; in READY the idle timer stops; nothing else changes (R83,
R85, R86, R90). -/
def State.PumpTakesRequest (s t : State) : Prop :=
  (s.supply.offPending = false → ((s.supply.pump = .off ∧ s.run = true) ∨ (s.supply.pump = .idleLow ∧ s.supply.idleKind = .slow)) →
      t.supply = { s.supply with
        pump := .ramp, settleTimer := some 200, wakeTimer := none, idleTimer := none, holdTimer := none })
    ∧ (s.supply.offPending = false → s.supply.pump = .idleLow → s.supply.idleKind = .fast →
      t.supply = { s.supply with pump := .wake, wakeTimer := some 10 })
    ∧ (s.supply.pump = .ready → t.supply = { s.supply with idleTimer := none })
    ∧ ((s.supply.pump = .ramp ∨ s.supply.pump = .wake ∨ s.supply.pump = .hold ∨ (s.supply.pump = .off ∧ s.run = false)
        ∨ (s.supply.pump ≠ .ready ∧ s.supply.offPending = true)) → t.supply = s.supply)

/-- A burst request of site k arrives, the site standing as x: it waits with the cells of x's current burst, the pump takes it, and
nothing else changes; its evaluation is the step BUDGET_GRANT (R93; log 31). -/
structure State.RequestArrives (s t : State) (k : SiteNo) (x : Site) : Prop where
  pump : s.PumpTakesRequest t
  rest : t = { s with
    sites := put s.sites k x
    supply := t.supply
    arbiter := { s.arbiter with requests := put s.arbiter.requests k (some x.former.current.length) } }

/-- Attempt n of a row begins at site k with the cells of a pending set: they are laid out in burst order, the first burst is cut at the
effective size, and its request arrives (R43, R46, R62 to R65). -/
def State.AttemptBegins (s t : State) (k : SiteNo) (row : Row) (n : Nat) (pending : ColSet) : Prop :=
  ∀ (e : Nat) (cols l₁ l₂ : List Col), cols = allCols.filter (hasCol pending) →
    e = (if (s.site k).monitor.warnLive then (s.workingRecipe.burstSize + 1) / 2 else s.workingRecipe.burstSize) →
    l₁ = (if s.workingRecipe.burstOrder = .linear then cols else cols.filter fun c => c.val % 2 == 0) →
    l₂ = (if s.workingRecipe.burstOrder = .linear then [] else cols.filter fun c => c.val % 2 == 1) →
    s.RequestArrives t k { s.site k with
      seq := { (s.site k).seq with state := .burnWait, row := some row, attempt := n, pendingSet := pending }
      former := {
        state := .requesting, row := some row, attempt := n, current := if l₁ = [] then l₂.take e else l₁.take e
        first := l₁.drop e, second := if l₁ = [] then l₂.drop e else l₂, held := []
        pulsedCols := if n = 0 then 0 else (s.site k).former.pulsedCols } }

/-- Site k of s begins the first row of its plan, from row lo up to the check row, whose image is not empty; where none is left it enters
FINAL with read A of row 0 in flight (R43, R46, R47; the attempt number in FINAL is the model's choice, log 29). -/
def State.RowBegins (s t : State) (k : SiteNo) (lo : Nat) : Prop :=
  (∀ next : Row, lo ≤ next.val → next ≤ s.workingRecipe.keyLength.checkRow → planImage (s.site k).seq.plan next ≠ 0 →
      (∀ r : Row, lo ≤ r.val → r < next → planImage (s.site k).seq.plan r = 0) →
      s.AttemptBegins t k next 0 (planImage (s.site k).seq.plan next))
    ∧ ((∀ r : Row, lo ≤ r.val → r ≤ s.workingRecipe.keyLength.checkRow → planImage (s.site k).seq.plan r = 0) →
      t = { s with sites := put s.sites k { s.site k with
        seq := { (s.site k).seq with
          state := .final, row := some 0, attempt := 0, pendingSet := 0, worstBlown := 1023, worstIntact := 1023, degraded := 0 }
        port := { (s.site k).port with op := some (.rowRead 0 .nominal) } } })

/-- The supply unit of s with the idle timer started for idle_time if the pump is READY with off pending clear, no request waits, no
pulse is in flight and idle_time is not 0; else as it is (R84, R85, R95, R96). -/
def State.idleIfQuiet (s : State) : Supply :=
  if s.supply.pump = .ready ∧ s.supply.offPending = false ∧ (∀ k, look s.arbiter.requests k = none)
      ∧ (∀ k, look s.arbiter.grants k = none) ∧ s.supply.params.idleTime ≠ 0 then
    { s.supply with idleTimer := some (s.supply.params.idleTime * 1000) }
  else s.supply

/-- The grant of g cells of site k is released: the requests that have arrived are evaluated as by BUDGET_GRANT (log 31), the current in
use falls, OFF is entered if off pending is set and the current in use comes to 0, the waiting requests are evaluated as by BUDGET_GRANT,
and the idle timer starts if nothing is left (R90, R93, R95). -/
def State.ReleasesTo (s t : State) (k : SiteNo) (g : Nat) : Prop :=
  ∃ a b, exec .budgetGrant s = .next a
    ∧ exec .budgetGrant { a with
        arbiter := { a.arbiter with
          grants := put a.arbiter.grants k none, inUse := a.arbiter.inUse - g * a.supply.params.cellCurrent }
        supply := if a.supply.offPending = true ∧ a.arbiter.inUse ≤ g * a.supply.params.cellCurrent then
            { a.supply with
              pump := .off, offPending := false, settleTimer := none, wakeTimer := none, idleTimer := none, holdTimer := none }
          else a.supply } = .next b
    ∧ t = { b with supply := b.idleIfQuiet }

/-- The pulse of site k is over, by completion or by truncation: the program line is off, and the monitor has let go of limits and sample
and noted a truncation (R10, R104, R111). -/
def State.pulseDone (s : State) (k : SiteNo) (truncated : Bool) : State :=
  { s with sites := put s.sites k { s.site k with
    port := { (s.site k).port with op := none }
    monitor := { (s.site k).monitor with
      phase := .noPulse, limits := none, sample := none, truncated := (s.site k).monitor.truncated || truncated } } }

/-- The pulse of site k, granted g cells, ends by completion or by truncation, and the grant is released (R10, R95). -/
def State.PulseEnds (s t : State) (k : SiteNo) (g : Nat) (truncated : Bool) : Prop :=
  (s.pulseDone k truncated).ReleasesTo t k g

/-- The reference read of site k has completed and the site has taken the reference set (R12, R17). -/
def State.refsRecorded (s : State) (k : SiteNo) (refs : RefSet) : State :=
  { s with sites := put s.sites k { s.site k with
    seq := { (s.site k).seq with refs := refs }
    port := { (s.site k).port with op := none } } }

/-- The verify v of a row of site k has completed: it replaces what the site held for the row, and the lane buffer is discarded (R21). -/
def State.verifyRecorded (s : State) (k : SiteNo) (row : Row) (v : RowVerify) : State :=
  { s with sites := put s.sites k { s.site k with
    seq := { (s.site k).seq with verified := put (s.site k).seq.verified row (some v), laneA := none }
    port := { (s.site k).port with op := none } } }

/-- The row that site k burned is done: nothing is pending, and its former is IDLE with row, attempt and pulsed columns at their reset
values (R46, R60). -/
def State.rowLeft (s : State) (k : SiteNo) : State :=
  { s with sites := put s.sites k { s.site k with
    seq := { (s.site k).seq with pendingSet := 0 }
    former := { (s.site k).former with state := .idle, row := none, attempt := 0, pulsedCols := 0 } } }

/-- u is s after the verify v of a row in FINAL at site k has been recorded and folded: the worst margins become the lowest of themselves and
the margins of the row's cells, and the degraded pair count is deg (R25, R47). -/
def State.FoldsFinal (s u : State) (k : SiteNo) (row : Row) (v : RowVerify) (deg : Nat) : Prop :=
  ∃ mb mi : Int,
    (∀ x : Int, x ≤ mb ↔ x ≤ (s.site k).seq.worstBlown
      ∧ ∀ c, hasCol (planImage (s.site k).seq.plan row) c = true → x ≤ (look v.lo c).val - (s.site k).seq.refs.tB)
    ∧ (∀ x : Int, x ≤ mi ↔ x ≤ (s.site k).seq.worstIntact
      ∧ ∀ c, hasCol (planImage (s.site k).seq.plan row) c = false → x ≤ (s.site k).seq.refs.tI - (look v.hi c).val)
    ∧ u = { s with sites := put s.sites k { s.site k with
        seq := { (s.site k).seq with
          verified := put (s.site k).seq.verified row (some v), laneA := none, worstBlown := mb, worstIntact := mi
          degraded := deg }
        port := { (s.site k).port with op := none } } }

/-- No stop keeps site k from going on at a boundary: it took none, or a SOFT stop while it holds a key that a pulse was issued with (R55,
R56). -/
def State.RunsOn (s : State) (k : SiteNo) : Prop :=
  (s.site k).seq.stopTaken = .none
    ∨ ((s.site k).seq.stopTaken = .soft ∧ (s.site k).seq.pulsed = true ∧ (s.site k).seq.key ≠ none)

/-- No hand-back is due: no frame runs, or a site of the running frame has not reported END (R146). -/
def State.NoHandBackDue (s : State) : Prop := s.sched.running = none ∨ ∃ j, look s.sched.ended j = false

/-- t shows the summary of a close of the wafer whose map s shows: seven counts of the map's entries, whose sum is its size, in the summary
words, and request word 0 (R155, R157). -/
def State.ShowsSummary (s t : State) : Prop :=
  (∀ i < 6, (Memory.read16 t.mem (0x110 + 2 * i)).toNat
      = (List.range 16384).countP fun j => (Memory.read s.mem (0xC000 + j)).toNat == i)
    ∧ (Memory.read16 t.mem 0x11C).toNat = ((List.range 16384).countP fun j => decide (6 ≤ (Memory.read s.mem (0xC000 + j)).toNat))
    ∧ ((List.range 7).map fun i => (Memory.read16 t.mem (0x110 + 2 * i)).toNat).sum = 16384
    ∧ Memory.read32 t.mem 0x104 = 0

/-! ### The working recipe of a snapshot -/

/-- used is raw brought into lo..hi: raw itself inside the range, the nearest end of it outside (R178). -/
def BroughtInto (lo hi raw used : Nat) : Prop :=
  (raw < lo → used = lo) ∧ (hi < raw → used = hi) ∧ (lo ≤ raw → raw ≤ hi → used = raw)

/-- u is the working recipe of the snapshot r by R178 to R182: every numeric field brought into its range, the second field of each pair
into the range the first as used gives it, the codes taken by their values, offsets and watermark as written. -/
structure RawRecipe.UsedAs (r : RawRecipe) (u : Recipe) : Prop where
  burn : BroughtInto 1 8 r.burstSize u.burstSize ∧ BroughtInto 1 8 r.attemptLimit u.attemptLimit
    ∧ BroughtInto 1 50 r.baseWidth u.baseWidth ∧ BroughtInto 0 16 r.escalation u.escalation
  sense : BroughtInto 16 1023 r.minWindow u.minWindow ∧ BroughtInto 0 16 r.degradedTolerance u.degradedTolerance
    ∧ BroughtInto 1 7 r.wb u.wb ∧ BroughtInto 0 (u.wb - 1) r.wi u.wi
  supply : BroughtInto 0 15 r.pumpLevel u.pumpLevel ∧ BroughtInto 20 1000 r.budget u.budget
    ∧ BroughtInto 1 (min 60 u.budget) r.cellCurrent u.cellCurrent
  timers : BroughtInto 0 1000 r.idleTime u.idleTime ∧ BroughtInto 1 100 r.holdLimit u.holdLimit
    ∧ BroughtInto 1 50 r.contactTimeout u.contactTimeout ∧ BroughtInto 0 5000 r.keyWait u.keyWait
  contact : BroughtInto 1 15 r.debounceCount u.debounceCount ∧ BroughtInto 0 1022 r.contactOpenMax u.contactOpenMax
    ∧ BroughtInto (u.contactOpenMax + 1) 1023 r.contactShortMin u.contactShortMin
  thermal : BroughtInto 60 150 r.thermalWarn u.thermalWarn
    ∧ BroughtInto (u.thermalWarn + 10) 180 r.thermalShutdown u.thermalShutdown
  bins : ∀ c, BroughtInto 0 63 (look r.binMap c) (look u.binMap c)
  codes : (r.keyLengthCode = 0 → u.keyLength = .bits128) ∧ (r.keyLengthCode = 1 → u.keyLength = .bits256)
    ∧ (r.burstOrder = 1 → u.burstOrder = .split) ∧ (r.burstOrder ≠ 1 → u.burstOrder = .linear)
    ∧ (r.exitCode = 0 → u.exitKind = .fast) ∧ (r.exitCode ≠ 0 → u.exitKind = .slow)
  asWritten : u.poolWatermark = r.poolWatermark ∧ u.dx = r.dx ∧ u.dy = r.dy

/-- Bit i of the clamp flags of a snapshot r used as u: set exactly if the field of that bit changed (R178 to R180, R182). -/
def RawRecipe.flagOf (r : RawRecipe) (u : Recipe) : Nat → Bool
  | 0 => r.burstSize != u.burstSize
  | 1 => decide (2 ≤ r.burstOrder)
  | 2 => r.attemptLimit != u.attemptLimit
  | 3 => r.baseWidth != u.baseWidth
  | 4 => r.escalation != u.escalation
  | 5 => r.wb != u.wb
  | 6 => r.wi != u.wi
  | 7 => r.minWindow != u.minWindow
  | 8 => r.degradedTolerance != u.degradedTolerance
  | 9 => r.pumpLevel != u.pumpLevel
  | 10 => r.cellCurrent != u.cellCurrent
  | 11 => r.budget != u.budget
  | 12 => r.debounceCount != u.debounceCount
  | 13 => r.idleTime != u.idleTime
  | 14 => r.holdLimit != u.holdLimit
  | 15 => r.contactTimeout != u.contactTimeout
  | 16 => r.keyWait != u.keyWait
  | 17 => r.contactOpenMax != u.contactOpenMax
  | 18 => r.contactShortMin != u.contactShortMin
  | 19 => r.thermalWarn != u.thermalWarn
  | 20 => r.thermalShutdown != u.thermalShutdown
  | 21 => (List.finRange 14).any fun c => decide (63 < look r.binMap c)
  | _ => false

/-! ### What the end of a site leaves -/

/-- Site k has ended with outcome o: no key, no timer, no plan, an idle burst former, no request, reported (R33, R51, R52, R60). -/
structure State.EndedAs (t : State) (k : SiteNo) (o : SiteOutcome) : Prop where
  state : (t.site k).seq.state = .ended
  outcome : (t.site k).seq.outcome = some o
  key : (t.site k).seq.key = none
  timers : (t.site k).seq.contactTimer = none ∧ (t.site k).seq.keyTimer = none
  plan : (t.site k).seq.plan = []
  former : (t.site k).former.state = .idle ∧ (t.site k).former.first = [] ∧ (t.site k).former.second = []
    ∧ (t.site k).former.current = [] ∧ (t.site k).former.held = []
  noDraw : look t.pool.waiting k = none
  noRequest : look t.arbiter.requests k = none
  reported : look t.sched.ended k = true

/-- Offset of the map entry of the die at site k (R158). -/
def State.mapEntryOf (s : State) (k : SiteNo) : Nat := mapBase + mapIndex (s.site k).seq.dieX (s.site k).seq.dieY

/-- Every byte of exchange memory outside lo..hi-1 reads as before. -/
def State.KeepsBytesOutside (s t : State) (lo hi : Nat) : Prop :=
  ∀ a, (a < lo ∨ hi ≤ a) → Memory.read t.mem a = Memory.read s.mem a

/-- The record of site k in frame f shows outcome o with its bin, key disposition d, a serial and the members of the site as they stand
(R52, R134, 10.5). -/
structure State.RecordShows (t : State) (f : FrameNo) (k : SiteNo) (o : SiteOutcome) (d : Nat) (serial : Word) : Prop where
  header : Memory.readBytes t.mem (siteRecordBase f k) 4
    = [nat8 k.val, nat8 o.code.val, nat8 (t.site k).seq.skip.code, nat8 (look t.workingRecipe.binMap o.code)]
  position : Memory.read32 t.mem (siteRecordBase f k + 0x04) = BitVec.ofInt 32 (t.site k).seq.dieX
    ∧ Memory.read32 t.mem (siteRecordBase f k + 0x08) = BitVec.ofInt 32 (t.site k).seq.dieY
  serial : Memory.read32 t.mem (siteRecordBase f k + 0x0C) = serial
  disposition : Memory.read t.mem (siteRecordBase f k + 0x10) = nat8 d
  flags : ∀ i < 8, (Memory.read t.mem (siteRecordBase f k + 0x11)).getLsbD i
    = ((i == 0 && (t.site k).monitor.thermalSeen) || (i == 1 && (t.site k).seq.chopApplied)
        || (i == 2 && (t.site k).monitor.holdSeen) || (i == 3 && (t.site k).monitor.truncated))
  fingerprint : Memory.read16 t.mem (siteRecordBase f k + 0x12) = (t.site k).seq.fingerprint
  references : Memory.read16 t.mem (siteRecordBase f k + 0x14) = BitVec.ofNat 16 (t.site k).seq.refs.refOpen
    ∧ Memory.read16 t.mem (siteRecordBase f k + 0x16) = BitVec.ofNat 16 (t.site k).seq.refs.refBlown
    ∧ Memory.read16 t.mem (siteRecordBase f k + 0x18) = BitVec.ofNat 16 (t.site k).seq.refs.tI
    ∧ Memory.read16 t.mem (siteRecordBase f k + 0x1A) = BitVec.ofNat 16 (t.site k).seq.refs.tB
  counts : Memory.read16 t.mem (siteRecordBase f k + 0x1C) = BitVec.ofNat 16 (t.site k).seq.cellsPulsed
    ∧ Memory.read16 t.mem (siteRecordBase f k + 0x1E) = BitVec.ofNat 16 (t.site k).seq.pulsesIssued
    ∧ Memory.read t.mem (siteRecordBase f k + 0x20) = nat8 (t.site k).seq.highestAttempt
    ∧ Memory.read t.mem (siteRecordBase f k + 0x21) = nat8 (min (t.site k).seq.degraded 255)
  margins : Memory.read16 t.mem (siteRecordBase f k + 0x22) = BitVec.ofInt 16 (t.site k).seq.worstBlown
    ∧ Memory.read16 t.mem (siteRecordBase f k + 0x24) = BitVec.ofInt 16 (t.site k).seq.worstIntact

/-- A site as its end leaves it: END with its outcome, both timers stopped, no key, no plan; the former's lists, current burst and held
remainder discarded; the monitor as it stands; the port's selection none, at once or when a read in flight completes (R8, R51, R52, R60).
That the lane buffer stays as it stands is the model's choice (log 32). -/
def Site.asEnded (o : SiteOutcome) (x : Site) : Site :=
  { seq := { x.seq with state := .ended, outcome := some o, contactTimer := none, keyTimer := none, key := none, plan := [] }
    former := { x.former with state := .idle, first := [], second := [], current := [], held := [] }
    monitor := x.monitor
    port := if x.port.op = none ∨ x.port.op = some .contactSample then { selection := none, op := none } else x.port }

/-- From s, in which what the ending command does first is done, a site that holds no key ends: its record in frame f shows the outcome,
serial 0 and disposition NONE, its map entry carries the map code, and nothing else changes but the members its end sets, its draw request
and its report (R51 to R53). -/
structure State.EndsKeyless (s t : State) (f : FrameNo) (k : SiteNo) (o : SiteOutcome) (code : Byte) : Prop where
  ended : t.EndedAs k o
  record : t.RecordShows f k o 0 0
  site : t.site k = (s.site k).asEnded o
  map : onMap (s.site k).seq.dieX (s.site k).seq.dieY = true → Memory.read t.mem (s.mapEntryOf k) = code
  memory : ∀ a, (a < siteRecordBase f k ∨ siteRecordBase f k + 38 ≤ a) → a ≠ s.mapEntryOf k →
    Memory.read t.mem a = Memory.read s.mem a
  others : ∀ j, j ≠ k → t.site j = s.site j
  rest : t = { s with
    mem := t.mem
    sites := t.sites
    pool := { s.pool with waiting := put s.pool.waiting k none }
    sched := { s.sched with ended := put s.sched.ended k true } }

/-- From s, in which what the ending command does first at the site is done, a site that holds key h ends with the key spent: slot BOUND or
VOIDED with its disposition, tally raised, record and map entry as the outcome asks, and no other slot, tally or byte touched (R52, R53, R127,
R129). -/
structure State.EndsSpent (s t : State) (f : FrameNo) (k : SiteNo) (o : SiteOutcome) (h : KeyHeld) (bound : Bool) : Prop where
  ended : t.EndedAs k o
  record : t.RecordShows f k o (if bound then 1 else 2) h.serial
  site : t.site k = (s.site k).asEnded o
  map : onMap (s.site k).seq.dieX (s.site k).seq.dieY = true → Memory.read t.mem (s.mapEntryOf k) = if bound then 2 else 4
  slot : t.slotState h.slot = if bound then .bound else .voided
  disposition : Memory.read t.mem (slotBase h.slot + 0x0C) = nat8 k.val
    ∧ Memory.read16 t.mem (slotBase h.slot + 0x0E) = (s.site k).seq.fingerprint
    ∧ Memory.read32 t.mem (slotBase h.slot + 0x10) = s.waferId
    ∧ Memory.read16 t.mem (slotBase h.slot + 0x14) = BitVec.ofInt 16 (s.site k).seq.dieX
    ∧ Memory.read16 t.mem (slotBase h.slot + 0x16) = BitVec.ofInt 16 (s.site k).seq.dieY
    ∧ Memory.read32 t.mem (slotBase h.slot + 0x18) = s.frameSeq f
  otherSlots : ∀ i, i ≠ h.slot → t.slotState i = s.slotState i
  tallies : t.pool.bound = (if bound then min (s.pool.bound + 1) 0xFFFF else s.pool.bound)
    ∧ t.pool.voided = (if bound then s.pool.voided else min (s.pool.voided + 1) 0xFFFF)
    ∧ t.pool.returned = s.pool.returned ∧ t.pool.loadedCount = s.pool.loadedCount ∧ t.pool.redraw = s.pool.redraw
  memory : ∀ a, (a < siteRecordBase f k ∨ siteRecordBase f k + 38 ≤ a) → (a < slotBase h.slot + 0x0C ∨ slotBase h.slot + 0x1C ≤ a) →
    a ≠ s.mapEntryOf k → Memory.read t.mem a = Memory.read s.mem a
  kept : t.attn = s.attn ∧ t.wafer = s.wafer ∧ t.run = s.run ∧ t.droppedWrites = s.droppedWrites
    ∧ t.sched = { s.sched with ended := put s.sched.ended k true }

/-- What a HARD stop leaves of site k: ended at once in CONTACT, KEYWAIT and BURN_WAIT, taken and waiting for its boundary in the states
with an operation in flight, nothing in IDLE and END (R55, R57). -/
def State.HardStopped (s t : State) (k : SiteNo) : Prop :=
  match (s.site k).seq.state with
  | .idle | .ended => t.site k = s.site k
  | .contact | .keywait | .burnWait => t.EndedAs k .aborted
  | _ => t.site k = { s.site k with seq := { (s.site k).seq with stopTaken := .hard } }

/-- What a SOFT stop leaves of site k: as a HARD stop, but a site that holds a key with which a pulse was issued runs on (R56). -/
def State.SoftStopped (s t : State) (k : SiteNo) : Prop :=
  match (s.site k).seq.state with
  | .idle | .ended => t.site k = s.site k
  | .contact | .keywait | .burnWait =>
    if (s.site k).seq.pulsed = true ∧ (s.site k).seq.key ≠ none then
      t.site k = { s.site k with seq := { (s.site k).seq with stopTaken := .soft } }
    else t.EndedAs k .aborted
  | _ => t.site k = { s.site k with seq := { (s.site k).seq with stopTaken := .soft } }

/-- One command has ended site k of frame f among others with outcome o, its stop taken now being stop: its record names its key, VOIDED (2) or RETURNED (3) by the
pulsed flag, or none; a site that waited for a key may have been handed a returned one first and then returned it too. A voided slot has
its disposition, and the map entry of a die that no other running site is on carries the map code (R52, R53, R127 to R129). -/
structure State.EndedAmongOthers (s t : State) (f : FrameNo) (k : SiteNo) (o : SiteOutcome) (stop : StopTaken) : Prop where
  ended : t.EndedAs k o
  site : look s.pool.waiting k = none →
    t.site k = Site.asEnded o { s.site k with seq := { (s.site k).seq with stopTaken := stop } }
  record : match (s.site k).seq.key with
    | some h => t.RecordShows f k o (if (s.site k).seq.pulsed then 2 else 3) h.serial
    | none => t.RecordShows f k o 0 0 ∨ (look s.pool.waiting k ≠ none ∧ ∃ serial, t.RecordShows f k o 3 serial)
  voided : ∀ h, (s.site k).seq.key = some h → (s.site k).seq.pulsed = true → t.slotState h.slot = .voided
    ∧ Memory.read t.mem (slotBase h.slot + 0x0C) = nat8 k.val
    ∧ Memory.read16 t.mem (slotBase h.slot + 0x0E) = (s.site k).seq.fingerprint
    ∧ Memory.read32 t.mem (slotBase h.slot + 0x10) = s.waferId
    ∧ Memory.read16 t.mem (slotBase h.slot + 0x14) = BitVec.ofInt 16 (s.site k).seq.dieX
    ∧ Memory.read16 t.mem (slotBase h.slot + 0x16) = BitVec.ofInt 16 (s.site k).seq.dieY
    ∧ Memory.read32 t.mem (slotBase h.slot + 0x18) = s.frameSeq f
  map : onMap (s.site k).seq.dieX (s.site k).seq.dieY = true →
    (∀ j, j ≠ k → (s.site j).seq.state.isRunning = true → s.mapEntryOf j ≠ s.mapEntryOf k) →
    ((s.site k).seq.key = none → (s.site k).seq.pulsed = false) →
    Memory.read t.mem (s.mapEntryOf k) = if (s.site k).seq.pulsed then 4 else 5

/-- The sites that a stop of this kind ends at once settle their keys and write their records and map entries; every key that no pulse was issued with is
back in the pool, and outside frame f, the slots and the map no byte changes (R52, R55, R56, R127, R128). -/
structure State.StopSettles (s t : State) (f : FrameNo) (stop : StopTaken) : Prop where
  ends : ∀ k, (s.site k).seq.state.isRunning = true → (t.site k).seq.state = .ended → s.EndedAmongOthers t f k .aborted stop
  returned : ∀ k h, (s.site k).seq.state.isRunning = true → (t.site k).seq.state = .ended → (s.site k).seq.key = some h →
    (s.site k).seq.pulsed = false → t.slotState h.slot = .loaded
  memory : ∀ a, (a < frameBase f ∨ frameBase f + 0x800 ≤ a) → (a < 0x4000 ∨ (0x8000 ≤ a ∧ a < 0xC000) ∨ 0x10000 ≤ a) →
    Memory.read t.mem a = Memory.read s.mem a
  attn : ∀ i, i ≠ 5 → t.attn.getLsbD i = s.attn.getLsbD i
  rest : t.wafer = s.wafer ∧ t.run = s.run ∧ t.droppedWrites = s.droppedWrites ∧ t.sched.postList = s.sched.postList
    ∧ ∀ g, g ≠ f → t.frameState g = s.frameState g

end Machine

end Sys2Proof
end

