-- ==== Sys2Proof/Certificates/Slice0/Obligations.lean ====
section
/-!
DEFINITION. The statements for the provers, one `def` each, from the numbered rules of spec/.
-/

open Sys2Proof Sys2Proof.Machine

/-- A step takes the command at the front of the queue and runs it on the state with the queue's rest; that an empty queue idles
is the model's choice (log 8). -/
def Obligations.StepRunsFrontCommand : Prop :=
  (∀ (c : Instr) (rest : List Instr) (s : State), s.pending = c :: rest → step s = exec c { s with pending := rest })
    ∧ ∀ s : State, s.pending = [] → step s = .next s

/-- No rule of the spec stops the part: every command, in every state, gives a next state; and none touches the queue of commands
that wait (log 8). -/
def Obligations.EveryCommandAnswersAndKeepsTheQueue : Prop :=
  ∀ (c : Instr) (s : State), ∃ t, exec c s = .next t ∧ t.pending = s.pending

/-- The power-on values of R174 meet the invariants that the statements below keep. -/
def Obligations.ResetMeetsTheInvariants : Prop :=
  State.reset.MemoryCanonical ∧ State.reset.FramesCoherent ∧ State.reset.PoolCoherent ∧ State.reset.DrawnWiped ∧ State.reset.KeysNonzero
    ∧ State.reset.RecipesInRange ∧ State.reset.MonitorsOrdered ∧ State.reset.BudgetCoherent ∧ State.reset.StopsCoherent

/-- No store of the part or of the tester lands outside exchange memory, and equal memories stay equal data. -/
def Obligations.StepKeepsMemoryCanonical : Prop :=
  ∀ s t : State, s.MemoryCanonical → step s = .next t → t.MemoryCanonical

/-- At most one frame is RUNNING or STOPPING, the post list holds exactly the QUEUED frames without duplicates (R135), and every
frame runs on an OPEN or CLOSING wafer (R153). -/
def Obligations.StepKeepsFramesCoherent : Prop :=
  ∀ s t : State, s.FramesCoherent → step s = .next t → t.FramesCoherent

/-- loaded_count equals the number of slots in LOADED at every moment (R131); the redraw list holds distinct LOADED slots (R130);
no two sites hold the key of one slot (R123); while any site waits, no slot is drawable (R120). -/
def Obligations.StepKeepsPoolCoherent : Prop :=
  ∀ s t : State, s.PoolCoherent → step s = .next t → t.PoolCoherent

/-- After a draw the key exists only in the site's key buffer until the site's END (R123); a zero key is refused at its load
(R116) and a return writes the buffer back (R128). -/
def Obligations.StepKeepsDrawnSlotsWiped : Prop :=
  (∀ s t : State, s.DrawnWiped → step s = .next t → t.DrawnWiped)
    ∧ ∀ s t : State, s.PoolCoherent → s.KeysNonzero → step s = .next t → t.KeysNonzero

/-- Every recipe field reaches the working recipe within its range (R137, R178), and a shutdown event never occurs without a live
warning (R102). -/
def Obligations.StepKeepsRecipesAndMonitorsInRange : Prop :=
  ∀ s t : State, s.RecipesInRange → s.MonitorsOrdered → step s = .next t → t.RecipesInRange ∧ t.MonitorsOrdered

/-- The current granted to pulses in flight never exceeds the budget B of the working recipe of the running frame (R92). The stops
that sites have taken follow the stop in force (R55, R57, R144). -/
def Obligations.StepKeepsBudget : Prop :=
  (∀ s t : State, s.BudgetCoherent → step s = .next t → t.BudgetCoherent)
    ∧ ∀ s t : State, s.BudgetCoherent → s.StopsCoherent → step s = .next t → t.StopsCoherent

/-- No block clears a cause when its condition ends (R172). The high mark rises strictly at each acceptance (R117) and is kept at
soft reset (R114). -/
def Obligations.CausesStayAndTheHighMarkNeverFalls : Prop :=
  ∀ (c : Instr) (s t : State), c ≠ .powerOnReset → exec c s = .next t →
    s.pool.highMark ≤ t.pool.highMark
    ∧ ((∀ v, c ≠ .attnWrite v) → (∀ v, c ≠ .registerWriteOther 2 v) → c ≠ .softResetCompletion →
        ∀ i, s.attn.getLsbD i = true → t.attn.getLsbD i = true)

/-- The part never writes the recipe record (R177). -/
def Obligations.PartNeverWritesTheRecipeRecord : Prop :=
  ∀ (c : Instr) (s t : State) (a : Nat), c ≠ .powerOnReset → (∀ w l d, c ≠ .dataWordWrite w l d) →
    (∀ w l d, c ≠ .watchedWordNoRequest w l d) → (∀ w l d, c ≠ .droppedWatchedWordWrite w l d) → exec c s = .next t →
    0x200 ≤ a → a < 0x600 → t.readByte a = s.readByte a

/-- Power-on reset (R174). That the header's byte 14h already reads 1 while initialisation runs, where R174 speaks of zeros, is
the model's reading (log 9, DEDUCED): the header shows its members, and the next frame sequence is 1 (R135). That the queue of
waiting commands stays is the model's choice (log 17), and so is that an end with no initialisation running changes nothing (log
2). That the lane buffer, which R33's table does not list, is empty is the model's choice as well (log 32). -/
def Obligations.PowerOnResetGivesTheResetValues : Prop :=
  (∀ s : State, ∃ t, exec .powerOnReset s = .next t
    ∧ (∀ o, t.readByte o = if o = 0x14 then 1 else 0)
    ∧ (∀ w, t.readRegister w = if w = 0 then 0x4E160110 else 0)
    ∧ t.attentionLine = false ∧ t.initialising = true
    ∧ (∀ f, (t.frameState f).partOwned = false) ∧ (∀ i, (t.slotState i).partOwned = false) ∧ t.wafer.partOwned = false
    ∧ (∀ k, (t.site k).port.lineOn = false ∧ t.site k = {
        seq := {
          state := .idle, phase := .burn, dieX := 0, dieY := 0, skip := .none, lotTag := 0, goodRun := 0, lastSample := 0,
          contactTimer := none, refs := { refOpen := 0, refBlown := 0, d := 0, tI := 0, tB := 0 }, key := none, fingerprint := 0,
          plan := [], row := none, attempt := 0, pendingSet := 0, verified := Vector.replicate 19 none, laneA := none,
          keyTimer := none, pulsed := false, stopTaken := .none, worstBlown := 1023, worstIntact := 1023, degraded := 0,
          outcome := none, pulsesIssued := 0, cellsPulsed := 0, highestAttempt := 0, chopApplied := false }
        former := { state := .idle, row := none, attempt := 0, first := [], second := [], current := [], held := [], pulsedCols := 0 }
        monitor := {
          temperature := none, warnAt := 150, shutAt := 180, warnLive := false, shutLatch := false, phase := .noPulse, limits := none,
          sample := none, holdTouched := false, thermalSeen := false, holdSeen := false, truncated := false }
        port := { selection := none, op := none } })
    ∧ t.supply = {
        pump := .off, level := 0, idleKind := .fast, settleTimer := none, wakeTimer := none, idleTimer := none, holdTimer := none,
        offPending := false, holdCount := 0,
        params := { budget := 0, cellCurrent := 0, level := 0, exitKind := .fast, idleTime := 0, holdLimit := 0 } }
    ∧ t.arbiter = { requests := Vector.replicate 16 none, grants := Vector.replicate 16 none, inUse := 0, lastGranted := 15 }
    ∧ t.pool = {
        slots := Vector.replicate 256 .empty, cursor := 0, redraw := [], highMark := 0, waiting := Vector.replicate 16 none,
        watermark := 0, loadedCount := 0, draws := 0, bound := 0, voided := 0, returned := 0, refused := 0 }
    ∧ t.sched = {
        frames := Vector.replicate 4 .free, postList := [], running := none, stop := .none, recipes := Vector.replicate 4 none,
        ended := Vector.replicate 16 false, nextSeq := 1, framesEnded := 0 }
    ∧ t.wafer = .closed ∧ t.droppedWrites = 0 ∧ t.pending = s.pending)
    ∧ ∀ s : State,
      (s.initialising = true → ∃ t, exec .initialisationEnd s = .next t ∧ t = { s with initialising := false, attn := t.attn }
        ∧ ∀ i < 11, t.attn.getLsbD i = (s.attn.getLsbD i || i == 10))
      ∧ (s.initialising = false → exec .initialisationEnd s = .next s)

/-- Discarded writes change no count and raise no cause (R166, R174, R175). -/
def Obligations.WritesAreDiscardedDuringResets : Prop :=
  (∀ (c : Instr) (s : State), c.isMemoryWrite = true ∨ c.isRunCtrlWrite = true → s.initialising = true ∨ s.softReset = true →
      exec c s = .next s)
    ∧ (∀ (v : Word) (w : WordNo) (s : State), s.initialising = true →
        exec (.attnWrite v) s = .next s ∧ exec (.attnEnWrite v) s = .next s ∧ exec (.registerWriteOther w v) s = .next s)

/-- A tester write to ATTN (R172), and the words of the register window without an effect (R170). -/
def Obligations.AttnWriteClearsAndOtherWordsDoNothing : Prop :=
  ∀ (v : Word) (w : WordNo) (s : State),
    (s.initialising = false →
      ∃ t, exec (.attnWrite v) s = .next t ∧ t = { s with attn := t.attn }
        ∧ ∀ i < 11, t.attn.getLsbD i = (s.attn.getLsbD i && !v.getLsbD i))
    ∧ (w ≠ 1 → w ≠ 2 → w ≠ 3 →
      exec (.registerWriteOther w v) s = .next s ∧ s.readRegister w = if w = 0 then 0x4E160110 else 0)

/-- ATTN_EN and the attention line (R173). -/
def Obligations.AttentionLineFollowsBothRegisters : Prop :=
  (∀ (v : Word) (s : State), s.initialising = false →
      ∃ t, exec (.attnEnWrite v) s = .next t ∧ t = { s with attnEn := t.attnEn } ∧ ∀ i < 11, t.attnEn.getLsbD i = v.getLsbD i)
    ∧ (∀ (c : Instr) (s t : State), (∀ v, c ≠ .attnEnWrite v) → (∀ v, c ≠ .registerWriteOther 3 v) → c ≠ .powerOnReset →
      exec c s = .next t → t.attnEn = s.attnEn)
    ∧ (∀ s : State, s.attentionLine = true ↔ ∃ i < 11, s.attn.getLsbD i = true ∧ s.attnEn.getLsbD i = true)
    ∧ ∀ s : State, ∃ t u, exec .powerOnReset s = .next t ∧ t.attnEn = 0 ∧ exec .initialisationEnd t = .next u
      ∧ u.attn.getLsbD 10 = true ∧ u.attentionLine = false

/-- RUN set and RUN clear as they reach the supply unit (R83, R90); clearing RUN when no frame is running changes no frame (R148).
-/
def Obligations.RunBitWithNoFrameToStartOrStop : Prop :=
  ∀ (v : Word) (s : State), s.initialising = false → s.softReset = false → v.getLsbD 1 = false →
    (s.run = false → v.getLsbD 0 = true →
      ((s.sched.running = none ∧ s.sched.postList = []) ∨ (s.sched.running ≠ none ∧ ∃ j, look s.sched.ended j = false)) →
      ((s.supply.pump = .off ∧ s.supply.offPending = false ∧ ∃ k, look s.arbiter.requests k ≠ none) →
        exec (.runSet v) s = .next { s with
          run := true
          supply := { s.supply with
            pump := .ramp, settleTimer := some 200, wakeTimer := none, idleTimer := none, holdTimer := none } })
      ∧ (¬(s.supply.pump = .off ∧ s.supply.offPending = false ∧ ∃ k, look s.arbiter.requests k ≠ none) →
        exec (.runSet v) s = .next { s with run := true }))
    ∧ (s.run = true → v.getLsbD 0 = false → s.sched.running = none →
      (s.supply.pump = .off → exec (.runClear v) s = .next { s with run := false })
      ∧ (s.supply.pump ≠ .off → s.arbiter.inUse = 0 →
        exec (.runClear v) s = .next { s with
          run := false
          supply := { s.supply with
            pump := .off, offPending := false, settleTimer := none, wakeTimer := none, idleTimer := none, holdTimer := none } })
      ∧ (s.supply.pump ≠ .off → s.arbiter.inUse ≠ 0 →
        exec (.runClear v) s = .next { s with
          run := false
          supply := { s.supply with offPending := true, settleTimer := none, wakeTimer := none, idleTimer := none } }))

/-- Clearing RUN hard-stops the running frame and keeps the queued frames (R148), and the supply unit takes it by R90. The order
in which the sites take the stop (log 4) and the place of the supply unit among them (log 5) are free, so the statement holds for
every order. u is the state before a hand-back that is due is made (R146; HandBackEndsTheFrame says what that does). That the lane
buffer stays as it is at END is the model's choice (log 32). -/
def Obligations.RunClearHardStopsTheFrame : Prop :=
  ∀ (v : Word) (f : FrameNo) (s : State), s.initialising = false → s.softReset = false → s.run = true →
    v.getLsbD 0 = false → v.getLsbD 1 = false → s.sched.running = some f →
    s.PoolCoherent → s.KeysNonzero → s.BudgetCoherent → s.StopsCoherent →
    ∃ t u, exec (.runClear v) s = .next t ∧ exec .handBack u = .next t
      ∧ ((∃ k, (s.site k).seq.state.busy = true ∧ look s.sched.ended k = false) → t = u)
      ∧ ((∀ k, look s.sched.ended k = true ∨ ((s.site k).seq.state.isRunning = true ∧ (s.site k).seq.state.busy = false)) →
          t.frameState f = .done ∧ t.sched.running = none ∧ Memory.read t.mem (frameBase f + 0x12) = 4)
      ∧ u.frameState f = .stopping ∧ u.sched.stop = .runCleared ∧ u.sched.running = some f
      ∧ (∀ k, s.HardStopped u k) ∧ State.StopSettles { s with run := false } u f .hard
      ∧ (s.supply.pump = .off → u.supply = s.supply)
      ∧ (s.supply.pump ≠ .off → s.arbiter.inUse = 0 → u.supply = { s.supply with
          pump := .off, offPending := false, settleTimer := none, wakeTimer := none, idleTimer := none, holdTimer := none })
      ∧ ((s.supply.pump = .ramp ∨ s.supply.pump = .ready ∨ s.supply.pump = .wake ∨ s.supply.pump = .hold) → s.arbiter.inUse ≠ 0 →
          u.supply = { s.supply with offPending := true, settleTimer := none, wakeTimer := none, idleTimer := none })

/-- A soft reset as it reaches every block (R175); SoftResetSettlesTheHeldKeys says what it leaves in the site records, the map
and the slots. That all of it happens in one command, its completion apart, is the model's choice (log 21); the order of the sites
is free (log 4). That the lane buffer, which R33's table does not list, is empty after it is the model's choice as well (log 32).
-/
def Obligations.SoftResetResetsEveryBlock : Prop :=
  ∀ (v : Word) (s : State), s.initialising = false → s.softReset = false → v.getLsbD 1 = true → s.FramesCoherent →
    ∃ t, exec (.softReset v) s = .next t ∧ t.run = false ∧ t.softReset = true
      ∧ (∀ f, t.frameState f = if s.sched.running = some f then .done
          else if s.frameState f = .queued then .cancelled else s.frameState f)
      ∧ (∀ f, s.sched.running = some f → Memory.read t.mem (frameBase f + 0x012) = 5
          ∧ (∀ d < 3, (Memory.read t.mem (frameBase f + 0x19 + d)).toNat
              = allSites.countP fun k => (Memory.read t.mem (siteRecordBase f k + 0x10)).toNat == d + 1)
          ∧ (Memory.read32 t.mem 0x120).toNat = min ((Memory.read32 s.mem 0x120).toNat + 1) 0xFFFFFFFF
          ∧ (Memory.read32 t.mem 0x124).toNat = min ((Memory.read32 s.mem 0x124).toNat
              + allSites.countP fun k => (Memory.read t.mem (siteRecordBase f k + 0x10)).toNat == 1) 0xFFFFFFFF)
      ∧ t.sched.framesEnded = (if s.sched.running = none then s.sched.framesEnded else min (s.sched.framesEnded + 1) 0xFFFF)
      ∧ t.attn = (if s.sched.running = none ∧ s.sched.postList = [] then s.attn else s.attn ||| 0x001#11)
      ∧ (∀ a, (s.sched.running = none ∨ a < 0x120 ∨ 0x128 ≤ a) →
          (∀ f, s.sched.running = some f → a < frameBase f ∨ frameBase f + 0x800 ≤ a) →
          (a < 0x4000 ∨ (0x8000 ≤ a ∧ a < 0xC000) ∨ 0x10000 ≤ a) → Memory.read t.mem a = Memory.read s.mem a)
      ∧ t.sched.running = none ∧ t.sched.postList = [] ∧ t.sched.stop = .none ∧ (∀ f, look t.sched.recipes f = none)
      ∧ (∀ k, t.site k = Site.reset) ∧ (∀ k, look t.pool.waiting k = none) ∧ t.pool.watermark = 0
      ∧ t.supply = { Supply.reset with holdCount := s.supply.holdCount } ∧ t.arbiter = Arbiter.reset
      ∧ t.wafer = s.wafer ∧ t.sched.nextSeq = s.sched.nextSeq ∧ t.pool.highMark = s.pool.highMark
      ∧ t.droppedWrites = s.droppedWrites ∧ t.attnEn = s.attnEn ∧ t.initialising = s.initialising

/-- How a soft reset ends the sites (R58, R156) and settles the keys they hold when it begins (R127, R132). That every request is
withdrawn before the first key is settled, so that none is drawn, is the model's reading (log 21). -/
def Obligations.SoftResetSettlesTheHeldKeys : Prop :=
  ∀ (v : Word) (s : State), s.initialising = false → s.softReset = false → v.getLsbD 1 = true → s.PoolCoherent →
    (∀ k, (s.site k).seq.key ≠ none → (s.site k).seq.state.isRunning = true) →
    ∃ t, exec (.softReset v) s = .next t
      ∧ (∀ k h, (s.site k).seq.key = some h →
          t.slotState h.slot = if (s.site k).seq.pulsed then .voided else .loaded)
      ∧ (∀ i, (∀ k h, (s.site k).seq.key = some h → h.slot ≠ i) → t.slotState i = s.slotState i)
      ∧ t.pool.draws = s.pool.draws ∧ t.pool.bound = s.pool.bound ∧ t.pool.refused = s.pool.refused
      ∧ t.pool.cursor = s.pool.cursor ∧ s.pool.redraw <+: t.pool.redraw
      ∧ ∀ f k, s.sched.running = some f →
        ((s.site k).seq.state.isRunning = true →
          State.RecordShows (State.onMonitor k (fun m => { m with truncated := m.truncated || (s.site k).port.lineOn })
            { s with mem := t.mem }) f k .aborted
            (match (s.site k).seq.key with | none => 0 | some _ => if (s.site k).seq.pulsed then 2 else 3)
            (match (s.site k).seq.key with | none => 0 | some h => h.serial)
          ∧ (onMap (s.site k).seq.dieX (s.site k).seq.dieY = true →
            (∀ j, j ≠ k → (s.site j).seq.state.isRunning = true → s.mapEntryOf j ≠ s.mapEntryOf k) →
            Memory.read t.mem (s.mapEntryOf k) = if (s.site k).seq.pulsed then 4 else 5))
        ∧ ((s.site k).seq.state.isRunning = false → ∀ a, siteRecordBase f k ≤ a → a < siteRecordBase f k + 0x40 →
          Memory.read t.mem a = Memory.read s.mem a)

/-- The completion of a soft reset (R176), and of a close that waited for it (R155 to R157). That the monitors start again from
their reset values at the completion, so that a reading taken while the reset ran leaves nothing behind, is read from R99, R169
and R176 (log 30, DEDUCED). That the event changes nothing while it is not due is the model's choice (log 2). -/
def Obligations.SoftResetCompletionRaisesResetDone : Prop :=
  ∀ s : State,
    (s.softReset = true → (∀ k, (s.site k).seq.state = .idle) → s.sched.running = none → s.sched.postList = [] →
      s.supply.pump = .off →
      ∃ t, exec .softResetCompletion s = .next t
        ∧ (∀ k, t.site k = { s.site k with monitor := {
            temperature := none, warnAt := 150, shutAt := 180, warnLive := false, shutLatch := false, phase := .noPulse,
            limits := none, sample := none, holdTouched := false, thermalSeen := false, holdSeen := false, truncated := false } })
        ∧ (s.wafer ≠ .closing → t = { s with attn := 0x400#11, softReset := false, sites := t.sites })
        ∧ (s.wafer = .closing → t = { s with attn := 0x408#11, softReset := false, sites := t.sites, wafer := .closed, mem := t.mem }
          ∧ s.ShowsSummary t
          ∧ ∀ a, (a < 0x104 ∨ (0x108 ≤ a ∧ a < 0x110) ∨ 0x11E ≤ a) → Memory.read t.mem a = Memory.read s.mem a))
    ∧ (s.softReset = false ∨ (∃ k, (s.site k).seq.state ≠ .idle) ∨ s.sched.running ≠ none ∨ s.sched.postList ≠ []
        ∨ s.supply.pump ≠ .off → exec .softResetCompletion s = .next s)

/-- Acceptance of a post (R138) when every check of R137 passes, and what the snapshot's working recipe and clamp flags are (R178
to R182). PostAndRunSetStartTheHead says what follows when the frame may start. -/
def Obligations.PostAcceptsTheFrame : Prop :=
  (∀ (f : FrameNo) (lanes : Lanes) (s : State), s.initialising = false → s.softReset = false →
    s.writtenValue (frameStateWord f) lanes postedValue = 1 → (s.frameState f).partOwned = false → s.wafer = .opened →
    s.enableMask f ≠ 0 → (Memory.read s.mem 0x200).toNat ≤ 1 →
    (¬∃ a b, a < b ∧ s.enabled f a = true ∧ s.enabled f b = true
        ∧ s.dieX f (rawRecipe s.mem).clamped a = s.dieX f (rawRecipe s.mem).clamped b
        ∧ s.dieY f (rawRecipe s.mem).clamped a = s.dieY f (rawRecipe s.mem).clamped b) →
    ((s.sched.running = none ∧ s.run = false) ∨ (s.sched.running ≠ none ∧ ∃ j, look s.sched.ended j = false)) →
    ∃ t, exec (.post f lanes) s = .next t
      ∧ t = { s with mem := t.mem, sched := { s.sched with
          frames := put s.sched.frames f .queued, postList := s.sched.postList ++ [f],
          recipes := put s.sched.recipes f (some (rawRecipe s.mem).clamped),
          nextSeq := if s.sched.nextSeq = 0xFFFFFFFF then 1 else s.sched.nextSeq + 1 } }
      ∧ Memory.read32 t.mem (frameBase f + 0x04) = 0 ∧ Memory.read32 t.mem (frameBase f + 0x08) = s.sched.nextSeq
      ∧ Memory.read t.mem (frameBase f + 0x12) = 0 ∧ Memory.read t.mem (frameBase f + 0x13) = 0
      ∧ Memory.read32 t.mem (frameBase f + 0x14) = (rawRecipe s.mem).clampFlags
      ∧ Memory.read t.mem (frameBase f + 0x18) = nat8 (allSites.countP fun k => s.enabled f k)
      ∧ (∀ a, 0x19 ≤ a → a < 0x1C → Memory.read t.mem (frameBase f + a) = 0)
      ∧ ∀ a, (a < frameBase f + 0x04 ∨ (frameBase f + 0x0C ≤ a ∧ a < frameBase f + 0x12) ∨ frameBase f + 0x1C ≤ a) →
          Memory.read t.mem a = Memory.read s.mem a)
    ∧ ∀ r : RawRecipe, r.UsedAs r.clamped ∧ ∀ i, r.clampFlags.getLsbD i = r.flagOf r.clamped i

/-- The five reject reasons in their order (R137) and what a rejection writes (R139). PostAcceptsTheFrame says what the clamp
flags of a snapshot are (R178 to R182). -/
def Obligations.PostRejectsWithTheFirstReason : Prop :=
  ∀ (f : FrameNo) (lanes : Lanes) (s : State) (code : Nat), s.initialising = false → s.softReset = false →
    s.writtenValue (frameStateWord f) lanes postedValue = 1 → (s.frameState f).partOwned = false →
    code = (if s.wafer = .closed then 1 else if s.wafer = .closing then 2 else if s.enableMask f = 0 then 3
      else if 1 < (Memory.read s.mem 0x200).toNat then 4 else 5) →
    (code = 5 → ∃ a b, a < b ∧ s.enabled f a = true ∧ s.enabled f b = true
        ∧ s.dieX f (rawRecipe s.mem).clamped a = s.dieX f (rawRecipe s.mem).clamped b
        ∧ s.dieY f (rawRecipe s.mem).clamped a = s.dieY f (rawRecipe s.mem).clamped b) → s.NoHandBackDue →
    ∃ t, exec (.post f lanes) s = .next t
      ∧ t = { s with
          mem := t.mem, attn := s.attn ||| 0x001#11,
          sched := { s.sched with frames := put s.sched.frames f .rejected } }
      ∧ Memory.read32 t.mem (frameBase f + 0x04) = 0 ∧ Memory.read32 t.mem (frameBase f + 0x08) = 0
      ∧ Memory.read t.mem (frameBase f + 0x12) = 0 ∧ Memory.read t.mem (frameBase f + 0x13) = nat8 code
      ∧ Memory.read32 t.mem (frameBase f + 0x14) = (rawRecipe s.mem).clampFlags
      ∧ Memory.read t.mem (frameBase f + 0x18) = nat8 (allSites.countP fun k => s.enabled f k)
      ∧ (∀ a, 0x19 ≤ a → a < 0x1C → Memory.read t.mem (frameBase f + a) = 0)
      ∧ ∀ a, (a < frameBase f + 0x04 ∨ (frameBase f + 0x0C ≤ a ∧ a < frameBase f + 0x12) ∨ frameBase f + 0x1C ≤ a) →
          Memory.read t.mem a = Memory.read s.mem a

/-- A start is checked at every acceptance and at a RUN set (R141). -/
def Obligations.PostAndRunSetStartTheHead : Prop :=
  (∀ (f : FrameNo) (lanes : Lanes) (s : State), s.run = true → s.sched.running = none → s.sched.postList = [] →
      ∃ t, exec (.post f lanes) { s with run := false } = .next t
        ∧ exec (.post f lanes) s = exec .frameStart { t with run := true })
    ∧ ∀ (v : Word) (s : State), s.initialising = false → s.softReset = false → s.run = false → s.sched.running = none →
      (∀ k, look s.arbiter.requests k = none) → v.getLsbD 0 = true → v.getLsbD 1 = false →
      exec (.runSet v) s = exec .frameStart { s with run := true }

/-- A release (R147), and the same write to a part-owned frame (R166). -/
def Obligations.ReleaseFreesTheFrame : Prop :=
  ∀ (f : FrameNo) (lanes : Lanes) (s : State), s.initialising = false → s.softReset = false → s.writtenValue (frameStateWord f) lanes freeValue = 0 →
    ((s.frameState f).partOwned = false →
      exec (.release f lanes) s = .next { s with sched := { s.sched with frames := put s.sched.frames f .free } })
    ∧ ((s.frameState f).partOwned = true → exec (.release f lanes) s = .next { s with
          attn := s.attn ||| 0x080#11, droppedWrites := min (s.droppedWrites + 1) 0xFFFF })

/-- Cancellation of a queued frame by either stop (R143), and the idle report that completes a close (R146, R155). -/
def Obligations.StopRequestCancelsAQueuedFrame : Prop :=
  ∀ (f : FrameNo) (lanes : Lanes) (s : State) (c : Instr) (v : Word),
    (c = .softStop f lanes ∧ v = 1) ∨ (c = .hardStop f lanes ∧ v = 2) → s.initialising = false → s.softReset = false →
    s.writtenValue (frameStopWord f) lanes v = v → s.frameState f = .queued → s.NoHandBackDue →
    ((s.wafer ≠ .closing ∨ s.sched.running ≠ none ∨ ∃ g ∈ s.sched.postList, g ≠ f) →
      ∃ t, exec c s = .next t
        ∧ t = { s with mem := t.mem, attn := s.attn ||| 0x001#11, sched := { s.sched with
            frames := put s.sched.frames f .cancelled, postList := s.sched.postList.filter (fun g => g != f),
            recipes := put s.sched.recipes f none } }
        ∧ Memory.read32 t.mem (frameBase f + 0x04) = v ∧ s.KeepsBytesOutside t (frameBase f + 0x04) (frameBase f + 0x08))
    ∧ (s.wafer = .closing → s.sched.running = none → (∀ g ∈ s.sched.postList, g = f) →
      ∃ t, exec c { s with wafer := .opened } = .next t ∧ exec c s = exec .closeCompletion { t with wafer := .closing })

/-- A stop of the running frame (R144) as each site takes it (R55 to R57) and what the sites it ends at once leave (R52, R127 to
R129). The order in which the sites take it is free (log 4), so the statement holds for every order. u is the state before a hand-
back that is due is made (R146; HandBackEndsTheFrame says what that does); that the stop word then shows the stop that was in
force is the model's reading (log 26, DEDUCED). That the lane buffer stays as it is at END is the model's choice (log 32). -/
def Obligations.StopRequestsStopTheRunningFrame : Prop :=
  ∀ (f : FrameNo) (lanes : Lanes) (s : State), s.initialising = false → s.softReset = false → s.sched.running = some f →
    (s.frameState f = .running ∨ s.frameState f = .stopping) → s.PoolCoherent → s.KeysNonzero → s.BudgetCoherent →
    s.StopsCoherent →
    (s.writtenValue (frameStopWord f) lanes softValue = 1 → s.sched.stop = .none →
      ∃ t u, exec (.softStop f lanes) s = .next t ∧ exec .handBack u = .next t
        ∧ ((∃ k, ((s.site k).seq.state.busy = true ∨ ((s.site k).seq.state.isRunning = true ∧ (s.site k).seq.pulsed = true
            ∧ (s.site k).seq.key ≠ none)) ∧ look s.sched.ended k = false) → t = u)
        ∧ ((∀ k, look s.sched.ended k = true ∨ ((s.site k).seq.state.isRunning = true ∧ (s.site k).seq.state.busy = false
            ∧ ((s.site k).seq.pulsed = false ∨ (s.site k).seq.key = none))) → f ∉ s.sched.postList →
          t.frameState f = .done ∧ Memory.read t.mem (frameBase f + 0x12) = 2 ∧ Memory.read32 t.mem (frameBase f + 0x04) = 1)
        ∧ u.frameState f = .stopping ∧ u.sched.stop = .soft
        ∧ Memory.read32 u.mem (frameBase f + 0x04) = 1 ∧ (∀ k, s.SoftStopped u k) ∧ s.StopSettles u f .soft)
    ∧ (s.writtenValue (frameStopWord f) lanes hardValue = 2 → (s.sched.stop = .none ∨ s.sched.stop = .soft) →
      ∃ t u, exec (.hardStop f lanes) s = .next t ∧ exec .handBack u = .next t
        ∧ ((∃ k, (s.site k).seq.state.busy = true ∧ look s.sched.ended k = false) → t = u)
        ∧ ((∀ k, look s.sched.ended k = true ∨ ((s.site k).seq.state.isRunning = true ∧ (s.site k).seq.state.busy = false)) →
          f ∉ s.sched.postList →
          t.frameState f = .done ∧ Memory.read t.mem (frameBase f + 0x12) = 3 ∧ Memory.read32 t.mem (frameBase f + 0x04) = 2)
        ∧ u.frameState f = .stopping ∧ u.sched.stop = .hard
        ∧ Memory.read32 u.mem (frameBase f + 0x04) = 2 ∧ (∀ k, s.HardStopped u k) ∧ s.StopSettles u f .hard)

/-- What the scheduler writes back into a stop word (R136), and the stops that find one as strong in force (R144). -/
def Obligations.StopWritesThatStopNothing : Prop :=
  ∀ (f : FrameNo) (lanes : Lanes) (s : State) (c : Instr) (v : Word),
    (c = .softStop f lanes ∧ v = 1) ∨ (c = .hardStop f lanes ∧ v = 2) → s.initialising = false → s.softReset = false →
    s.writtenValue (frameStopWord f) lanes v = v → s.NoHandBackDue →
    ((s.frameState f = .running ∨ s.frameState f = .stopping) → s.sched.stop ≠ .none → (v = 2 → s.sched.stop ≠ .soft) →
      ∃ t, exec c s = .next t ∧ t = { s with mem := t.mem }
        ∧ Memory.read32 t.mem (frameBase f + 0x04) = (if s.sched.stop = .soft then 1 else 2)
        ∧ s.KeepsBytesOutside t (frameBase f + 0x04) (frameBase f + 0x08))
    ∧ ((s.frameState f).partOwned = false →
      ∃ t, exec c s = .next t ∧ t = { s with mem := t.mem } ∧ Memory.read32 t.mem (frameBase f + 0x04) = v
        ∧ s.KeepsBytesOutside t (frameBase f + 0x04) (frameBase f + 0x08))

/-- The load of a slot: the two refusals in their order (R116) and acceptance (R117), with the evaluation it starts (R121). -/
def Obligations.LoadJudgesTheSlot : Prop :=
  ∀ (i : SlotNo) (lanes : Lanes) (s : State), s.initialising = false → s.softReset = false → s.writtenValue (slotStateWord i) lanes loadedValue = 1 →
    (s.slotState i).partOwned = false →
    (∀ (reason : Nat), ((∀ j < 16, Memory.read s.mem (slotBase i + 0x20 + j) = 0) ∧ reason = 1)
        ∨ ((∃ j < 16, Memory.read s.mem (slotBase i + 0x20 + j) ≠ 0) ∧ s.slotSerial i ≤ s.pool.highMark ∧ reason = 2) →
      ∃ t, exec (.load i lanes) s = .next t
        ∧ t = { s with mem := t.mem, attn := s.attn ||| 0x010#11, pool := { s.pool with
            slots := put s.pool.slots i .refused, refused := min (s.pool.refused + 1) 0xFFFF } }
        ∧ Memory.read t.mem (slotBase i + 0x04) = nat8 reason ∧ Memory.read t.mem (slotBase i + 0x0C) = 0
        ∧ (∀ j, 0x0E ≤ j → j < 0x1C → Memory.read t.mem (slotBase i + j) = 0)
        ∧ ∀ a, a ≠ slotBase i + 0x04 → a ≠ slotBase i + 0x0C → (a < slotBase i + 0x0E ∨ slotBase i + 0x1C ≤ a) →
            Memory.read t.mem a = Memory.read s.mem a)
    ∧ ((∃ j < 16, Memory.read s.mem (slotBase i + 0x20 + j) ≠ 0) → s.pool.highMark < s.slotSerial i →
      ((∃ k, look s.pool.waiting k ≠ none) → s.pool.redraw = [] → (∀ j, s.slotState j ≠ .loaded) →
        ∃ t, exec (.load i lanes) { s with pool := { s.pool with waiting := Vector.replicate 16 none } } = .next t
          ∧ exec (.load i lanes) s = exec .keyDraw { t with pool := { t.pool with waiting := s.pool.waiting } })
      ∧ ((∀ k, look s.pool.waiting k = none) →
      ∃ t, exec (.load i lanes) s = .next t
        ∧ t = { s with mem := t.mem, pool := { s.pool with
            slots := put s.pool.slots i .loaded, highMark := s.slotSerial i, loadedCount := s.pool.loadedCount + 1 } }
        ∧ Memory.read t.mem (slotBase i + 0x04) = 0 ∧ Memory.read t.mem (slotBase i + 0x0C) = 0
        ∧ (∀ j, 0x0E ≤ j → j < 0x1C → Memory.read t.mem (slotBase i + j) = 0)
        ∧ ∀ a, a ≠ slotBase i + 0x04 → a ≠ slotBase i + 0x0C → (a < slotBase i + 0x0E ∨ slotBase i + 0x1C ≤ a) →
            Memory.read t.mem a = Memory.read s.mem a))

/-- A reclaim is taken when EMPTY is written into the state word of a REFUSED, BOUND or VOIDED slot (R118). -/
def Obligations.ReclaimEmptiesTheSlot : Prop :=
  ∀ (i : SlotNo) (lanes : Lanes) (s : State), s.initialising = false → s.softReset = false → s.writtenValue (slotStateWord i) lanes emptyValue = 0 →
    (s.slotState i = .refused ∨ s.slotState i = .bound ∨ s.slotState i = .voided) →
    ∃ t, exec (.reclaim i lanes) s = .next t
      ∧ t = { s with mem := t.mem, pool := { s.pool with slots := put s.pool.slots i .empty } }
      ∧ (t.slotState i).partOwned = false ∧ Memory.read t.mem (slotBase i + 0x04) = 0
      ∧ (∀ j < 32, Memory.read t.mem (slotBase i + 0x20 + j) = 0)
      ∧ (∀ a, a ≠ slotBase i + 0x04 → (a < slotBase i + 0x20 ∨ slotBase i + 0x40 ≤ a) →
          Memory.read t.mem a = Memory.read s.mem a)
      ∧ ∀ (u v : State) (lanes' : Lanes), u.initialising = false → u.softReset = false → u.slotState i = .empty →
          u.writtenValue (slotStateWord i) lanes' loadedValue = 1 → exec (.load i lanes') u = .next v →
          Memory.read v.mem (slotBase i + 0x0C) = 0 ∧ ∀ j, 0x0E ≤ j → j < 0x1C → Memory.read v.mem (slotBase i + j) = 0

/-- A withdraw (R119). loaded_count falls by 1, so it crosses the watermark exactly when it stood at the watermark (R126). -/
def Obligations.WithdrawTakesALoadedSlotBack : Prop :=
  ∀ (i : SlotNo) (lanes : Lanes) (s : State), s.initialising = false → s.softReset = false → s.writtenValue (slotStateWord i) lanes withdrawValue = 6 →
    s.slotState i = .loaded → 1 ≤ s.pool.loadedCount →
    ∃ t, exec (.withdraw i lanes) s = .next t
      ∧ t = { s with
          mem := t.mem,
          attn := if s.pool.loadedCount = s.pool.watermark then s.attn ||| 0x020#11 else s.attn,
          pool := { s.pool with
            slots := put s.pool.slots i .empty, redraw := s.pool.redraw.filter (fun j => j != i),
            loadedCount := s.pool.loadedCount - 1 } }
      ∧ (∀ j < 32, Memory.read t.mem (slotBase i + 0x20 + j) = 0)
      ∧ s.KeepsBytesOutside t (slotBase i + 0x20) (slotBase i + 0x40)

/-- An open (R152), and the same write to a part-owned wafer record (R166). -/
def Obligations.OpenJudgesTheWafer : Prop :=
  ∀ (lanes : Lanes) (s : State), s.initialising = false → s.softReset = false →
    (s.wafer = .closed → s.writtenValue waferStateWord lanes openValue = 1 → s.waferId = 0 →
      exec (.openWafer lanes) s = .next { s with attn := s.attn ||| 0x004#11 })
    ∧ (s.wafer = .closed → s.writtenValue waferStateWord lanes openValue = 1 → s.waferId ≠ 0 →
      ∃ t, exec (.openWafer lanes) s = .next t ∧ t = { s with mem := t.mem, attn := s.attn ||| 0x002#11, wafer := .opened }
        ∧ Memory.read32 t.mem 0x104 = 0 ∧ (∀ i < 7, Memory.read16 t.mem (0x110 + 2 * i) = 0)
        ∧ Memory.read32 t.mem 0x120 = 0 ∧ Memory.read32 t.mem 0x124 = 0
        ∧ ∀ a, (a < 0x104 ∨ (0x108 ≤ a ∧ a < 0x110) ∨ (0x11E ≤ a ∧ a < 0x120) ∨ 0x128 ≤ a) →
            Memory.read t.mem a = Memory.read s.mem a)
    ∧ (s.wafer ≠ .closed → exec (.openWafer lanes) s = .next { s with
          attn := s.attn ||| 0x080#11, droppedWrites := min (s.droppedWrites + 1) 0xFFFF })

/-- A close request (R154), the completion of a close (R155) and its summary (R157). That CLOSE_COMPLETION changes nothing in
other states is the model's choice (log 2). That it changes nothing while a soft reset runs is the model's reading of when the
idle report is made (log 24, DEDUCED). -/
def Obligations.CloseWaitsForTheFramesAndCountsTheMap : Prop :=
  (∀ (lanes : Lanes) (s : State), s.initialising = false → s.softReset = false → s.writtenValue waferRequestWord lanes closeValue = 1 →
      (s.wafer ≠ .closed → (s.sched.running ≠ none ∨ s.sched.postList ≠ []) →
        ∃ t, exec (.closeWafer lanes) s = .next t ∧ t = { s with mem := t.mem, wafer := .closing }
          ∧ Memory.read32 t.mem 0x104 = 1 ∧ s.KeepsBytesOutside t 0x104 0x108)
      ∧ (s.wafer = .closed →
        ∃ t, exec (.closeWafer lanes) s = .next t ∧ t = { s with mem := t.mem }
          ∧ Memory.read32 t.mem 0x104 = 1 ∧ s.KeepsBytesOutside t 0x104 0x108))
    ∧ (∀ (lanes : Lanes) (s : State) (c : Instr), s.initialising = false → s.softReset = false → s.sched.running = none → s.sched.postList = [] →
      ((c = .closeWafer lanes ∧ s.wafer = .opened ∧ s.writtenValue waferRequestWord lanes closeValue = 1)
        ∨ (c = .closeCompletion ∧ s.wafer = .closing)) →
      ∃ t, exec c s = .next t ∧ t = { s with mem := t.mem, attn := s.attn ||| 0x008#11, wafer := .closed }
        ∧ (∀ i < 6, (Memory.read16 t.mem (0x110 + 2 * i)).toNat
            = (List.range 16384).countP fun j => (Memory.read s.mem (0xC000 + j)).toNat == i)
        ∧ (Memory.read16 t.mem 0x11C).toNat = ((List.range 16384).countP fun j => decide (6 ≤ (Memory.read s.mem (0xC000 + j)).toNat))
        ∧ ((List.range 7).map fun i => (Memory.read16 t.mem (0x110 + 2 * i)).toNat).sum = 16384
        ∧ Memory.read32 t.mem 0x104 = 0
        ∧ ∀ a, (a < 0x104 ∨ (0x108 ≤ a ∧ a < 0x110) ∨ 0x11E ≤ a) → Memory.read t.mem a = Memory.read s.mem a)
    ∧ ∀ s : State, (s.wafer ≠ .closing ∨ s.sched.running ≠ none ∨ s.sched.postList ≠ [] ∨ s.softReset = true) →
      exec .closeCompletion s = .next s

/-- Writes of watched words that carry no request value (R168). -/
def Obligations.WatchedWordsWithoutARequestStayAsTheyAre : Prop :=
  ∀ (w : WordNo) (lanes : Lanes) (d v : Word) (s : State), s.initialising = false → s.softReset = false → v = s.writtenValue w lanes d →
    (∀ f, wordKind w = .frameState f → (s.frameState f).partOwned = false → v ≠ 0 → v ≠ 1 →
      exec (.watchedWordNoRequest w lanes d) s = .next s)
    ∧ (∀ i, wordKind w = .slotState i → (s.slotState i).partOwned = false → v ≠ 1 → (v = 0 → s.slotState i = .empty) →
      exec (.watchedWordNoRequest w lanes d) s = .next s)
    ∧ (wordKind w = .waferState → s.wafer = .closed → v ≠ 1 → exec (.watchedWordNoRequest w lanes d) s = .next s)
    ∧ (wordKind w = .waferRequest → (s.wafer = .closed ∨ v ≠ 1) →
      ∃ t, exec (.watchedWordNoRequest w lanes d) s = .next t ∧ t = { s with mem := t.mem }
        ∧ Memory.read32 t.mem 0x104 = (if s.wafer = .closed then v else if s.wafer = .closing then 1 else 0)
        ∧ s.KeepsBytesOutside t 0x104 0x108)
    ∧ (∀ f, wordKind w = .frameStop f → ((s.frameState f).partOwned = false ∨ (v ≠ 1 ∧ v ≠ 2)) → s.NoHandBackDue →
      ∃ t, exec (.watchedWordNoRequest w lanes d) s = .next t ∧ t = { s with mem := t.mem }
        ∧ Memory.read32 t.mem (frameBase f + 0x04) = (if (s.frameState f).partOwned = false then v
            else if s.frameState f = .queued ∨ s.sched.stop = .none then 0 else if s.sched.stop = .soft then 1 else 2)
        ∧ s.KeepsBytesOutside t (frameBase f + 0x04) (frameBase f + 0x08))

/-- Where data word writes go (R163, R164), which are dropped (R166), and what the header shows (R169). The header clause holds in
every state; that it shows the members, the next frame sequence 1 among them, while initialisation runs too, is the model's
reading (log 9, DEDUCED). -/
def Obligations.WritesAreStoredOrDroppedByTheOwner : Prop :=
  (∀ (w : WordNo) (lanes : Lanes) (d : Word) (s : State), s.initialising = false → s.softReset = false → ((wordKind w).watched = false →
    (wordKind w = .unmapped → exec (.dataWordWrite w lanes d) s = .next s)
    ∧ (wordKind w ≠ .unmapped → s.wordPartOwned (wordKind w) = false →
      ∃ t, exec (.dataWordWrite w lanes d) s = .next t ∧ t = { s with mem := t.mem }
        ∧ (∀ i < 4, Memory.read t.mem (4 * w.toNat + i)
            = if lanes.getLsbD i then d.extractLsb' (8 * i) 8 else Memory.read s.mem (4 * w.toNat + i))
        ∧ s.KeepsBytesOutside t (4 * w.toNat) (4 * w.toNat + 4))
    ∧ (s.wordPartOwned (wordKind w) = true → exec (.dataWordWrite w lanes d) s = .next { s with
        attn := s.attn ||| 0x080#11, droppedWrites := min (s.droppedWrites + 1) 0xFFFF }))
    ∧ (s.wordPartOwned (wordKind w) = true →
      (wordKind w = .waferState ∨ (∃ f, wordKind w = .frameState f)
        ∨ ∃ i, wordKind w = .slotState i ∧ (s.slotState i = .drawn ∨ s.writtenValue w lanes d ≠ 6)) →
      exec (.droppedWatchedWordWrite w lanes d) s = .next { s with
        attn := s.attn ||| 0x080#11, droppedWrites := min (s.droppedWrites + 1) 0xFFFF }))
    ∧ ∀ s : State, s.readWord 0 = BitVec.ofNat 16 s.pool.draws ++ BitVec.ofNat 16 s.pool.loadedCount
      ∧ s.readWord 1 = BitVec.ofNat 16 s.pool.voided ++ BitVec.ofNat 16 s.pool.bound
      ∧ s.readWord 2 = BitVec.ofNat 16 s.pool.refused ++ BitVec.ofNat 16 s.pool.returned
      ∧ s.readWord 3 = s.pool.highMark
      ∧ s.readWord 4 = BitVec.ofNat 16 s.sched.framesEnded ++ BitVec.ofNat 16 s.droppedWrites
      ∧ s.readWord 5 = s.sched.nextSeq
      ∧ (s.readByte 0x18).toNat
          = (match s.supply.pump with | .off => 0 | .ramp => 1 | .ready => 2 | .idleLow => 3 | .wake => 4 | .hold => 5)
      ∧ s.readByte 0x19 = BitVec.ofNat 8 s.supply.level
      ∧ s.readByte 0x1B ++ s.readByte 0x1A = BitVec.ofNat 16 s.arbiter.inUse
      ∧ s.readByte 0x1D ++ s.readByte 0x1C = BitVec.ofNat 16 s.supply.holdCount
      ∧ (∀ k : SiteNo, (s.readByte 0x1F ++ s.readByte 0x1E).getLsbD k.val = (s.site k).monitor.warnLive)
      ∧ (∀ k : SiteNo, (s.readByte 0x21 ++ s.readByte 0x20).getLsbD k.val = (s.site k).monitor.shutLatch)
      ∧ (∀ k : SiteNo, (s.readByte (0x24 + k.val)).toNat
          = (match (s.site k).seq.state, (s.site k).seq.phase with
            | .idle, _ => 0 | .contact, _ => 1 | .refer, _ => 2 | .blank, _ => 3 | .keywait, _ => 4
            | .burnWait, .burn => 5 | .pulse, .burn => 6 | .verify, .burn => 7 | .final, _ => 8
            | .burnWait, .locking => 9 | .pulse, .locking => 10 | .verify, .locking => 11 | .ended, _ => 12))
      ∧ ∀ o, (o = 0x22 ∨ o = 0x23 ∨ 0x34 ≤ o) → o < 0x100 → s.readByte o = 0

/-- A start of the head of the post list (R142), the entry to CONTACT (R35, R103, R109, R110) and a frame that is handed back at
once because all its sites are skipped (R141). That off pending keeps the pump from RAMP at a level change is read from R90 (log
25). -/
def Obligations.FrameStartHandsEachSiteItsDecision : Prop :=
  ∀ (f : FrameNo) (rest : List FrameNo) (r : Recipe) (s : State) (why : SiteNo → SkipReason) (warn latch : SiteNo → Bool),
    s.run = true → s.sched.running = none → s.sched.postList = f :: rest → look s.sched.recipes f = some r →
    (∀ k, warn k = match (s.site k).monitor.temperature with
      | none => (s.site k).monitor.warnLive
      | some T => decide ((r.thermalWarn : Int) ≤ T)
        || ((s.site k).monitor.warnLive && decide ((r.thermalWarn : Int) - 10 ≤ T))) →
    (∀ k, latch k = match (s.site k).monitor.temperature with
      | none => (s.site k).monitor.shutLatch
      | some T => decide ((r.thermalShutdown : Int) ≤ T)
        || ((s.site k).monitor.shutLatch && decide ((r.thermalShutdown : Int) - 10 ≤ T))) →
    (∀ k, why k = (if s.enabled f k = false then .notEnabled
      else if onMap (s.dieX f r k) (s.dieY f r k) = false then .offMap
      else if s.mapCode (s.dieX f r k) (s.dieY f r k) = 2 then .mapKeyed
      else if s.mapCode (s.dieX f r k) (s.dieY f r k) = 3 ∨ s.mapCode (s.dieX f r k) (s.dieY f r k) = 4 then .mapDamaged
      else if s.mapCode (s.dieX f r k) (s.dieY f r k) = 0 ∨ s.mapCode (s.dieX f r k) (s.dieY f r k) = 5 then .none
      else .mapMark)) →
    (∀ k, why k = .none → latch k = true → (s.site k).seq.key = none ∧ (s.site k).seq.pulsed = false
      ∧ look s.arbiter.requests k = none ∧ look s.pool.waiting k = none) →
    ∃ u, exec .frameStart s = exec .handBack u
      ∧ ((∃ k, why k = .none ∧ latch k = false) → exec .frameStart s = .next u)
      ∧ u.frameState f = .running ∧ u.sched.running = some f ∧ u.sched.postList = rest ∧ u.sched.stop = .none
      ∧ (∀ g, g ≠ f → u.frameState g = s.frameState g) ∧ u.sched.recipes = s.sched.recipes
      ∧ (∀ k, look u.sched.ended k = (why k != .none || latch k))
      ∧ (∀ k, (u.site k).seq.dieX = s.originX f + look r.dx k ∧ (u.site k).seq.dieY = s.originY f + look r.dy k
          ∧ (u.site k).seq.skip = why k ∧ (u.site k).monitor.warnAt = r.thermalWarn ∧ (u.site k).monitor.shutAt = r.thermalShutdown
          ∧ (u.site k).monitor.temperature = (s.site k).monitor.temperature
          ∧ (u.site k).monitor.warnLive = warn k ∧ (u.site k).monitor.shutLatch = latch k)
      ∧ (∀ k, why k = .none → (u.site k).seq.lotTag = s.lotTag
          ∧ (u.site k).seq.worstBlown = 1023 ∧ (u.site k).seq.worstIntact = 1023
          ∧ (u.site k).monitor.thermalSeen = ((s.site k).monitor.thermalSeen || warn k)
          ∧ (u.site k).monitor.holdSeen = ((s.site k).monitor.holdSeen || s.supply.pump == .hold))
      ∧ (∀ k, why k = .none → latch k = false → (u.site k).seq.state = .contact ∧ (u.site k).port.op = some .contactSample
          ∧ (u.site k).seq.contactTimer = some (r.contactTimeout * 1000))
      ∧ (∀ k, why k = .none → latch k = true → u.EndedAs k .thermal ∧ (u.site k).port = { selection := none, op := none }
          ∧ (u.site k).seq.refs = (s.site k).seq.refs
          ∧ u.RecordShows f k .thermal 0 0 ∧ Memory.read u.mem (u.mapEntryOf k) = 5)
      ∧ (∀ k, why k ≠ .none → (u.site k).seq.state = .ended ∧ (u.site k).seq.outcome = some .skipped
          ∧ u.RecordShows f k .skipped 0 0)
      ∧ (∀ a, (∀ k, (why k ≠ .none ∨ latch k = true) → a < siteRecordBase f k ∨ siteRecordBase f k + 38 ≤ a) →
          (∀ k, why k = .none → latch k = true → a ≠ u.mapEntryOf k) → Memory.read u.mem a = Memory.read s.mem a)
      ∧ u.pool = { s.pool with watermark := r.poolWatermark }
      ∧ (u.supply.params.budget = r.budget ∧ u.supply.params.cellCurrent = r.cellCurrent ∧ u.supply.params.level = r.pumpLevel
          ∧ u.supply.params.exitKind = r.exitKind ∧ u.supply.params.idleTime = r.idleTime ∧ u.supply.params.holdLimit = r.holdLimit)
      ∧ u.supply.level = r.pumpLevel ∧ u.supply.idleKind = s.supply.idleKind ∧ u.supply.holdCount = s.supply.holdCount
      ∧ u.supply.offPending = s.supply.offPending
      ∧ ((s.supply.level = r.pumpLevel ∨ s.supply.pump = .off ∨ s.supply.pump = .hold ∨ s.supply.offPending = true) →
          u.supply.pump = s.supply.pump ∧ u.supply.settleTimer = s.supply.settleTimer ∧ u.supply.wakeTimer = s.supply.wakeTimer
          ∧ u.supply.holdTimer = s.supply.holdTimer
          ∧ u.supply.idleTimer = if s.supply.idleTimer = none ∨ r.idleTime = 0 then none else some (r.idleTime * 1000))
      ∧ (¬(s.supply.level = r.pumpLevel ∨ s.supply.pump = .off ∨ s.supply.pump = .hold ∨ s.supply.offPending = true) →
          u.supply.pump = .ramp ∧ u.supply.settleTimer = some 200 ∧ u.supply.wakeTimer = none ∧ u.supply.idleTimer = none)
      ∧ u.attn = s.attn ∧ u.wafer = s.wafer ∧ u.run = s.run ∧ u.arbiter = s.arbiter
      ∧ ((∀ k, why k ≠ .none) → rest = [] → ∃ t, exec .frameStart s = .next t ∧ t.frameState f = .done ∧ t.sched.running = none
          ∧ Memory.read t.mem (frameBase f + 0x12) = 1 ∧ t.sched.framesEnded = min (s.sched.framesEnded + 1) 0xFFFF
          ∧ t.attn.getLsbD 0 = true ∧ (∀ k, (t.site k).seq.state = .idle) ∧ t.supply = u.supply ∧ t.pool = u.pool)

/-- A hand-back (R146) and the start of the next head after it (R146 step 7, R141). That HAND_BACK while a site has not reported
changes nothing is the model's choice for an internal step that is not due (log 1, DEDUCED). That the lane buffer, which R33's
table does not list, is empty on the return to IDLE is the model's choice (log 32). -/
def Obligations.HandBackEndsTheFrame : Prop :=
  ∀ (f : FrameNo) (s : State), s.sched.running = some f →
    ((∀ k, look s.sched.ended k = true) → (s.sched.postList = [] ∨ s.run = false) →
      ∃ t, exec .handBack s = .next t
        ∧ t.frameState f = .done ∧ t.sched.running = none ∧ look t.sched.recipes f = none ∧ (∀ k, look t.sched.ended k = false)
        ∧ t.sched.framesEnded = min (s.sched.framesEnded + 1) 0xFFFF ∧ t.sched.nextSeq = s.sched.nextSeq
        ∧ t.sched.postList = s.sched.postList
        ∧ (∀ g, g ≠ f → t.frameState g = s.frameState g ∧ look t.sched.recipes g = look s.sched.recipes g)
        ∧ (Memory.read t.mem (frameBase f + 0x12)).toNat
            = (match s.sched.stop with | .none => 1 | .soft => 2 | .hard => 3 | .runCleared => 4)
        ∧ (∀ d < 3, (Memory.read t.mem (frameBase f + 0x19 + d)).toNat
            = allSites.countP fun k => (Memory.read s.mem (siteRecordBase f k + 0x10)).toNat == d + 1)
        ∧ (Memory.read32 t.mem 0x120).toNat = min ((Memory.read32 s.mem 0x120).toNat + 1) 0xFFFFFFFF
        ∧ (Memory.read32 t.mem 0x124).toNat = min ((Memory.read32 s.mem 0x124).toNat
            + allSites.countP fun k => (Memory.read s.mem (siteRecordBase f k + 0x10)).toNat == 1) 0xFFFFFFFF
        ∧ (∀ k, (t.site k).seq = Sequencer.reset ∧ (t.site k).former = Former.reset ∧ (t.site k).port = (s.site k).port
            ∧ (t.site k).monitor = { Monitor.reset with
                temperature := (s.site k).monitor.temperature, warnAt := (s.site k).monitor.warnAt,
                shutAt := (s.site k).monitor.shutAt, warnLive := (s.site k).monitor.warnLive,
                shutLatch := (s.site k).monitor.shutLatch })
        ∧ ((s.wafer ≠ .closing ∨ s.sched.postList ≠ []) → t.wafer = s.wafer ∧ t.attn = s.attn ||| 0x001#11
            ∧ ∀ a, a ≠ frameBase f + 0x12 → (a < frameBase f + 0x19 ∨ frameBase f + 0x1C ≤ a) → (a < 0x120 ∨ 0x128 ≤ a) →
                Memory.read t.mem a = Memory.read s.mem a)
        ∧ (s.wafer = .closing → s.sched.postList = [] → t.wafer = .closed ∧ t.attn = s.attn ||| 0x009#11 ∧ s.ShowsSummary t
            ∧ ∀ a, a ≠ frameBase f + 0x12 → (a < frameBase f + 0x19 ∨ frameBase f + 0x1C ≤ a) →
                (a < 0x104 ∨ (0x108 ≤ a ∧ a < 0x110) ∨ (0x11E ≤ a ∧ a < 0x120) ∨ 0x128 ≤ a) →
                Memory.read t.mem a = Memory.read s.mem a)
        ∧ t.pool = s.pool ∧ t.supply = s.supply ∧ t.arbiter = s.arbiter ∧ t.run = s.run)
    ∧ ((∀ k, look s.sched.ended k = true) → s.sched.postList ≠ [] → s.run = true →
      ∃ t, exec .handBack { s with run := false } = .next t ∧ exec .handBack s = exec .frameStart { t with run := true })
    ∧ ((∃ k, look s.sched.ended k = false) → exec .handBack s = .next s)

/-- A contact sample (R36). A sample where none is awaited changes nothing: the model's choice (log 2). -/
def Obligations.ContactSampleCountsTheGoodRun : Prop :=
  ∀ (k : SiteNo) (code : SenseCode) (s : State),
    ((s.site k).seq.state = .contact → s.opOf k = some .contactSample → 1 ≤ s.workingRecipe.debounceCount →
      ((s.workingRecipe.contactOpenMax ≤ code.val ∧ code.val ≤ s.workingRecipe.contactShortMin
          ∧ s.workingRecipe.debounceCount ≤ (s.site k).seq.goodRun + 1) →
        exec (.contactSample k code) s = .next { s with sites := put s.sites k { s.site k with
          seq := { (s.site k).seq with
            lastSample := code, goodRun := (s.site k).seq.goodRun + 1, contactTimer := none, state := .refer },
          port := { (s.site k).port with op := some .referenceRead } } })
      ∧ (¬(s.workingRecipe.contactOpenMax ≤ code.val ∧ code.val ≤ s.workingRecipe.contactShortMin
          ∧ s.workingRecipe.debounceCount ≤ (s.site k).seq.goodRun + 1) →
        exec (.contactSample k code) s = .next { s with sites := put s.sites k { s.site k with
          seq := { (s.site k).seq with
            lastSample := code,
            goodRun := if s.workingRecipe.contactOpenMax ≤ code.val ∧ code.val ≤ s.workingRecipe.contactShortMin
              then (s.site k).seq.goodRun + 1 else 0 } } }))
    ∧ ((s.site k).seq.state ≠ .contact ∨ s.opOf k ≠ some .contactSample → exec (.contactSample k code) s = .next s)

/-- The contact timer expires in CONTACT (R37). That the lane buffer stays as it is at END is the model's choice (log 32). -/
def Obligations.ContactTimeoutEndsTheSite : Prop :=
  ∀ (f : FrameNo) (k : SiteNo) (s : State), s.EndsAlone f k → (s.site k).seq.state = .contact →
    (s.site k).seq.contactTimer ≠ none → s.opOf k = some .contactSample → (s.site k).seq.key = none →
    ∃ t, exec (.contactTimerExpiry k) s = .next t ∧ (t.site k).port = { selection := none, op := none }
      ∧ s.EndsKeyless t f k
          (if s.workingRecipe.contactOpenMax ≤ (s.site k).seq.lastSample.val
              ∧ s.workingRecipe.contactShortMin < (s.site k).seq.lastSample.val then .padShort else .noContact) 5

/-- The key wait timer expires in KEYWAIT (R41, its first paragraph) while another site of the frame has not ended;
BlankFieldWithoutASlotWaitsOrStarves has the limit of 0. That the lane buffer stays as it is at END is the model's choice (log
32). -/
def Obligations.KeyWaitExpiryEndsKeyStarved : Prop :=
  ∀ (f : FrameNo) (k : SiteNo) (s : State), s.EndsAlone f k → (s.site k).seq.state = .keywait →
    (s.site k).seq.keyTimer ≠ none → (s.site k).seq.key = none →
    ∃ t, exec (.keyWaitExpiry k) s = .next t ∧ look t.pool.waiting k = none ∧ s.EndsKeyless t f k .keyStarved 5

/-- The one REFERENCE READ of a site: window check (R18) and thresholds (R20). That the lane buffer stays as it is at END is the
model's choice (log 32). -/
def Obligations.ReferenceReadJudgesTheWindow : Prop :=
  ∀ (k : SiteNo) (o b : SenseCode) (s : State), s.opOf k = some .referenceRead → (s.site k).seq.state = .refer →
    ((s.workingRecipe.minWindow : Int) ≤ b.val - o.val → (s.site k).seq.stopTaken = .none → s.NoHandBackDue →
      exec (.referenceReadCompletion k o b) s = .next { s with sites := put s.sites k { s.site k with
          seq := { (s.site k).seq with
            state := .blank,
            refs := { refOpen := o.val, refBlown := b.val, d := b.val - o.val,
                      tI := o.val + (b.val - o.val) * s.workingRecipe.wi / 8,
                      tB := o.val + (b.val - o.val) * s.workingRecipe.wb / 8 } },
          port := { (s.site k).port with op := some (.rowRead 0 .nominal) } } }
        ∧ (s.workingRecipe.InRange →
            o.val ≤ o.val + (b.val - o.val) * s.workingRecipe.wi / 8
            ∧ o.val + (b.val - o.val) * s.workingRecipe.wi / 8 < o.val + (b.val - o.val) * s.workingRecipe.wb / 8
            ∧ o.val + (b.val - o.val) * s.workingRecipe.wb / 8 ≤ b.val))
    ∧ (∀ f, (b.val : Int) - o.val < s.workingRecipe.minWindow → s.EndsAlone f k → (s.site k).seq.key = none →
      (s.site k).seq.pulsed = false →
      ∃ t, exec (.referenceReadCompletion k o b) s = .next t ∧ (s.refsRecorded k (t.site k).seq.refs).EndsKeyless t f k .refFail 5
        ∧ (t.site k).seq.refs = { refOpen := o.val, refBlown := b.val, d := b.val - o.val, tI := 0, tB := 0 })

/-- The lane buffer of a verify (R21); a read that completes after its site has ended gives nothing (R51). -/
def Obligations.ReadAFillsTheLaneBuffer : Prop :=
  ∀ (k : SiteNo) (row : Row) (codes : LaneCodes) (o b : SenseCode) (s : State),
    (s.opOf k = some (.rowRead row .nominal) → (s.site k).seq.state.isRunning = true →
      exec (.readACompletion k codes) s = .next { s with sites := put s.sites k { s.site k with
        seq := { (s.site k).seq with laneA := some codes },
        port := { (s.site k).port with op := some (.rowRead row .margin) } } })
    ∧ ∀ c : Instr, (s.site k).seq.state = .ended →
      ((c = .referenceReadCompletion k o b ∧ s.opOf k = some .referenceRead)
        ∨ (c = .readACompletion k codes ∧ s.opOf k = some (.rowRead row .nominal))
        ∨ (c = .verifyCompletion k codes ∧ s.opOf k = some (.rowRead row .margin))) →
      exec c s = .next { s with sites := put s.sites k { s.site k with port := { selection := none, op := none } } }

/-- The blank check (R39) and its judgement (R16). -/
def Obligations.BlankCheckJudgesTheField : Prop :=
  ∀ (k : SiteNo) (row : Row) (codes : LaneCodes) (v : RowVerify) (s : State), s.Verifying k row codes v →
    (s.site k).seq.state = .blank →
    (row < s.workingRecipe.keyLength.lockRow → (s.site k).seq.stopTaken = .none → s.NoHandBackDue →
      exec (.verifyCompletion k codes) s = .next { s with sites := put s.sites k { s.site k with
        seq := { (s.site k).seq with verified := put (s.site k).seq.verified row (some v), laneA := none },
        port := { (s.site k).port with op := some (.rowRead (Fin.ofNat 19 (row.val + 1)) .nominal) } } })
    ∧ (∀ f, row = s.workingRecipe.keyLength.lockRow → s.EndsAlone f k → (s.site k).seq.key = none →
      (8 ≤ v.blownPairs → ∃ t, exec (.verifyCompletion k codes) s = .next t ∧ (s.verifyRecorded k row v).EndsKeyless t f k .alreadyKeyed 3)
      ∧ (v.blownPairs < 8 →
        ((∃ c, look v.cells c ≠ .intact)
          ∨ ∃ r < row, ∃ u, look (s.site k).seq.verified r = some u ∧ ∃ c, look u.cells c ≠ .intact) →
        ∃ t, exec (.verifyCompletion k codes) s = .next t ∧ (s.verifyRecorded k row v).EndsKeyless t f k .dirty 4))

/-- A draw request at its arrival (R120): drawn for at once, as KeyDrawServesTheLowestWaitingSite says, or finding no drawable
slot, with the key wait limit (R41). -/
def Obligations.BlankFieldWithoutASlotWaitsOrStarves : Prop :=
  ∀ (k : SiteNo) (codes : LaneCodes) (v : RowVerify) (s : State),
    s.Verifying k s.workingRecipe.keyLength.lockRow codes v → (s.site k).seq.state = .blank →
    (∀ c, look v.cells c = .intact) →
    (∀ r < s.workingRecipe.keyLength.lockRow, ∃ u, look (s.site k).seq.verified r = some u ∧ ∀ c, look u.cells c = .intact) →
    (s.site k).seq.stopTaken = .none →
    ((s.pool.redraw ≠ [] ∨ ∃ i, s.slotState i = .loaded) → (∀ j, look s.pool.waiting j = none) → s.NoHandBackDue →
      exec (.verifyCompletion k codes) s = exec .keyDraw { s with
        pool := { s.pool with waiting := put s.pool.waiting k (some s.workingRecipe.keyLength) },
        sites := put s.sites k { s.site k with
          seq := { (s.site k).seq with
            verified := put (s.site k).seq.verified s.workingRecipe.keyLength.lockRow (some v), laneA := none,
            state := .keywait,
            keyTimer := if s.workingRecipe.keyWait = 0 then none else some (s.workingRecipe.keyWait * 1000) },
          port := { (s.site k).port with op := none } } })
    ∧ (s.pool.redraw = [] → (∀ i, s.slotState i ≠ .loaded) →
      (s.workingRecipe.keyWait ≠ 0 → s.NoHandBackDue →
        exec (.verifyCompletion k codes) s = .next { s with
          attn := s.attn ||| 0x040#11,
          pool := { s.pool with waiting := put s.pool.waiting k (some s.workingRecipe.keyLength) },
          sites := put s.sites k { s.site k with
            seq := { (s.site k).seq with
              verified := put (s.site k).seq.verified s.workingRecipe.keyLength.lockRow (some v), laneA := none,
              state := .keywait, keyTimer := some (s.workingRecipe.keyWait * 1000) },
            port := { (s.site k).port with op := none } } })
      ∧ (∀ f, s.workingRecipe.keyWait = 0 → s.EndsAlone f k → (s.site k).seq.key = none →
        ∃ t, exec (.verifyCompletion k codes) s = .next t
          ∧ State.EndsKeyless { s.verifyRecorded k s.workingRecipe.keyLength.lockRow v with attn := s.attn ||| 0x040#11 } t f k .keyStarved 5))

/-- A draw (R123) for the lowest waiting site (R121) from the slot that R122 names, and the key grant as the site takes it (R40,
R43). That the attempt number is 0 in FINAL is the model's choice (log 29). That the first burst request waits for BUDGET_GRANT,
also in READY with the budget free, where R93 has it evaluated on arrival, is the model's reading (log 31, DEDUCED). -/
def Obligations.KeyDrawServesTheLowestWaitingSite : Prop :=
  ∀ (k : SiteNo) (i : SlotNo) (len : KeyLength) (buffer : List Byte) (s : State), look s.pool.waiting k = some len →
    (∀ j, j < k → look s.pool.waiting j = none) → 1 ≤ s.pool.loadedCount →
    buffer = Memory.readBytes s.mem (slotBase i + 0x20) (match len with | .bits128 => 16 | .bits256 => 32) →
    (s.pool.redraw.head? = some i ∨ (s.pool.redraw = [] ∧ s.slotState i = .loaded
      ∧ ∃ n < 256, i = Fin.ofNat 256 (s.pool.cursor.val + n)
        ∧ ∀ m < n, s.slotState (Fin.ofNat 256 (s.pool.cursor.val + m)) ≠ .loaded)) →
    ∃ t u, exec .keyDraw s = .next t ∧ u.RowBegins t k 0
      ∧ u = { s with
          mem := u.mem
          attn := if s.pool.loadedCount = s.pool.watermark then s.attn ||| 0x020#11 else s.attn
          pool := { s.pool with
            slots := put s.pool.slots i .drawn, waiting := put s.pool.waiting k none, redraw := s.pool.redraw.tail,
            cursor := if s.pool.redraw = [] then Fin.ofNat 256 (i.val + 1) else s.pool.cursor,
            loadedCount := s.pool.loadedCount - 1, draws := min (s.pool.draws + 1) 0xFFFF }
          sites := put s.sites k { s.site k with seq := { (s.site k).seq with
            keyTimer := none, key := some { slot := i, serial := s.slotSerial i, buffer := buffer }
            fingerprint := checkValue buffer, plan := rowPlan s.workingRecipe.keyLength buffer (s.site k).seq.lotTag
            pulsed := false } } }
      ∧ (∀ j < 32, Memory.read u.mem (slotBase i + 0x20 + j) = 0)
      ∧ s.KeepsBytesOutside u (slotBase i + 0x20) (slotBase i + 0x40)

/-- One evaluation pass with one request waiting (R94), and the PULSE a grant leads to (R66, R67). That a request waits for this
command is the model's reading of when its evaluation comes (log 31, DEDUCED). -/
def Obligations.BudgetGrantAppliesTheGrantRule : Prop :=
  ∀ (k : SiteNo) (n g : Nat) (row : Row) (s : State),
    (s.supply.pump = .ready → s.supply.offPending = false → look s.arbiter.requests k = some n →
      (∀ j, j ≠ k → look s.arbiter.requests j = none) → (s.site k).former.row = some row →
      (((s.arbiter.inUse + n * s.supply.params.cellCurrent ≤ s.supply.params.budget ∧ g = n)
          ∨ (s.supply.params.budget < s.arbiter.inUse + n * s.supply.params.cellCurrent ∧ 2 ≤ n ∧ g = (n + 1) / 2
            ∧ s.arbiter.inUse + g * s.supply.params.cellCurrent ≤ s.supply.params.budget)) →
        ∃ t, exec .budgetGrant s = .next t
          ∧ t = { s with
              arbiter := {
                requests := put s.arbiter.requests k none, grants := put s.arbiter.grants k (some g),
                inUse := s.arbiter.inUse + g * s.supply.params.cellCurrent, lastGranted := k },
              sites := t.sites }
          ∧ (∀ j, j ≠ k → t.site j = s.site j)
          ∧ (t.site k).seq = { (s.site k).seq with
              state := .pulse, pulsed := true, pulsesIssued := (s.site k).seq.pulsesIssued + 1,
              cellsPulsed := (s.site k).seq.cellsPulsed + allCols.countP (fun c =>
                ((s.site k).former.current.take g).contains c && !hasCol (s.site k).former.pulsedCols c),
              highestAttempt := max (s.site k).seq.highestAttempt (s.site k).former.attempt,
              chopApplied := (s.site k).seq.chopApplied || (s.arbiter.inUse + n * s.supply.params.cellCurrent > s.supply.params.budget : Bool) }
          ∧ (t.site k).former = { (s.site k).former with
              state := .pulsing, current := (s.site k).former.current.take g, held := (s.site k).former.current.drop g,
              pulsedCols := (t.site k).former.pulsedCols }
          ∧ (∀ c, hasCol (t.site k).former.pulsedCols c
              = (hasCol (s.site k).former.pulsedCols c || ((s.site k).former.current.take g).contains c))
          ∧ (t.site k).port.op = some (.pulse (max 4 (min 800
              ((s.workingRecipe.baseWidth * (8 + (s.site k).former.attempt * s.workingRecipe.escalation) + 1) / 2))))
          ∧ (∃ cols, (t.site k).port.selection = some (row, cols)
              ∧ ∀ c, hasCol cols c = ((s.site k).former.current.take g).contains c)
          ∧ (t.site k).monitor = { (s.site k).monitor with
              phase := .measuring, sample := none, holdTouched := false,
              limits := some { expected := g * s.workingRecipe.cellCurrent, overLimit := 2 * (g * s.workingRecipe.cellCurrent),
                               openLimit := g * s.workingRecipe.cellCurrent / 4 } })
      ∧ ((s.supply.params.budget < s.arbiter.inUse + n * s.supply.params.cellCurrent
          ∧ (n < 2 ∨ s.supply.params.budget < s.arbiter.inUse + (n + 1) / 2 * s.supply.params.cellCurrent)) →
        exec .budgetGrant s = .next s))
    ∧ ((s.supply.pump ≠ .ready ∨ s.supply.offPending = true) → exec .budgetGrant s = .next s)
    ∧ ((∀ j, look s.arbiter.requests j = none) → exec .budgetGrant s = .next s)

/-- The round-robin order of one evaluation pass (R94). -/
def Obligations.GrantsGoRoundRobinFromTheLastGranted : Prop :=
  (∀ (j k : SiteNo) (n m : Nat) (s : State), s.supply.pump = .ready → s.supply.offPending = false →
    look s.arbiter.requests j = some n → look s.arbiter.requests k = some m →
    (∀ i, i ≠ j → i ≠ k → look s.arbiter.requests i = none) →
    (j.val + 15 - s.arbiter.lastGranted.val) % 16 < (k.val + 15 - s.arbiter.lastGranted.val) % 16 →
    s.arbiter.inUse + n * s.supply.params.cellCurrent ≤ s.supply.params.budget →
    s.arbiter.inUse + m * s.supply.params.cellCurrent ≤ s.supply.params.budget →
    s.supply.params.budget < s.arbiter.inUse + (n + (m + 1) / 2) * s.supply.params.cellCurrent →
    ∃ t, exec .budgetGrant s = .next t ∧ look t.arbiter.grants j = some n ∧ look t.arbiter.requests j = none
      ∧ look t.arbiter.requests k = some m ∧ look t.arbiter.grants k = look s.arbiter.grants k ∧ t.arbiter.lastGranted = j
      ∧ t.arbiter.inUse = s.arbiter.inUse + n * s.supply.params.cellCurrent ∧ t.site k = s.site k)
    ∧ ∀ s t : State, s.supply.pump = .ready → s.supply.offPending = false → exec .budgetGrant s = .next t →
      ∀ (k : SiteNo) (n : Nat), look s.arbiter.requests k = some n →
        (look t.arbiter.requests k = some n ∧ s.supply.params.budget < t.arbiter.inUse + n * s.supply.params.cellCurrent
          ∧ (n < 2 ∨ s.supply.params.budget < t.arbiter.inUse + (n + 1) / 2 * s.supply.params.cellCurrent))
        ∨ (look t.arbiter.requests k = none ∧ (look t.arbiter.grants k = some n
          ∨ (2 ≤ n ∧ look t.arbiter.grants k = some ((n + 1) / 2))))

/-- After a pulse sorted GOOD (R44), by the three tests of R68, with the release it begins with (R93, R95; that requests still to
be evaluated are evaluated first is the model's reading, log 31). A completion with no pulse in flight changes nothing: the
model's choice (log 2). -/
def Obligations.GoodPulseLeadsToTheNextBurstOrTheVerify : Prop :=
  ∀ (k : SiteNo) (w g sample e : Nat) (row : Row) (l : PulseLimits) (s : State),
    (s.opOf k = some (.pulse w) → (s.site k).monitor.limits = some l → look s.arbiter.grants k = some g →
      look s.arbiter.requests k = none → s.RunsOn k → s.NoHandBackDue → (s.site k).seq.row = some row →
      min sample 2000 ≤ l.overLimit →
      (l.openLimit ≤ min sample 2000 ∨ (s.site k).monitor.holdTouched = true ∨ s.supply.pump = .hold) →
      e = (if (s.site k).monitor.warnLive then (s.workingRecipe.burstSize + 1) / 2 else s.workingRecipe.burstSize) →
      ∃ u, s.PulseEnds u k g false
        ∧ u.site k = { s.site k with
            port := { (s.site k).port with op := none }
            monitor := { (s.site k).monitor with phase := .noPulse, limits := none, sample := none } }
        ∧ ((s.site k).former.held = [] → (s.site k).former.first = [] → (s.site k).former.second = [] →
          exec (.pulseCompletion k sample) s = .next { u with sites := put u.sites k { u.site k with
            seq := { (s.site k).seq with state := .verify }
            former := { (s.site k).former with state := .exhausted, current := [] }
            port := { (s.site k).port with op := some (.rowRead row .nominal) } } })
        ∧ ((s.site k).former.held ≠ [] →
          ∃ t, exec (.pulseCompletion k sample) s = .next t ∧ u.RequestArrives t k { u.site k with
            seq := { (s.site k).seq with state := .burnWait }
            former := { (s.site k).former with state := .requesting, current := (s.site k).former.held, held := [] } })
        ∧ ((s.site k).former.held = [] → ((s.site k).former.first ≠ [] ∨ (s.site k).former.second ≠ []) →
          ∃ t, exec (.pulseCompletion k sample) s = .next t ∧ u.RequestArrives t k { u.site k with
            seq := { (s.site k).seq with state := .burnWait }
            former := { (s.site k).former with
              state := .requesting
              current := if (s.site k).former.first = [] then (s.site k).former.second.take e else (s.site k).former.first.take e
              first := (s.site k).former.first.drop e
              second := if (s.site k).former.first = [] then (s.site k).former.second.drop e else (s.site k).former.second } }))
    ∧ ((∀ w, s.opOf k ≠ some (.pulse w)) → exec (.pulseCompletion k sample) s = .next s)

/-- The two bad sorts of a pulse (R29, R30) and the truncation (R31). A sample within the limit is stored as the latest sample
(R104); that the overcurrent row carries such samples at all is the model's reading (log 23, DEDUCED), and so is what a release
evaluates first (log 31, DEDUCED). That the lane buffer stays as it is at END is the model's choice (log 32). -/
def Obligations.BadPulseEndsTheSiteAndSpendsTheKey : Prop :=
  ∀ (k : SiteNo) (f : FrameNo) (h : KeyHeld) (w g sample : Nat) (l : PulseLimits) (s : State), s.opOf k = some (.pulse w) → (s.site k).monitor.limits = some l → look s.arbiter.grants k = some g →
    s.EndsAlone f k → (s.site k).seq.state = .pulse → (s.site k).seq.key = some h → (s.site k).seq.pulsed = true →
    (l.overLimit < min sample 2000 →
      ∃ t, exec (.pulseCompletion k sample) s = .next t ∧ (s.pulseDone k false).EndsSpent t f k .overcurrent h false
        ∧ look t.arbiter.grants k = none ∧ (t.site k).monitor.truncated = (s.site k).monitor.truncated
        ∧ ∃ u, s.PulseEnds u k g false ∧ t.arbiter = u.arbiter ∧ t.supply = u.supply ∧ ∀ j, j ≠ k → t.site j = u.site j)
    ∧ (min sample 2000 ≤ l.overLimit → min sample 2000 < l.openLimit → (s.site k).monitor.holdTouched = false →
      s.supply.pump ≠ .hold →
      ∃ t, exec (.pulseCompletion k sample) s = .next t ∧ (s.pulseDone k false).EndsSpent t f k .contactLost h false
        ∧ look t.arbiter.grants k = none
        ∧ ∃ u, s.PulseEnds u k g false ∧ t.arbiter = u.arbiter ∧ t.supply = u.supply ∧ ∀ j, j ≠ k → t.site j = u.site j)
    ∧ (l.overLimit < min sample 2000 →
      ∃ t, exec (.overcurrentEvent k sample) s = .next t ∧ (s.pulseDone k true).EndsSpent t f k .overcurrent h false
        ∧ look t.arbiter.grants k = none ∧ (t.site k).monitor.truncated = true
        ∧ ∃ u, s.PulseEnds u k g true ∧ t.arbiter = u.arbiter ∧ t.supply = u.supply ∧ ∀ j, j ≠ k → t.site j = u.site j)
    ∧ (min sample 2000 ≤ l.overLimit → exec (.overcurrentEvent k sample) s = .next { s with
        sites := put s.sites k { s.site k with monitor := { (s.site k).monitor with sample := some (min sample 2000) } } })

/-- A temperature reading (R101), the shutdown latch (R102) and the shutdown event as the site takes it (R54). What the release of
a truncated pulse evaluates first is the model's reading (log 31, DEDUCED). That the lane buffer stays as it is at END is the
model's choice (log 32). -/
def Obligations.ThermalReadingTestsTheThresholds : Prop :=
  ∀ (k : SiteNo) (celsius T : Int) (s : State) (m : Monitor), T = max (-40) (min 200 celsius) →
    m = { (s.site k).monitor with
      temperature := some T,
      warnLive := decide ((s.site k).monitor.warnAt ≤ T)
        || ((s.site k).monitor.warnLive && decide ((s.site k).monitor.warnAt - 10 ≤ T)),
      shutLatch := decide ((s.site k).monitor.shutAt ≤ T)
        || ((s.site k).monitor.shutLatch && decide ((s.site k).monitor.shutAt - 10 ≤ T)),
      thermalSeen := (s.site k).monitor.thermalSeen || ((s.site k).seq.state.isRunning && !(s.site k).monitor.warnLive
        && decide ((s.site k).monitor.warnAt ≤ T)) } →
    ((T < (s.site k).monitor.shutAt ∨ (s.site k).monitor.shutLatch = true) →
      exec (.thermalReading k celsius) s = .next { s with sites := put s.sites k { s.site k with monitor := m } })
    ∧ ((s.site k).monitor.shutAt ≤ T → (s.site k).monitor.shutLatch = false →
      ((s.site k).seq.state.isRunning = false → (∀ w, s.opOf k ≠ some (.pulse w)) → s.NoHandBackDue →
        exec (.thermalReading k celsius) s = .next { s with sites := put s.sites k { s.site k with monitor := m } })
      ∧ (∀ f, s.EndsAlone f k → (s.site k).seq.state.isRunning = true → (s.site k).seq.key = none →
        (∀ w, s.opOf k ≠ some (.pulse w)) →
        ∃ t, exec (.thermalReading k celsius) s = .next t ∧ (t.site k).monitor = m
          ∧ State.EndsKeyless { s with sites := put s.sites k { s.site k with monitor := m } } t f k .thermal (if (s.site k).seq.pulsed then 4 else 5))
      ∧ (∀ f h w g, s.EndsAlone f k → (s.site k).seq.state = .pulse → (s.site k).seq.key = some h →
        (s.site k).seq.pulsed = true → s.opOf k = some (.pulse w) → look s.arbiter.grants k = some g →
        ∃ t, exec (.thermalReading k celsius) s = .next t ∧ (State.pulseDone { s with sites := put s.sites k { s.site k with monitor := m } } k true).EndsSpent t f k .thermal h false
          ∧ look t.arbiter.grants k = none
          ∧ (t.site k).monitor = { m with phase := .noPulse, limits := none, sample := none, truncated := true }
          ∧ ∃ u, State.PulseEnds { s with sites := put s.sites k { s.site k with monitor := m } } u k g true
            ∧ t.arbiter = u.arbiter ∧ t.supply = u.supply ∧ ∀ j, j ≠ k → t.site j = u.site j)
      ∧ (∀ f h, s.sched.running = some f → (∃ j, j ≠ k ∧ look s.sched.ended j = false) →
        ((s.site k).seq.state = .burnWait ∨ (s.site k).seq.state = .verify ∨ (s.site k).seq.state = .final) →
        (s.site k).seq.key = some h → (s.site k).seq.pulsed = true → (∀ w, s.opOf k ≠ some (.pulse w)) →
        ∃ t u, exec (.thermalReading k celsius) s = .next t ∧ State.EndsSpent { s with sites := put s.sites k { s.site k with monitor := m } } t f k .thermal h false
          ∧ (t.site k).monitor = m
          ∧ u = { s with arbiter := { s.arbiter with requests := put s.arbiter.requests k none } } ∧ t.arbiter = u.arbiter
          ∧ t.supply = (if look s.arbiter.requests k = none then s.supply else u.idleIfQuiet)
          ∧ ∀ j, j ≠ k → t.site j = s.site j))

/-- The return-versus-void rule: no pulse was issued with the key, so it goes back (R127, R128), and the evaluation that a return
starts (R121). That the lane buffer stays as it is at END is the model's choice (log 32). -/
def Obligations.UnpulsedKeyGoesBackToThePool : Prop :=
  ∀ (k : SiteNo) (f : FrameNo) (h : KeyHeld) (celsius T : Int) (m : Monitor) (s : State), T = max (-40) (min 200 celsius) →
    m = { (s.site k).monitor with
      temperature := some T,
      warnLive := decide ((s.site k).monitor.warnAt ≤ T)
        || ((s.site k).monitor.warnLive && decide ((s.site k).monitor.warnAt - 10 ≤ T)),
      shutLatch := decide ((s.site k).monitor.shutAt ≤ T)
        || ((s.site k).monitor.shutLatch && decide ((s.site k).monitor.shutAt - 10 ≤ T)),
      thermalSeen := (s.site k).monitor.thermalSeen || ((s.site k).seq.state.isRunning && !(s.site k).monitor.warnLive
        && decide ((s.site k).monitor.warnAt ≤ T)) } →
    (s.site k).monitor.shutAt ≤ max (-40) (min 200 celsius) → (s.site k).monitor.shutLatch = false →
    s.sched.running = some f → (∃ j, j ≠ k ∧ look s.sched.ended j = false) →
    (s.site k).seq.state = .burnWait → (s.site k).seq.key = some h → (s.site k).seq.pulsed = false →
    s.opOf k = none →
    ((∀ j, j ≠ k → look s.pool.waiting j = none) →
      ∃ t u, exec (.thermalReading k celsius) s = .next t ∧ t.EndedAs k .thermal ∧ t.RecordShows f k .thermal 3 h.serial
        ∧ t.site k = Site.asEnded .thermal { s.site k with monitor := m }
        ∧ t.pool = { s.pool with
            slots := put s.pool.slots h.slot .loaded, redraw := s.pool.redraw ++ [h.slot],
            loadedCount := s.pool.loadedCount + 1, returned := min (s.pool.returned + 1) 0xFFFF,
            waiting := put s.pool.waiting k none }
        ∧ (∀ j, j < h.buffer.length → j < 32 → some (Memory.read t.mem (slotBase h.slot + 0x20 + j)) = h.buffer[j]?)
        ∧ (onMap (s.site k).seq.dieX (s.site k).seq.dieY = true → Memory.read t.mem (s.mapEntryOf k) = 5)
        ∧ (∀ a, (a < siteRecordBase f k ∨ siteRecordBase f k + 38 ≤ a) →
            (a < slotBase h.slot + 0x20 ∨ slotBase h.slot + 0x20 + min h.buffer.length 32 ≤ a) → a ≠ s.mapEntryOf k →
            Memory.read t.mem a = Memory.read s.mem a)
        ∧ u = { s with arbiter := { s.arbiter with requests := put s.arbiter.requests k none } } ∧ t.arbiter = u.arbiter
        ∧ t.supply = (if look s.arbiter.requests k = none then s.supply else u.idleIfQuiet)
        ∧ (∀ j, j ≠ k → t.site j = s.site j) ∧ t.attn = s.attn ∧ t.wafer = s.wafer)
    ∧ ((∃ j, j ≠ k ∧ look s.pool.waiting j ≠ none) → s.pool.redraw = [] → (∀ i, s.slotState i ≠ .loaded) →
      ∃ t u v, exec (.thermalReading k celsius) { s with pool := { s.pool with waiting := Vector.replicate 16 none } } = .next u
        ∧ exec .keyDraw { u with pool := { u.pool with waiting := put s.pool.waiting k none } } = .next v
        ∧ exec (.thermalReading k celsius) s = .next t ∧ t = { v with mem := t.mem }
        ∧ ∀ a, Memory.read t.mem a = Memory.read v.mem a)

/-- The retry of a row (R46), how its bursts are cut (R62 to R65) and how an arriving request moves the pump (R83, R85, R86). That
its evaluation is left to BUDGET_GRANT is the model's reading (log 31, DEDUCED). -/
def Obligations.FailingCellsAreBurnedAgain : Prop :=
  ∀ (k : SiteNo) (row : Row) (codes : LaneCodes) (v : RowVerify) (s : State), s.Verifying k row codes v →
    (s.site k).seq.state = .verify → s.RunsOn k → s.NoHandBackDue →
    (∀ c, hasCol (planImage (s.site k).seq.plan row) c = false → look v.cells c = .intact) →
    (∃ c, hasCol (planImage (s.site k).seq.plan row) c = true ∧ look v.cells c ≠ .blown) →
    (s.site k).seq.attempt + 1 < s.workingRecipe.attemptLimit →
    ∃ t p, exec (.verifyCompletion k codes) s = .next t
      ∧ (∀ c, hasCol p c = (hasCol (planImage (s.site k).seq.plan row) c && look v.cells c != .blown))
      ∧ State.AttemptBegins { s with sites := put s.sites k { s.site k with
        seq := { (s.site k).seq with verified := put (s.site k).seq.verified row (some v), laneA := none }
        port := { (s.site k).port with op := none } } } t k row ((s.site k).seq.attempt + 1) p

/-- The row loop of the BURN phase (R43, R46) and the entry to FINAL (R47). That the attempt number is 0 in FINAL, where no rule
gives it, is the model's choice (log 29), and that the evaluation of the request is left to BUDGET_GRANT is its reading (log 31,
DEDUCED). -/
def Obligations.DoneRowLeadsToTheNextRowOrFinal : Prop :=
  ∀ (k : SiteNo) (row : Row) (codes : LaneCodes) (v : RowVerify) (key : List Byte) (tag : BitVec 16) (s : State), s.Verifying k row codes v →
    (s.site k).seq.state = .verify → (s.site k).seq.phase = .burn → s.RunsOn k → s.NoHandBackDue →
    (s.site k).seq.plan = rowPlan s.workingRecipe.keyLength key tag → row ≤ s.workingRecipe.keyLength.checkRow →
    (∀ c, hasCol (planImage (s.site k).seq.plan row) c = false → look v.cells c = .intact) →
    ((∀ c, hasCol (planImage (s.site k).seq.plan row) c = true → look v.cells c = .blown)
      ∨ s.workingRecipe.attemptLimit ≤ (s.site k).seq.attempt + 1) →
    ∃ t, exec (.verifyCompletion k codes) s = .next t
      ∧ State.RowBegins { s with sites := put s.sites k { s.site k with
          seq := { (s.site k).seq with
            verified := put (s.site k).seq.verified row (some v), laneA := none, pendingSet := 0 }
          former := { (s.site k).former with state := .idle, row := none, attempt := 0, pulsedCols := 0 }
          port := { (s.site k).port with op := none } } } t k (row.val + 1)

/-- The final verify (R25, R47) and the two tests before the lock (R48). ReadbackReadsWhatTheRowPlanBurns says what the readback
compare is. That the evaluation of the lock row's request is left to BUDGET_GRANT is the model's reading (log 31, DEDUCED). -/
def Obligations.FinalVerifyFoldsTheRowsAndOpensTheLock : Prop :=
  ∀ (k : SiteNo) (row : Row) (codes : LaneCodes) (v : RowVerify) (h : KeyHeld) (key : List Byte) (tag : BitVec 16) (s : State) (deg : Nat),
    s.Verifying k row codes v → (s.site k).seq.state = .final → s.RunsOn k → s.NoHandBackDue →
    (s.site k).seq.plan = rowPlan s.workingRecipe.keyLength key tag →
    (∀ c, hasCol (planImage (s.site k).seq.plan row) c = false → look v.cells c = .intact) →
    deg = (s.site k).seq.degraded + (List.finRange 16).countP (fun b => hasCol (planImage (s.site k).seq.plan row) (primaryCol b)
      && ((look v.cells (primaryCol b) == .blown) != (look v.cells (secondaryCol b) == .blown))) →
    ∃ mb mi : Int,
      (∀ x : Int, x ≤ mb ↔ x ≤ (s.site k).seq.worstBlown
        ∧ ∀ c, hasCol (planImage (s.site k).seq.plan row) c = true → x ≤ (look v.lo c).val - (s.site k).seq.refs.tB)
      ∧ (∀ x : Int, x ≤ mi ↔ x ≤ (s.site k).seq.worstIntact
        ∧ ∀ c, hasCol (planImage (s.site k).seq.plan row) c = false → x ≤ (s.site k).seq.refs.tI - (look v.hi c).val)
      ∧ (row < s.workingRecipe.keyLength.checkRow →
        exec (.verifyCompletion k codes) s = .next { s with sites := put s.sites k { s.site k with
          seq := { (s.site k).seq with
            row := some (Fin.ofNat 19 (row.val + 1)), laneA := none, verified := put (s.site k).seq.verified row (some v)
            degraded := deg, worstBlown := mb, worstIntact := mi }
          port := { (s.site k).port with op := some (.rowRead (Fin.ofNat 19 (row.val + 1)) .nominal) } } })
      ∧ (row = s.workingRecipe.keyLength.checkRow → (s.site k).seq.key = some h →
        readbackMatches s.workingRecipe.keyLength h.buffer (s.site k).seq.lotTag (put (s.site k).seq.verified row (some v)) = true →
        deg ≤ s.workingRecipe.degradedTolerance →
        ∃ t, exec (.verifyCompletion k codes) s = .next t
          ∧ State.AttemptBegins { s with sites := put s.sites k { s.site k with
              seq := { (s.site k).seq with
                laneA := none, verified := put (s.site k).seq.verified row (some v), degraded := deg, worstBlown := mb
                worstIntact := mi, phase := .locking }
              port := { (s.site k).port with op := none } } } t k s.workingRecipe.keyLength.lockRow 0 0xFFFFFFFF#32)

/-- The lock judgement (R50), the disturb (R45, R47) and the tests of the final verify (R48). That the degraded pairs of a row in
which the final verify finds a disturbed cell are counted too is the model's reading (log 19, DEDUCED). -/
def Obligations.LockAndFailureSpendTheKey : Prop :=
  ∀ (k : SiteNo) (f : FrameNo) (row : Row) (codes : LaneCodes) (v : RowVerify) (h : KeyHeld) (s : State) (deg : Nat), s.Verifying k row codes v →
    s.EndsAlone f k → (s.site k).seq.key = some h → (s.site k).seq.pulsed = true →
    deg = (s.site k).seq.degraded
      + (List.finRange 16).countP (fun b => hasCol (planImage (s.site k).seq.plan row) (primaryCol b)
        && ((look v.cells (primaryCol b) == .blown) != (look v.cells (secondaryCol b) == .blown))) →
    ((s.site k).seq.state = .verify → (s.site k).seq.phase = .locking → row = s.workingRecipe.keyLength.lockRow →
      (∀ c, hasCol (planImage (s.site k).seq.plan row) c = false → look v.cells c = .intact) →
      ((∀ c, hasCol (planImage (s.site k).seq.plan row) c = true → look v.cells c = .blown)
        ∨ s.workingRecipe.attemptLimit ≤ (s.site k).seq.attempt + 1) →
      (8 ≤ v.blownPairs → ∃ t, exec (.verifyCompletion k codes) s = .next t ∧ ((s.verifyRecorded k row v).rowLeft k).EndsSpent t f k .keyed h true)
      ∧ (v.blownPairs < 8 → ∃ t, exec (.verifyCompletion k codes) s = .next t ∧
        ((s.verifyRecorded k row v).rowLeft k).EndsSpent t f k .burnFail h false))
    ∧ ((∃ c, hasCol (planImage (s.site k).seq.plan row) c = false ∧ look v.cells c ≠ .intact) →
      ((s.site k).seq.state = .verify →
        ∃ t, exec (.verifyCompletion k codes) s = .next t ∧ (s.verifyRecorded k row v).EndsSpent t f k .burnFail h false)
      ∧ ((s.site k).seq.state = .final →
        ∃ t u, exec (.verifyCompletion k codes) s = .next t ∧ u.EndsSpent t f k .burnFail h false ∧ s.FoldsFinal u k row v deg))
    ∧ ((s.site k).seq.state = .final → row = s.workingRecipe.keyLength.checkRow →
      (readbackMatches s.workingRecipe.keyLength h.buffer (s.site k).seq.lotTag (put (s.site k).seq.verified row (some v)) = false
        ∨ s.workingRecipe.degradedTolerance < deg) →
      ∃ t u, exec (.verifyCompletion k codes) s = .next t ∧ u.EndsSpent t f k .burnFail h false ∧ s.FoldsFinal u k row v deg
        ∧ (t.site k).seq.degraded = deg)

/-- What the row plan burns (R2, R4 to R6) is what the readback reads (R14, R15), bit for bit. -/
def Obligations.ReadbackReadsWhatTheRowPlanBurns : Prop :=
  ∀ (len : KeyLength) (key : List Byte) (tag : BitVec 16) (verified : Vector (Option RowVerify) 19), key.length = len.keyBytes →
    (readbackMatches len key tag verified = true ↔
      ∀ r, r ≤ len.checkRow → ∃ u, look verified r = some u ∧ ∀ b : Fin 16,
        if hasCol (planImage (rowPlan len key tag) r) (primaryCol b) = true
        then look u.cells (primaryCol b) = .blown ∨ look u.cells (secondaryCol b) = .blown
        else look u.cells (primaryCol b) = .intact ∧ look u.cells (secondaryCol b) = .intact)

/-- The boundary that a stop waits for in REFER, BLANK, PULSE, VERIFY and FINAL (R55, R56); StopRequestsStopTheRunningFrame has
the states in which it ends the site at once. That the lane buffer stays as it is at END is the model's choice (log 32). -/
def Obligations.StopTakenEndsTheSiteAtItsBoundary : Prop :=
  ∀ (k : SiteNo) (f : FrameNo) (s : State), s.EndsAlone f k →
    (∀ o b : SenseCode, s.opOf k = some .referenceRead → (s.site k).seq.state = .refer → (s.site k).seq.key = none →
      (s.site k).seq.pulsed = false → ((s.site k).seq.stopTaken = .hard ∨ (s.site k).seq.stopTaken = .soft) →
      (s.workingRecipe.minWindow : Int) ≤ b.val - o.val →
      ∃ t, exec (.referenceReadCompletion k o b) s = .next t ∧ (s.refsRecorded k (t.site k).seq.refs).EndsKeyless t f k .aborted 5
        ∧ (t.site k).seq.refs = {
            refOpen := o.val, refBlown := b.val, d := b.val - o.val
            tI := o.val + (b.val - o.val) * s.workingRecipe.wi / 8, tB := o.val + (b.val - o.val) * s.workingRecipe.wb / 8 })
    ∧ (∀ (row : Row) (codes : LaneCodes) (v : RowVerify), s.Verifying k row codes v → (s.site k).seq.state = .blank →
      (row < s.workingRecipe.keyLength.lockRow ∨ (row = s.workingRecipe.keyLength.lockRow ∧ (∀ c, look v.cells c = .intact)
        ∧ ∀ r < row, ∃ u, look (s.site k).seq.verified r = some u ∧ ∀ c, look u.cells c = .intact)) →
      (s.site k).seq.key = none → (s.site k).seq.pulsed = false →
      ((s.site k).seq.stopTaken = .hard ∨ (s.site k).seq.stopTaken = .soft) →
      ∃ t, exec (.verifyCompletion k codes) s = .next t ∧ (s.verifyRecorded k row v).EndsKeyless t f k .aborted 5)
    ∧ (∀ (w g sample : Nat) (l : PulseLimits) (h : KeyHeld), s.opOf k = some (.pulse w) → (s.site k).monitor.limits = some l → look s.arbiter.grants k = some g → (s.site k).seq.state = .pulse →
      (s.site k).seq.key = some h → (s.site k).seq.pulsed = true → (s.site k).seq.stopTaken = .hard →
      l.openLimit ≤ min sample 2000 → min sample 2000 ≤ l.overLimit →
      ∃ t, exec (.pulseCompletion k sample) s = .next t ∧ (s.pulseDone k false).EndsSpent t f k .aborted h false)
    ∧ (∀ (row : Row) (codes : LaneCodes) (v : RowVerify) (h : KeyHeld) (deg : Nat), s.Verifying k row codes v →
      (s.site k).seq.key = some h → (s.site k).seq.pulsed = true → (s.site k).seq.stopTaken = .hard →
      (∀ c, hasCol (planImage (s.site k).seq.plan row) c = false → look v.cells c = .intact) →
      deg = (s.site k).seq.degraded
        + (List.finRange 16).countP (fun b => hasCol (planImage (s.site k).seq.plan row) (primaryCol b)
          && ((look v.cells (primaryCol b) == .blown) != (look v.cells (secondaryCol b) == .blown))) →
      (((s.site k).seq.state = .verify ∧ ((s.site k).seq.phase = .burn
            ∨ ((∃ c, hasCol (planImage (s.site k).seq.plan row) c = true ∧ look v.cells c ≠ .blown)
              ∧ (s.site k).seq.attempt + 1 < s.workingRecipe.attemptLimit)))
        ∨ ((s.site k).seq.state = .final ∧ (row < s.workingRecipe.keyLength.checkRow
            ∨ (row = s.workingRecipe.keyLength.checkRow ∧ deg ≤ s.workingRecipe.degradedTolerance
              ∧ readbackMatches s.workingRecipe.keyLength h.buffer (s.site k).seq.lotTag
                  (put (s.site k).seq.verified row (some v)) = true)))) →
      ∃ t u, exec (.verifyCompletion k codes) s = .next t ∧ u.EndsSpent t f k .aborted h false
        ∧ ((s.site k).seq.state = .verify →
            u = if (∃ c, hasCol (planImage (s.site k).seq.plan row) c = true ∧ look v.cells c ≠ .blown)
                  ∧ (s.site k).seq.attempt + 1 < s.workingRecipe.attemptLimit then s.verifyRecorded k row v
                else (s.verifyRecorded k row v).rowLeft k)
        ∧ ((s.site k).seq.state = .final → s.FoldsFinal u k row v deg))

/-- The pump's timers (R84 to R86) and the evaluation at the entry to READY (R93). That an expiry in another state changes nothing
is the model's choice (log 2). -/
def Obligations.PumpTimersMoveThePump : Prop :=
  ∀ s : State,
    (∀ c : Instr, ((c = .settleTimerExpiry ∧ s.supply.pump = .ramp ∧ s.supply.settleTimer ≠ none)
        ∨ (c = .wakeTimerExpiry ∧ s.supply.pump = .wake ∧ s.supply.wakeTimer ≠ none)) →
      ∃ u, exec .budgetGrant { s with supply := { s.supply with pump := .ready, settleTimer := none, wakeTimer := none } } = .next u
        ∧ exec c s = .next { u with supply := u.idleIfQuiet })
    ∧ (s.supply.pump = .ready → s.supply.idleTimer ≠ none →
      exec .idleTimerExpiry s = .next { s with supply := { s.supply with
        pump := .idleLow, idleTimer := none, idleKind := s.supply.params.exitKind } })
    ∧ (s.supply.pump ≠ .ramp → exec .settleTimerExpiry s = .next s)
    ∧ (s.supply.pump ≠ .wake → exec .wakeTimerExpiry s = .next s)
    ∧ (s.supply.pump ≠ .ready → exec .idleTimerExpiry s = .next s)

/-- The pump monitor's events (R87, R88) and the completion of off pending (R90). That OFF_PENDING_COMPLETION changes nothing
while it is not due is the model's choice for an internal step (log 1, DEDUCED). -/
def Obligations.UndervoltageHoldsThePump : Prop :=
  ∀ s : State,
    ((s.supply.pump = .ramp ∨ s.supply.pump = .ready ∨ s.supply.pump = .wake
        ∨ (s.supply.pump = .idleLow ∧ s.supply.idleKind = .fast)) →
      ∃ t, exec .undervoltageEvent s = .next t
        ∧ t = { s with attn := s.attn ||| 0x100#11, sites := t.sites, supply := { s.supply with
            pump := .hold, settleTimer := none, wakeTimer := none, idleTimer := none,
            holdTimer := some (s.supply.params.holdLimit * 1000), holdCount := min (s.supply.holdCount + 1) 0xFFFF } }
        ∧ ∀ k, t.site k = { s.site k with monitor := { (s.site k).monitor with
            holdSeen := (s.site k).monitor.holdSeen || (s.site k).seq.state.isRunning,
            holdTouched := (s.site k).monitor.holdTouched || ((s.site k).monitor.phase == .measuring) } })
    ∧ ((s.supply.pump = .off ∨ s.supply.pump = .hold ∨ (s.supply.pump = .idleLow ∧ s.supply.idleKind = .slow)) →
      exec .undervoltageEvent s = .next s)
    ∧ (s.supply.pump = .hold → s.supply.offPending = false →
      exec .supplyGoodEvent s = .next { s with supply := { s.supply with
        pump := .ramp, settleTimer := some 200, wakeTimer := none, idleTimer := none, holdTimer := none } })
    ∧ ((s.supply.pump ≠ .hold ∨ s.supply.offPending = true) → exec .supplyGoodEvent s = .next s)
    ∧ (s.supply.offPending = true → s.arbiter.inUse = 0 →
      exec .offPendingCompletion s = .next { s with supply := { s.supply with
        pump := .off, offPending := false, settleTimer := none, wakeTimer := none, idleTimer := none, holdTimer := none } })
    ∧ ((s.supply.offPending = false ∨ s.arbiter.inUse ≠ 0) → exec .offPendingCompletion s = .next s)

/-- The hold timer expires (R89). That the event changes nothing in another state or with no timer running (log 2) and with a
pulse in flight, which R87 rules out (log 6, DEDUCED), is the model's choice. The order in which the sites take it is free (log
4), so the statement holds for every order. u is the state before a hand-back that is due is made. That the lane buffer stays as
it is at END is the model's choice (log 32). -/
def Obligations.HoldExpiryEndsTheSitesWithKeys : Prop :=
  ∀ (s : State) (n : Nat),
    (s.supply.pump = .hold → s.supply.holdTimer ≠ none → (∀ k, look s.arbiter.grants k = none) →
      s.PoolCoherent → s.KeysNonzero → s.BudgetCoherent →
      n = allSites.countP (fun k => (s.site k).seq.state.isRunning && (s.site k).seq.key.isSome && !(s.site k).seq.pulsed) →
      ∃ t u, exec .holdExpiry s = .next t ∧ exec .handBack u = .next t
        ∧ ((s.sched.running = none ∨ ∃ j, look s.sched.ended j = false ∧ (s.site j).seq.key = none) → t = u)
        ∧ (∀ k, (s.site k).seq.state.isRunning = true → (s.site k).seq.key ≠ none → u.EndedAs k .supplyLost)
        ∧ (∀ f k, s.sched.running = some f → (s.site k).seq.state.isRunning = true → (s.site k).seq.key ≠ none →
            s.EndedAmongOthers u f k .supplyLost (s.site k).seq.stopTaken)
        ∧ (∀ k h, (s.site k).seq.key = some h → (s.site k).seq.pulsed = false → (∀ j, look s.pool.waiting j = none) →
            u.slotState h.slot = .loaded)
        ∧ (∀ j, look s.pool.waiting j ≠ none →
          if allSites.countP (fun i => decide (i < j) && (look s.pool.waiting i).isSome) < n then
            (u.site j).seq.state = .burnWait ∧ look u.pool.waiting j = none ∧ look u.arbiter.requests j ≠ none
              ∧ ∃ k h h', (s.site k).seq.key = some h ∧ (s.site k).seq.pulsed = false ∧ (u.site j).seq.key = some h'
                ∧ h'.slot = h.slot ∧ u.slotState h.slot = .drawn
          else u.site j = s.site j ∧ look u.pool.waiting j = look s.pool.waiting j)
        ∧ (∀ k, ((s.site k).seq.state.isRunning = false ∨ (s.site k).seq.key = none) → look s.pool.waiting k = none →
            u.site k = s.site k)
        ∧ u.supply = (if s.run = true ∧ 0 < n ∧ ∃ j, look s.pool.waiting j ≠ none then { s.supply with
              pump := .ramp, offPending := false, settleTimer := some 200, wakeTimer := none, idleTimer := none, holdTimer := none }
            else { s.supply with
              pump := .off, offPending := false, settleTimer := none, wakeTimer := none, idleTimer := none, holdTimer := none })
        ∧ (∀ i, i ≠ 5 → u.attn.getLsbD i = (s.attn.getLsbD i || i == 9))
        ∧ ((∀ j, look s.pool.waiting j = none) → u.attn = s.attn ||| 0x200#11)
        ∧ u.wafer = s.wafer ∧ u.run = s.run ∧ u.droppedWrites = s.droppedWrites)
    ∧ ((s.supply.pump ≠ .hold ∨ s.supply.holdTimer = none ∨ ∃ k, look s.arbiter.grants k ≠ none) →
      exec .holdExpiry s = .next s)

/-- The width issued with every PULSE lies in 4..800 ticks (R27). -/
def Obligations.PulseWidthsStayInTheirRange : Prop :=
  (∀ (r : Recipe) (n raw : Nat), r.InRange → raw = (r.baseWidth * (8 + n * r.escalation) + 1) / 2 →
      4 ≤ raw ∧ (800 < raw → pulseTicks r n = 800) ∧ (raw < 4 → pulseTicks r n = 4)
      ∧ (raw ≤ 800 → pulseTicks r n = raw)
      ∧ (800 < raw → ∀ m, n ≤ m → pulseTicks r m = 800)
      ∧ (r.escalation = 0 → pulseTicks r n = 4 * r.baseWidth)
      ∧ ∀ (s : State) (k : SiteNo) (g : Nat) (chopped : Bool), s.workingRecipe = r → (s.site k).former.attempt = n →
          (s.grant k g chopped).opOf k = some (.pulse (pulseTicks r n)))
    ∧ ∀ s t : State, (∀ k w, s.opOf k = some (.pulse w) → 4 ≤ w ∧ w ≤ 800) → step s = .next t →
      ∀ k w, t.opOf k = some (.pulse w) → 4 ≤ w ∧ w ≤ 800
end

