-- ==== Sys2Proof/Laws/State.lean ====
section
/-!
SUPPORT. One lemma per field of `State` for each update of a state, and what each update does to one site. All but the last group hold by
unfolding, so that no later proof unfolds a record update.
-/

namespace Sys2Proof.Machine

variable (s : State)


/-! ### raise -/

@[simp] theorem State.raise_run (c : Cause) : (s.raise c).run = s.run := rfl
@[simp] theorem State.raise_softReset (c : Cause) : (s.raise c).softReset = s.softReset := rfl
@[simp] theorem State.raise_initialising (c : Cause) : (s.raise c).initialising = s.initialising := rfl
@[simp] theorem State.raise_attn (c : Cause) : (s.raise c).attn = s.attn ||| c.mask := rfl
@[simp] theorem State.raise_attnEn (c : Cause) : (s.raise c).attnEn = s.attnEn := rfl
@[simp] theorem State.raise_mem (c : Cause) : (s.raise c).mem = s.mem := rfl
@[simp] theorem State.raise_droppedWrites (c : Cause) : (s.raise c).droppedWrites = s.droppedWrites := rfl
@[simp] theorem State.raise_wafer (c : Cause) : (s.raise c).wafer = s.wafer := rfl
@[simp] theorem State.raise_sched (c : Cause) : (s.raise c).sched = s.sched := rfl
@[simp] theorem State.raise_pool (c : Cause) : (s.raise c).pool = s.pool := rfl
@[simp] theorem State.raise_supply (c : Cause) : (s.raise c).supply = s.supply := rfl
@[simp] theorem State.raise_arbiter (c : Cause) : (s.raise c).arbiter = s.arbiter := rfl
@[simp] theorem State.raise_sites (c : Cause) : (s.raise c).sites = s.sites := rfl
@[simp] theorem State.raise_choices (c : Cause) : (s.raise c).choices = s.choices := rfl
@[simp] theorem State.raise_pending (c : Cause) : (s.raise c).pending = s.pending := rfl
@[simp] theorem State.raise_site (c : Cause) (j : SiteNo) : (s.raise c).site j = s.site j := rfl

/-! ### onSite -/

@[simp] theorem State.onSite_run (k : SiteNo) (f : Site → Site) : (s.onSite k f).run = s.run := rfl
@[simp] theorem State.onSite_softReset (k : SiteNo) (f : Site → Site) : (s.onSite k f).softReset = s.softReset := rfl
@[simp] theorem State.onSite_initialising (k : SiteNo) (f : Site → Site) : (s.onSite k f).initialising = s.initialising := rfl
@[simp] theorem State.onSite_attn (k : SiteNo) (f : Site → Site) : (s.onSite k f).attn = s.attn := rfl
@[simp] theorem State.onSite_attnEn (k : SiteNo) (f : Site → Site) : (s.onSite k f).attnEn = s.attnEn := rfl
@[simp] theorem State.onSite_mem (k : SiteNo) (f : Site → Site) : (s.onSite k f).mem = s.mem := rfl
@[simp] theorem State.onSite_droppedWrites (k : SiteNo) (f : Site → Site) : (s.onSite k f).droppedWrites = s.droppedWrites := rfl
@[simp] theorem State.onSite_wafer (k : SiteNo) (f : Site → Site) : (s.onSite k f).wafer = s.wafer := rfl
@[simp] theorem State.onSite_sched (k : SiteNo) (f : Site → Site) : (s.onSite k f).sched = s.sched := rfl
@[simp] theorem State.onSite_pool (k : SiteNo) (f : Site → Site) : (s.onSite k f).pool = s.pool := rfl
@[simp] theorem State.onSite_supply (k : SiteNo) (f : Site → Site) : (s.onSite k f).supply = s.supply := rfl
@[simp] theorem State.onSite_arbiter (k : SiteNo) (f : Site → Site) : (s.onSite k f).arbiter = s.arbiter := rfl
@[simp] theorem State.onSite_sites (k : SiteNo) (f : Site → Site) : (s.onSite k f).sites = put s.sites k (f (s.site k)) := rfl
@[simp] theorem State.onSite_choices (k : SiteNo) (f : Site → Site) : (s.onSite k f).choices = s.choices := rfl
@[simp] theorem State.onSite_pending (k : SiteNo) (f : Site → Site) : (s.onSite k f).pending = s.pending := rfl

/-! ### onSeq -/

@[simp] theorem State.onSeq_run (k : SiteNo) (f : Sequencer → Sequencer) : (s.onSeq k f).run = s.run := rfl
@[simp] theorem State.onSeq_softReset (k : SiteNo) (f : Sequencer → Sequencer) : (s.onSeq k f).softReset = s.softReset := rfl
@[simp] theorem State.onSeq_initialising (k : SiteNo) (f : Sequencer → Sequencer) : (s.onSeq k f).initialising = s.initialising := rfl
@[simp] theorem State.onSeq_attn (k : SiteNo) (f : Sequencer → Sequencer) : (s.onSeq k f).attn = s.attn := rfl
@[simp] theorem State.onSeq_attnEn (k : SiteNo) (f : Sequencer → Sequencer) : (s.onSeq k f).attnEn = s.attnEn := rfl
@[simp] theorem State.onSeq_mem (k : SiteNo) (f : Sequencer → Sequencer) : (s.onSeq k f).mem = s.mem := rfl
@[simp] theorem State.onSeq_droppedWrites (k : SiteNo) (f : Sequencer → Sequencer) : (s.onSeq k f).droppedWrites = s.droppedWrites := rfl
@[simp] theorem State.onSeq_wafer (k : SiteNo) (f : Sequencer → Sequencer) : (s.onSeq k f).wafer = s.wafer := rfl
@[simp] theorem State.onSeq_sched (k : SiteNo) (f : Sequencer → Sequencer) : (s.onSeq k f).sched = s.sched := rfl
@[simp] theorem State.onSeq_pool (k : SiteNo) (f : Sequencer → Sequencer) : (s.onSeq k f).pool = s.pool := rfl
@[simp] theorem State.onSeq_supply (k : SiteNo) (f : Sequencer → Sequencer) : (s.onSeq k f).supply = s.supply := rfl
@[simp] theorem State.onSeq_arbiter (k : SiteNo) (f : Sequencer → Sequencer) : (s.onSeq k f).arbiter = s.arbiter := rfl
@[simp] theorem State.onSeq_choices (k : SiteNo) (f : Sequencer → Sequencer) : (s.onSeq k f).choices = s.choices := rfl
@[simp] theorem State.onSeq_pending (k : SiteNo) (f : Sequencer → Sequencer) : (s.onSeq k f).pending = s.pending := rfl

/-! ### onFormer -/

@[simp] theorem State.onFormer_run (k : SiteNo) (f : Former → Former) : (s.onFormer k f).run = s.run := rfl
@[simp] theorem State.onFormer_softReset (k : SiteNo) (f : Former → Former) : (s.onFormer k f).softReset = s.softReset := rfl
@[simp] theorem State.onFormer_initialising (k : SiteNo) (f : Former → Former) : (s.onFormer k f).initialising = s.initialising := rfl
@[simp] theorem State.onFormer_attn (k : SiteNo) (f : Former → Former) : (s.onFormer k f).attn = s.attn := rfl
@[simp] theorem State.onFormer_attnEn (k : SiteNo) (f : Former → Former) : (s.onFormer k f).attnEn = s.attnEn := rfl
@[simp] theorem State.onFormer_mem (k : SiteNo) (f : Former → Former) : (s.onFormer k f).mem = s.mem := rfl
@[simp] theorem State.onFormer_droppedWrites (k : SiteNo) (f : Former → Former) : (s.onFormer k f).droppedWrites = s.droppedWrites := rfl
@[simp] theorem State.onFormer_wafer (k : SiteNo) (f : Former → Former) : (s.onFormer k f).wafer = s.wafer := rfl
@[simp] theorem State.onFormer_sched (k : SiteNo) (f : Former → Former) : (s.onFormer k f).sched = s.sched := rfl
@[simp] theorem State.onFormer_pool (k : SiteNo) (f : Former → Former) : (s.onFormer k f).pool = s.pool := rfl
@[simp] theorem State.onFormer_supply (k : SiteNo) (f : Former → Former) : (s.onFormer k f).supply = s.supply := rfl
@[simp] theorem State.onFormer_arbiter (k : SiteNo) (f : Former → Former) : (s.onFormer k f).arbiter = s.arbiter := rfl
@[simp] theorem State.onFormer_choices (k : SiteNo) (f : Former → Former) : (s.onFormer k f).choices = s.choices := rfl
@[simp] theorem State.onFormer_pending (k : SiteNo) (f : Former → Former) : (s.onFormer k f).pending = s.pending := rfl

/-! ### onMonitor -/

@[simp] theorem State.onMonitor_run (k : SiteNo) (f : Monitor → Monitor) : (s.onMonitor k f).run = s.run := rfl
@[simp] theorem State.onMonitor_softReset (k : SiteNo) (f : Monitor → Monitor) : (s.onMonitor k f).softReset = s.softReset := rfl
@[simp] theorem State.onMonitor_initialising (k : SiteNo) (f : Monitor → Monitor) : (s.onMonitor k f).initialising = s.initialising := rfl
@[simp] theorem State.onMonitor_attn (k : SiteNo) (f : Monitor → Monitor) : (s.onMonitor k f).attn = s.attn := rfl
@[simp] theorem State.onMonitor_attnEn (k : SiteNo) (f : Monitor → Monitor) : (s.onMonitor k f).attnEn = s.attnEn := rfl
@[simp] theorem State.onMonitor_mem (k : SiteNo) (f : Monitor → Monitor) : (s.onMonitor k f).mem = s.mem := rfl
@[simp] theorem State.onMonitor_droppedWrites (k : SiteNo) (f : Monitor → Monitor) : (s.onMonitor k f).droppedWrites = s.droppedWrites := rfl
@[simp] theorem State.onMonitor_wafer (k : SiteNo) (f : Monitor → Monitor) : (s.onMonitor k f).wafer = s.wafer := rfl
@[simp] theorem State.onMonitor_sched (k : SiteNo) (f : Monitor → Monitor) : (s.onMonitor k f).sched = s.sched := rfl
@[simp] theorem State.onMonitor_pool (k : SiteNo) (f : Monitor → Monitor) : (s.onMonitor k f).pool = s.pool := rfl
@[simp] theorem State.onMonitor_supply (k : SiteNo) (f : Monitor → Monitor) : (s.onMonitor k f).supply = s.supply := rfl
@[simp] theorem State.onMonitor_arbiter (k : SiteNo) (f : Monitor → Monitor) : (s.onMonitor k f).arbiter = s.arbiter := rfl
@[simp] theorem State.onMonitor_choices (k : SiteNo) (f : Monitor → Monitor) : (s.onMonitor k f).choices = s.choices := rfl
@[simp] theorem State.onMonitor_pending (k : SiteNo) (f : Monitor → Monitor) : (s.onMonitor k f).pending = s.pending := rfl

/-! ### onPort -/

@[simp] theorem State.onPort_run (k : SiteNo) (f : Port → Port) : (s.onPort k f).run = s.run := rfl
@[simp] theorem State.onPort_softReset (k : SiteNo) (f : Port → Port) : (s.onPort k f).softReset = s.softReset := rfl
@[simp] theorem State.onPort_initialising (k : SiteNo) (f : Port → Port) : (s.onPort k f).initialising = s.initialising := rfl
@[simp] theorem State.onPort_attn (k : SiteNo) (f : Port → Port) : (s.onPort k f).attn = s.attn := rfl
@[simp] theorem State.onPort_attnEn (k : SiteNo) (f : Port → Port) : (s.onPort k f).attnEn = s.attnEn := rfl
@[simp] theorem State.onPort_mem (k : SiteNo) (f : Port → Port) : (s.onPort k f).mem = s.mem := rfl
@[simp] theorem State.onPort_droppedWrites (k : SiteNo) (f : Port → Port) : (s.onPort k f).droppedWrites = s.droppedWrites := rfl
@[simp] theorem State.onPort_wafer (k : SiteNo) (f : Port → Port) : (s.onPort k f).wafer = s.wafer := rfl
@[simp] theorem State.onPort_sched (k : SiteNo) (f : Port → Port) : (s.onPort k f).sched = s.sched := rfl
@[simp] theorem State.onPort_pool (k : SiteNo) (f : Port → Port) : (s.onPort k f).pool = s.pool := rfl
@[simp] theorem State.onPort_supply (k : SiteNo) (f : Port → Port) : (s.onPort k f).supply = s.supply := rfl
@[simp] theorem State.onPort_arbiter (k : SiteNo) (f : Port → Port) : (s.onPort k f).arbiter = s.arbiter := rfl
@[simp] theorem State.onPort_choices (k : SiteNo) (f : Port → Port) : (s.onPort k f).choices = s.choices := rfl
@[simp] theorem State.onPort_pending (k : SiteNo) (f : Port → Port) : (s.onPort k f).pending = s.pending := rfl

/-! ### issueOp -/

@[simp] theorem State.issueOp_run (k : SiteNo) (op : PortOp) : (s.issueOp k op).run = s.run := rfl
@[simp] theorem State.issueOp_softReset (k : SiteNo) (op : PortOp) : (s.issueOp k op).softReset = s.softReset := rfl
@[simp] theorem State.issueOp_initialising (k : SiteNo) (op : PortOp) : (s.issueOp k op).initialising = s.initialising := rfl
@[simp] theorem State.issueOp_attn (k : SiteNo) (op : PortOp) : (s.issueOp k op).attn = s.attn := rfl
@[simp] theorem State.issueOp_attnEn (k : SiteNo) (op : PortOp) : (s.issueOp k op).attnEn = s.attnEn := rfl
@[simp] theorem State.issueOp_mem (k : SiteNo) (op : PortOp) : (s.issueOp k op).mem = s.mem := rfl
@[simp] theorem State.issueOp_droppedWrites (k : SiteNo) (op : PortOp) : (s.issueOp k op).droppedWrites = s.droppedWrites := rfl
@[simp] theorem State.issueOp_wafer (k : SiteNo) (op : PortOp) : (s.issueOp k op).wafer = s.wafer := rfl
@[simp] theorem State.issueOp_sched (k : SiteNo) (op : PortOp) : (s.issueOp k op).sched = s.sched := rfl
@[simp] theorem State.issueOp_pool (k : SiteNo) (op : PortOp) : (s.issueOp k op).pool = s.pool := rfl
@[simp] theorem State.issueOp_supply (k : SiteNo) (op : PortOp) : (s.issueOp k op).supply = s.supply := rfl
@[simp] theorem State.issueOp_arbiter (k : SiteNo) (op : PortOp) : (s.issueOp k op).arbiter = s.arbiter := rfl
@[simp] theorem State.issueOp_choices (k : SiteNo) (op : PortOp) : (s.issueOp k op).choices = s.choices := rfl
@[simp] theorem State.issueOp_pending (k : SiteNo) (op : PortOp) : (s.issueOp k op).pending = s.pending := rfl

/-! ### endOp -/

@[simp] theorem State.endOp_run (k : SiteNo) : (s.endOp k).run = s.run := rfl
@[simp] theorem State.endOp_softReset (k : SiteNo) : (s.endOp k).softReset = s.softReset := rfl
@[simp] theorem State.endOp_initialising (k : SiteNo) : (s.endOp k).initialising = s.initialising := rfl
@[simp] theorem State.endOp_attn (k : SiteNo) : (s.endOp k).attn = s.attn := rfl
@[simp] theorem State.endOp_attnEn (k : SiteNo) : (s.endOp k).attnEn = s.attnEn := rfl
@[simp] theorem State.endOp_mem (k : SiteNo) : (s.endOp k).mem = s.mem := rfl
@[simp] theorem State.endOp_droppedWrites (k : SiteNo) : (s.endOp k).droppedWrites = s.droppedWrites := rfl
@[simp] theorem State.endOp_wafer (k : SiteNo) : (s.endOp k).wafer = s.wafer := rfl
@[simp] theorem State.endOp_sched (k : SiteNo) : (s.endOp k).sched = s.sched := rfl
@[simp] theorem State.endOp_pool (k : SiteNo) : (s.endOp k).pool = s.pool := rfl
@[simp] theorem State.endOp_supply (k : SiteNo) : (s.endOp k).supply = s.supply := rfl
@[simp] theorem State.endOp_arbiter (k : SiteNo) : (s.endOp k).arbiter = s.arbiter := rfl
@[simp] theorem State.endOp_choices (k : SiteNo) : (s.endOp k).choices = s.choices := rfl
@[simp] theorem State.endOp_pending (k : SiteNo) : (s.endOp k).pending = s.pending := rfl

/-! ### dropOp -/

@[simp] theorem State.dropOp_run (k : SiteNo) : (s.dropOp k).run = s.run := rfl
@[simp] theorem State.dropOp_softReset (k : SiteNo) : (s.dropOp k).softReset = s.softReset := rfl
@[simp] theorem State.dropOp_initialising (k : SiteNo) : (s.dropOp k).initialising = s.initialising := rfl
@[simp] theorem State.dropOp_attn (k : SiteNo) : (s.dropOp k).attn = s.attn := rfl
@[simp] theorem State.dropOp_attnEn (k : SiteNo) : (s.dropOp k).attnEn = s.attnEn := rfl
@[simp] theorem State.dropOp_mem (k : SiteNo) : (s.dropOp k).mem = s.mem := rfl
@[simp] theorem State.dropOp_droppedWrites (k : SiteNo) : (s.dropOp k).droppedWrites = s.droppedWrites := rfl
@[simp] theorem State.dropOp_wafer (k : SiteNo) : (s.dropOp k).wafer = s.wafer := rfl
@[simp] theorem State.dropOp_sched (k : SiteNo) : (s.dropOp k).sched = s.sched := rfl
@[simp] theorem State.dropOp_pool (k : SiteNo) : (s.dropOp k).pool = s.pool := rfl
@[simp] theorem State.dropOp_supply (k : SiteNo) : (s.dropOp k).supply = s.supply := rfl
@[simp] theorem State.dropOp_arbiter (k : SiteNo) : (s.dropOp k).arbiter = s.arbiter := rfl
@[simp] theorem State.dropOp_choices (k : SiteNo) : (s.dropOp k).choices = s.choices := rfl
@[simp] theorem State.dropOp_pending (k : SiteNo) : (s.dropOp k).pending = s.pending := rfl

/-! ### onEverySite -/

@[simp] theorem State.onEverySite_run (f : Site → Site) : (s.onEverySite f).run = s.run := rfl
@[simp] theorem State.onEverySite_softReset (f : Site → Site) : (s.onEverySite f).softReset = s.softReset := rfl
@[simp] theorem State.onEverySite_initialising (f : Site → Site) : (s.onEverySite f).initialising = s.initialising := rfl
@[simp] theorem State.onEverySite_attn (f : Site → Site) : (s.onEverySite f).attn = s.attn := rfl
@[simp] theorem State.onEverySite_attnEn (f : Site → Site) : (s.onEverySite f).attnEn = s.attnEn := rfl
@[simp] theorem State.onEverySite_mem (f : Site → Site) : (s.onEverySite f).mem = s.mem := rfl
@[simp] theorem State.onEverySite_droppedWrites (f : Site → Site) : (s.onEverySite f).droppedWrites = s.droppedWrites := rfl
@[simp] theorem State.onEverySite_wafer (f : Site → Site) : (s.onEverySite f).wafer = s.wafer := rfl
@[simp] theorem State.onEverySite_sched (f : Site → Site) : (s.onEverySite f).sched = s.sched := rfl
@[simp] theorem State.onEverySite_pool (f : Site → Site) : (s.onEverySite f).pool = s.pool := rfl
@[simp] theorem State.onEverySite_supply (f : Site → Site) : (s.onEverySite f).supply = s.supply := rfl
@[simp] theorem State.onEverySite_arbiter (f : Site → Site) : (s.onEverySite f).arbiter = s.arbiter := rfl
@[simp] theorem State.onEverySite_sites (f : Site → Site) : (s.onEverySite f).sites = Vector.ofFn fun k => f (s.site k) := rfl
@[simp] theorem State.onEverySite_choices (f : Site → Site) : (s.onEverySite f).choices = s.choices := rfl
@[simp] theorem State.onEverySite_pending (f : Site → Site) : (s.onEverySite f).pending = s.pending := rfl

/-! ### store -/

@[simp] theorem State.store_run (a : Nat) (bs : List Byte) : (s.store a bs).run = s.run := rfl
@[simp] theorem State.store_softReset (a : Nat) (bs : List Byte) : (s.store a bs).softReset = s.softReset := rfl
@[simp] theorem State.store_initialising (a : Nat) (bs : List Byte) : (s.store a bs).initialising = s.initialising := rfl
@[simp] theorem State.store_attn (a : Nat) (bs : List Byte) : (s.store a bs).attn = s.attn := rfl
@[simp] theorem State.store_attnEn (a : Nat) (bs : List Byte) : (s.store a bs).attnEn = s.attnEn := rfl
@[simp] theorem State.store_mem (a : Nat) (bs : List Byte) : (s.store a bs).mem = Memory.writeBytes s.mem a bs := rfl
@[simp] theorem State.store_droppedWrites (a : Nat) (bs : List Byte) : (s.store a bs).droppedWrites = s.droppedWrites := rfl
@[simp] theorem State.store_wafer (a : Nat) (bs : List Byte) : (s.store a bs).wafer = s.wafer := rfl
@[simp] theorem State.store_sched (a : Nat) (bs : List Byte) : (s.store a bs).sched = s.sched := rfl
@[simp] theorem State.store_pool (a : Nat) (bs : List Byte) : (s.store a bs).pool = s.pool := rfl
@[simp] theorem State.store_supply (a : Nat) (bs : List Byte) : (s.store a bs).supply = s.supply := rfl
@[simp] theorem State.store_arbiter (a : Nat) (bs : List Byte) : (s.store a bs).arbiter = s.arbiter := rfl
@[simp] theorem State.store_sites (a : Nat) (bs : List Byte) : (s.store a bs).sites = s.sites := rfl
@[simp] theorem State.store_choices (a : Nat) (bs : List Byte) : (s.store a bs).choices = s.choices := rfl
@[simp] theorem State.store_pending (a : Nat) (bs : List Byte) : (s.store a bs).pending = s.pending := rfl
@[simp] theorem State.store_site (a : Nat) (bs : List Byte) (j : SiteNo) : (s.store a bs).site j = s.site j := rfl

/-! ### setFrame -/

@[simp] theorem State.setFrame_run (f : FrameNo) (x : FrameState) : (s.setFrame f x).run = s.run := rfl
@[simp] theorem State.setFrame_softReset (f : FrameNo) (x : FrameState) : (s.setFrame f x).softReset = s.softReset := rfl
@[simp] theorem State.setFrame_initialising (f : FrameNo) (x : FrameState) : (s.setFrame f x).initialising = s.initialising := rfl
@[simp] theorem State.setFrame_attn (f : FrameNo) (x : FrameState) : (s.setFrame f x).attn = s.attn := rfl
@[simp] theorem State.setFrame_attnEn (f : FrameNo) (x : FrameState) : (s.setFrame f x).attnEn = s.attnEn := rfl
@[simp] theorem State.setFrame_mem (f : FrameNo) (x : FrameState) : (s.setFrame f x).mem = s.mem := rfl
@[simp] theorem State.setFrame_droppedWrites (f : FrameNo) (x : FrameState) : (s.setFrame f x).droppedWrites = s.droppedWrites := rfl
@[simp] theorem State.setFrame_wafer (f : FrameNo) (x : FrameState) : (s.setFrame f x).wafer = s.wafer := rfl
@[simp] theorem State.setFrame_sched (f : FrameNo) (x : FrameState) : (s.setFrame f x).sched = { s.sched with frames := put s.sched.frames f x } := rfl
@[simp] theorem State.setFrame_pool (f : FrameNo) (x : FrameState) : (s.setFrame f x).pool = s.pool := rfl
@[simp] theorem State.setFrame_supply (f : FrameNo) (x : FrameState) : (s.setFrame f x).supply = s.supply := rfl
@[simp] theorem State.setFrame_arbiter (f : FrameNo) (x : FrameState) : (s.setFrame f x).arbiter = s.arbiter := rfl
@[simp] theorem State.setFrame_sites (f : FrameNo) (x : FrameState) : (s.setFrame f x).sites = s.sites := rfl
@[simp] theorem State.setFrame_choices (f : FrameNo) (x : FrameState) : (s.setFrame f x).choices = s.choices := rfl
@[simp] theorem State.setFrame_pending (f : FrameNo) (x : FrameState) : (s.setFrame f x).pending = s.pending := rfl
@[simp] theorem State.setFrame_site (f : FrameNo) (x : FrameState) (j : SiteNo) : (s.setFrame f x).site j = s.site j := rfl

/-! ### setSlot -/

@[simp] theorem State.setSlot_run (i : SlotNo) (x : SlotState) : (s.setSlot i x).run = s.run := rfl
@[simp] theorem State.setSlot_softReset (i : SlotNo) (x : SlotState) : (s.setSlot i x).softReset = s.softReset := rfl
@[simp] theorem State.setSlot_initialising (i : SlotNo) (x : SlotState) : (s.setSlot i x).initialising = s.initialising := rfl
@[simp] theorem State.setSlot_attn (i : SlotNo) (x : SlotState) : (s.setSlot i x).attn = s.attn := rfl
@[simp] theorem State.setSlot_attnEn (i : SlotNo) (x : SlotState) : (s.setSlot i x).attnEn = s.attnEn := rfl
@[simp] theorem State.setSlot_mem (i : SlotNo) (x : SlotState) : (s.setSlot i x).mem = s.mem := rfl
@[simp] theorem State.setSlot_droppedWrites (i : SlotNo) (x : SlotState) : (s.setSlot i x).droppedWrites = s.droppedWrites := rfl
@[simp] theorem State.setSlot_wafer (i : SlotNo) (x : SlotState) : (s.setSlot i x).wafer = s.wafer := rfl
@[simp] theorem State.setSlot_sched (i : SlotNo) (x : SlotState) : (s.setSlot i x).sched = s.sched := rfl
@[simp] theorem State.setSlot_pool (i : SlotNo) (x : SlotState) : (s.setSlot i x).pool = { s.pool with slots := put s.pool.slots i x } := rfl
@[simp] theorem State.setSlot_supply (i : SlotNo) (x : SlotState) : (s.setSlot i x).supply = s.supply := rfl
@[simp] theorem State.setSlot_arbiter (i : SlotNo) (x : SlotState) : (s.setSlot i x).arbiter = s.arbiter := rfl
@[simp] theorem State.setSlot_sites (i : SlotNo) (x : SlotState) : (s.setSlot i x).sites = s.sites := rfl
@[simp] theorem State.setSlot_choices (i : SlotNo) (x : SlotState) : (s.setSlot i x).choices = s.choices := rfl
@[simp] theorem State.setSlot_pending (i : SlotNo) (x : SlotState) : (s.setSlot i x).pending = s.pending := rfl
@[simp] theorem State.setSlot_site (i : SlotNo) (x : SlotState) (j : SiteNo) : (s.setSlot i x).site j = s.site j := rfl

/-! ### onPool -/

@[simp] theorem State.onPool_run (f : Pool → Pool) : (s.onPool f).run = s.run := rfl
@[simp] theorem State.onPool_softReset (f : Pool → Pool) : (s.onPool f).softReset = s.softReset := rfl
@[simp] theorem State.onPool_initialising (f : Pool → Pool) : (s.onPool f).initialising = s.initialising := rfl
@[simp] theorem State.onPool_attn (f : Pool → Pool) : (s.onPool f).attn = s.attn := rfl
@[simp] theorem State.onPool_attnEn (f : Pool → Pool) : (s.onPool f).attnEn = s.attnEn := rfl
@[simp] theorem State.onPool_mem (f : Pool → Pool) : (s.onPool f).mem = s.mem := rfl
@[simp] theorem State.onPool_droppedWrites (f : Pool → Pool) : (s.onPool f).droppedWrites = s.droppedWrites := rfl
@[simp] theorem State.onPool_wafer (f : Pool → Pool) : (s.onPool f).wafer = s.wafer := rfl
@[simp] theorem State.onPool_sched (f : Pool → Pool) : (s.onPool f).sched = s.sched := rfl
@[simp] theorem State.onPool_pool (f : Pool → Pool) : (s.onPool f).pool = f s.pool := rfl
@[simp] theorem State.onPool_supply (f : Pool → Pool) : (s.onPool f).supply = s.supply := rfl
@[simp] theorem State.onPool_arbiter (f : Pool → Pool) : (s.onPool f).arbiter = s.arbiter := rfl
@[simp] theorem State.onPool_sites (f : Pool → Pool) : (s.onPool f).sites = s.sites := rfl
@[simp] theorem State.onPool_choices (f : Pool → Pool) : (s.onPool f).choices = s.choices := rfl
@[simp] theorem State.onPool_pending (f : Pool → Pool) : (s.onPool f).pending = s.pending := rfl
@[simp] theorem State.onPool_site (f : Pool → Pool) (j : SiteNo) : (s.onPool f).site j = s.site j := rfl

/-! ### withdrawDraw -/

@[simp] theorem State.withdrawDraw_run (k : SiteNo) : (s.withdrawDraw k).run = s.run := rfl
@[simp] theorem State.withdrawDraw_softReset (k : SiteNo) : (s.withdrawDraw k).softReset = s.softReset := rfl
@[simp] theorem State.withdrawDraw_initialising (k : SiteNo) : (s.withdrawDraw k).initialising = s.initialising := rfl
@[simp] theorem State.withdrawDraw_attn (k : SiteNo) : (s.withdrawDraw k).attn = s.attn := rfl
@[simp] theorem State.withdrawDraw_attnEn (k : SiteNo) : (s.withdrawDraw k).attnEn = s.attnEn := rfl
@[simp] theorem State.withdrawDraw_mem (k : SiteNo) : (s.withdrawDraw k).mem = s.mem := rfl
@[simp] theorem State.withdrawDraw_droppedWrites (k : SiteNo) : (s.withdrawDraw k).droppedWrites = s.droppedWrites := rfl
@[simp] theorem State.withdrawDraw_wafer (k : SiteNo) : (s.withdrawDraw k).wafer = s.wafer := rfl
@[simp] theorem State.withdrawDraw_sched (k : SiteNo) : (s.withdrawDraw k).sched = s.sched := rfl
@[simp] theorem State.withdrawDraw_pool (k : SiteNo) : (s.withdrawDraw k).pool = { s.pool with waiting := put s.pool.waiting k none } := rfl
@[simp] theorem State.withdrawDraw_supply (k : SiteNo) : (s.withdrawDraw k).supply = s.supply := rfl
@[simp] theorem State.withdrawDraw_arbiter (k : SiteNo) : (s.withdrawDraw k).arbiter = s.arbiter := rfl
@[simp] theorem State.withdrawDraw_sites (k : SiteNo) : (s.withdrawDraw k).sites = s.sites := rfl
@[simp] theorem State.withdrawDraw_choices (k : SiteNo) : (s.withdrawDraw k).choices = s.choices := rfl
@[simp] theorem State.withdrawDraw_pending (k : SiteNo) : (s.withdrawDraw k).pending = s.pending := rfl
@[simp] theorem State.withdrawDraw_site (k : SiteNo) (j : SiteNo) : (s.withdrawDraw k).site j = s.site j := rfl

/-! ### onSupply -/

@[simp] theorem State.onSupply_run (f : Supply → Supply) : (s.onSupply f).run = s.run := rfl
@[simp] theorem State.onSupply_softReset (f : Supply → Supply) : (s.onSupply f).softReset = s.softReset := rfl
@[simp] theorem State.onSupply_initialising (f : Supply → Supply) : (s.onSupply f).initialising = s.initialising := rfl
@[simp] theorem State.onSupply_attn (f : Supply → Supply) : (s.onSupply f).attn = s.attn := rfl
@[simp] theorem State.onSupply_attnEn (f : Supply → Supply) : (s.onSupply f).attnEn = s.attnEn := rfl
@[simp] theorem State.onSupply_mem (f : Supply → Supply) : (s.onSupply f).mem = s.mem := rfl
@[simp] theorem State.onSupply_droppedWrites (f : Supply → Supply) : (s.onSupply f).droppedWrites = s.droppedWrites := rfl
@[simp] theorem State.onSupply_wafer (f : Supply → Supply) : (s.onSupply f).wafer = s.wafer := rfl
@[simp] theorem State.onSupply_sched (f : Supply → Supply) : (s.onSupply f).sched = s.sched := rfl
@[simp] theorem State.onSupply_pool (f : Supply → Supply) : (s.onSupply f).pool = s.pool := rfl
@[simp] theorem State.onSupply_supply (f : Supply → Supply) : (s.onSupply f).supply = f s.supply := rfl
@[simp] theorem State.onSupply_arbiter (f : Supply → Supply) : (s.onSupply f).arbiter = s.arbiter := rfl
@[simp] theorem State.onSupply_sites (f : Supply → Supply) : (s.onSupply f).sites = s.sites := rfl
@[simp] theorem State.onSupply_choices (f : Supply → Supply) : (s.onSupply f).choices = s.choices := rfl
@[simp] theorem State.onSupply_pending (f : Supply → Supply) : (s.onSupply f).pending = s.pending := rfl
@[simp] theorem State.onSupply_site (f : Supply → Supply) (j : SiteNo) : (s.onSupply f).site j = s.site j := rfl

/-! ### report -/

@[simp] theorem State.report_run (k : SiteNo) : (s.report k).run = s.run := rfl
@[simp] theorem State.report_softReset (k : SiteNo) : (s.report k).softReset = s.softReset := rfl
@[simp] theorem State.report_initialising (k : SiteNo) : (s.report k).initialising = s.initialising := rfl
@[simp] theorem State.report_attn (k : SiteNo) : (s.report k).attn = s.attn := rfl
@[simp] theorem State.report_attnEn (k : SiteNo) : (s.report k).attnEn = s.attnEn := rfl
@[simp] theorem State.report_mem (k : SiteNo) : (s.report k).mem = s.mem := rfl
@[simp] theorem State.report_droppedWrites (k : SiteNo) : (s.report k).droppedWrites = s.droppedWrites := rfl
@[simp] theorem State.report_wafer (k : SiteNo) : (s.report k).wafer = s.wafer := rfl
@[simp] theorem State.report_sched (k : SiteNo) : (s.report k).sched = { s.sched with ended := put s.sched.ended k true } := rfl
@[simp] theorem State.report_pool (k : SiteNo) : (s.report k).pool = s.pool := rfl
@[simp] theorem State.report_supply (k : SiteNo) : (s.report k).supply = s.supply := rfl
@[simp] theorem State.report_arbiter (k : SiteNo) : (s.report k).arbiter = s.arbiter := rfl
@[simp] theorem State.report_sites (k : SiteNo) : (s.report k).sites = s.sites := rfl
@[simp] theorem State.report_choices (k : SiteNo) : (s.report k).choices = s.choices := rfl
@[simp] theorem State.report_pending (k : SiteNo) : (s.report k).pending = s.pending := rfl
@[simp] theorem State.report_site (k : SiteNo) (j : SiteNo) : (s.report k).site j = s.site j := rfl

/-! ### chosen -/

@[simp] theorem State.chosen_run : (s.chosen).run = s.run := rfl
@[simp] theorem State.chosen_softReset : (s.chosen).softReset = s.softReset := rfl
@[simp] theorem State.chosen_initialising : (s.chosen).initialising = s.initialising := rfl
@[simp] theorem State.chosen_attn : (s.chosen).attn = s.attn := rfl
@[simp] theorem State.chosen_attnEn : (s.chosen).attnEn = s.attnEn := rfl
@[simp] theorem State.chosen_mem : (s.chosen).mem = s.mem := rfl
@[simp] theorem State.chosen_droppedWrites : (s.chosen).droppedWrites = s.droppedWrites := rfl
@[simp] theorem State.chosen_wafer : (s.chosen).wafer = s.wafer := rfl
@[simp] theorem State.chosen_sched : (s.chosen).sched = s.sched := rfl
@[simp] theorem State.chosen_pool : (s.chosen).pool = s.pool := rfl
@[simp] theorem State.chosen_supply : (s.chosen).supply = s.supply := rfl
@[simp] theorem State.chosen_arbiter : (s.chosen).arbiter = s.arbiter := rfl
@[simp] theorem State.chosen_sites : (s.chosen).sites = s.sites := rfl
@[simp] theorem State.chosen_choices : (s.chosen).choices = s.choices + 1 := rfl
@[simp] theorem State.chosen_pending : (s.chosen).pending = s.pending := rfl
@[simp] theorem State.chosen_site (j : SiteNo) : (s.chosen).site j = s.site j := rfl

/-! ### One site -/

/-- What a change of site k does to site j. -/
theorem State.onSite_site (k j : SiteNo) (f : Site → Site) :
    (s.onSite k f).site j = if k = j then f (s.site k) else s.site j := look_put _ _ _ _

@[simp] theorem State.onSite_site_same (k : SiteNo) (f : Site → Site) : (s.onSite k f).site k = f (s.site k) := look_put_same _ _ _

theorem State.onSite_site_other {k j : SiteNo} (f : Site → Site) (h : k ≠ j) : (s.onSite k f).site j = s.site j :=
  look_put_other _ _ _ _ h

@[simp] theorem State.onSeq_site_same (k : SiteNo) (f : Sequencer → Sequencer) :
    (s.onSeq k f).site k = { s.site k with seq := f (s.site k).seq } := look_put_same _ _ _

theorem State.onSeq_site_other {k j : SiteNo} (f : Sequencer → Sequencer) (h : k ≠ j) : (s.onSeq k f).site j = s.site j :=
  look_put_other _ _ _ _ h

@[simp] theorem State.onFormer_site_same (k : SiteNo) (f : Former → Former) :
    (s.onFormer k f).site k = { s.site k with former := f (s.site k).former } := look_put_same _ _ _

theorem State.onFormer_site_other {k j : SiteNo} (f : Former → Former) (h : k ≠ j) : (s.onFormer k f).site j = s.site j :=
  look_put_other _ _ _ _ h

@[simp] theorem State.onMonitor_site_same (k : SiteNo) (f : Monitor → Monitor) :
    (s.onMonitor k f).site k = { s.site k with monitor := f (s.site k).monitor } := look_put_same _ _ _

theorem State.onMonitor_site_other {k j : SiteNo} (f : Monitor → Monitor) (h : k ≠ j) : (s.onMonitor k f).site j = s.site j :=
  look_put_other _ _ _ _ h

@[simp] theorem State.onPort_site_same (k : SiteNo) (f : Port → Port) :
    (s.onPort k f).site k = { s.site k with port := f (s.site k).port } := look_put_same _ _ _

theorem State.onPort_site_other {k j : SiteNo} (f : Port → Port) (h : k ≠ j) : (s.onPort k f).site j = s.site j :=
  look_put_other _ _ _ _ h

@[simp] theorem State.issueOp_site_same (k : SiteNo) (op : PortOp) : (s.issueOp k op).site k = { s.site k with port := { (s.site k).port with op := some op } } := look_put_same _ _ _

theorem State.issueOp_site_other {k j : SiteNo} (op : PortOp) (h : k ≠ j) : (s.issueOp k op).site j = s.site j := look_put_other _ _ _ _ h

@[simp] theorem State.endOp_site_same (k : SiteNo) : (s.endOp k).site k = { s.site k with port := { (s.site k).port with op := none } } := look_put_same _ _ _

theorem State.endOp_site_other {k j : SiteNo} (h : k ≠ j) : (s.endOp k).site j = s.site j := look_put_other _ _ _ _ h

@[simp] theorem State.dropOp_site_same (k : SiteNo) : (s.dropOp k).site k = { s.site k with port := { selection := none, op := none } } := look_put_same _ _ _

theorem State.dropOp_site_other {k j : SiteNo} (h : k ≠ j) : (s.dropOp k).site j = s.site j := look_put_other _ _ _ _ h

@[simp] theorem State.onEverySite_site (f : Site → Site) (j : SiteNo) : (s.onEverySite f).site j = f (s.site j) :=
  look_ofFn _ _

/-! ### One frame, one slot, one place of a vector changed twice -/

theorem State.setFrame_frameState (f g : FrameNo) (x : FrameState) :
    (s.setFrame f x).frameState g = if f = g then x else s.frameState g := look_put _ _ _ _

@[simp] theorem State.setFrame_frameState_same (f : FrameNo) (x : FrameState) : (s.setFrame f x).frameState f = x :=
  look_put_same _ _ _

theorem State.setSlot_slotState (i j : SlotNo) (x : SlotState) :
    (s.setSlot i x).slotState j = if i = j then x else s.slotState j := look_put _ _ _ _

@[simp] theorem State.setSlot_slotState_same (i : SlotNo) (x : SlotState) : (s.setSlot i x).slotState i = x :=
  look_put_same _ _ _

@[simp] theorem put_put {α : Type} {n : Nat} (v : Vector α n) (i : Fin n) (x y : α) : put (put v i x) i y = put v i y := by
  refine look_ext fun j => ?_
  simp only [look_put]
  split <;> rfl

@[simp] theorem put_look {α : Type} {n : Nat} (v : Vector α n) (i : Fin n) : put v i (look v i) = v := by
  refine look_ext fun j => ?_
  rw [look_put]
  split
  · rename_i h
    rw [h]
  · rfl

/-- Two changes of one site are one. -/
@[simp] theorem State.onSite_onSite (k : SiteNo) (f g : Site → Site) : (s.onSite k f).onSite k g = s.onSite k fun x => g (f x) := by
  simp [State.onSite, State.site]

end Sys2Proof.Machine
end

