-- ==== Sys2Proof/Laws/Supply.lean ====
section
/-!
SUPPORT. What the operations of the supply unit and the budget arbiter can change, and what a site's way through its rows can change.
-/

namespace Sys2Proof.Machine

/-! ### Operations that change the supply unit alone -/

theorem State.startIdleIfQuiet_frame (s : State) : ∃ p, s.startIdleIfQuiet = { s with supply := p } := by
  unfold State.startIdleIfQuiet
  split
  · exact ⟨_, rfl⟩
  · exact ⟨s.supply, rfl⟩

theorem State.completeOffPending_frame (s : State) : ∃ p, s.completeOffPending = { s with supply := p } := by
  unfold State.completeOffPending
  split
  · exact ⟨_, rfl⟩
  · exact ⟨s.supply, rfl⟩

theorem State.supplyRunSet_frame (s : State) : ∃ p, s.supplyRunSet = { s with supply := p } := by
  unfold State.supplyRunSet
  split
  · exact ⟨_, rfl⟩
  · exact ⟨s.supply, rfl⟩

theorem State.supplyRunClear_frame (s : State) : ∃ p, s.supplyRunClear = { s with supply := p } := by
  unfold State.supplyRunClear
  split
  · exact ⟨s.supply, rfl⟩
  · obtain ⟨p, h⟩ := State.completeOffPending_frame
      (s.onSupply fun p => { p with offPending := true, settleTimer := none, wakeTimer := none, idleTimer := none })
    exact ⟨p, h⟩

/-! ### The arbiter -/

/-- A turn of a pass changes the arbiter and the sites. -/
theorem State.grantTurn_frame (k : SiteNo) (s : State) : ∃ a xs, s.grantTurn k = { s with arbiter := a, sites := xs } := by
  unfold State.grantTurn
  split
  · exact ⟨s.arbiter, s.sites, rfl⟩
  · split
    · exact ⟨_, _, rfl⟩
    · split
      · exact ⟨_, _, rfl⟩
      · exact ⟨s.arbiter, s.sites, rfl⟩

theorem State.grantTurns_frame (l : List SiteNo) (s : State) :
    ∃ a xs, l.foldl (fun t k => t.grantTurn k) s = { s with arbiter := a, sites := xs } := by
  induction l generalizing s with
  | nil => exact ⟨s.arbiter, s.sites, rfl⟩
  | cons k l ih =>
    obtain ⟨a, xs, h⟩ := State.grantTurn_frame k s
    obtain ⟨b, ys, h'⟩ := ih (s.grantTurn k)
    exact ⟨b, ys, by rw [List.foldl_cons, h', h]⟩

/-- An evaluation changes the arbiter and the sites. -/
theorem State.evaluate_frame (s : State) : ∃ a xs, s.evaluate = { s with arbiter := a, sites := xs } := by
  unfold State.evaluate
  split
  · exact State.grantTurns_frame _ s
  · exact ⟨s.arbiter, s.sites, rfl⟩

/-- With no request waiting an evaluation does nothing. -/
theorem State.grantTurn_of_none {k : SiteNo} {s : State} (h : look s.arbiter.requests k = none) : s.grantTurn k = s := by
  simp [State.grantTurn, h]

theorem State.evaluate_of_noRequest {s : State} (h : ∀ k, look s.arbiter.requests k = none) : s.evaluate = s := by
  unfold State.evaluate
  split
  · generalize passOrder s.arbiter.lastGranted = l
    induction l with
    | nil => rfl
    | cons k l ih => rw [List.foldl_cons, State.grantTurn_of_none (h k), ih]
  · rfl

/-- Outside READY, or with off pending set, no evaluation is made (R93). -/
theorem State.evaluate_of_not_granting {s : State} (h : s.supply.granting = false) : s.evaluate = s := by
  simp [State.evaluate, h]

/-! ### Operations that change the supply unit, the arbiter and the sites -/

/-- Two states that differ in the supply unit, the arbiter and the sites alone: what requests, grants, releases and a site's way through
its rows can change. -/
def State.SupplyWork (s t : State) : Prop := ∃ p a xs, t = { s with supply := p, arbiter := a, sites := xs }

theorem State.SupplyWork.refl (s : State) : s.SupplyWork s := ⟨s.supply, s.arbiter, s.sites, rfl⟩

theorem State.SupplyWork.trans {s t u : State} (h : s.SupplyWork t) (h' : t.SupplyWork u) : s.SupplyWork u := by
  obtain ⟨p, a, xs, rfl⟩ := h
  obtain ⟨q, b, ys, rfl⟩ := h'
  exact ⟨q, b, ys, rfl⟩

theorem State.onSite_supplyWork (k : SiteNo) (f : Site → Site) (s : State) : s.SupplyWork (s.onSite k f) :=
  ⟨s.supply, s.arbiter, _, rfl⟩

theorem State.supplyWork_of_supply {s t : State} (h : ∃ p, t = { s with supply := p }) : s.SupplyWork t := by
  obtain ⟨p, rfl⟩ := h
  exact ⟨p, s.arbiter, s.sites, rfl⟩

theorem State.evaluate_supplyWork (s : State) : s.SupplyWork s.evaluate := by
  obtain ⟨a, xs, h⟩ := s.evaluate_frame
  exact ⟨s.supply, a, xs, h⟩

theorem State.startIdleIfQuiet_supplyWork (s : State) : s.SupplyWork s.startIdleIfQuiet :=
  State.supplyWork_of_supply s.startIdleIfQuiet_frame

theorem State.completeOffPending_supplyWork (s : State) : s.SupplyWork s.completeOffPending :=
  State.supplyWork_of_supply s.completeOffPending_frame

theorem State.requestBurst_supplyWork (k : SiteNo) (n : Nat) (s : State) : s.SupplyWork (s.requestBurst k n) :=
  ⟨_, _, s.sites, rfl⟩

/-- An arriving request grants nothing: every site stays as it is. -/
@[simp] theorem State.requestBurst_sites (k : SiteNo) (n : Nat) (s : State) : (s.requestBurst k n).sites = s.sites := rfl
@[simp] theorem State.requestBurst_supply (k : SiteNo) (n : Nat) (s : State) :
    (s.requestBurst k n).supply = s.supply.onRequest s.run := rfl
@[simp] theorem State.requestBurst_requests (k : SiteNo) (n : Nat) (s : State) :
    (s.requestBurst k n).arbiter.requests = put s.arbiter.requests k (some n) := rfl
@[simp] theorem State.requestBurst_inUse (k : SiteNo) (n : Nat) (s : State) :
    (s.requestBurst k n).arbiter.inUse = s.arbiter.inUse := rfl

theorem State.lowerInUse_supplyWork (k : SiteNo) (g : Nat) (s : State) : s.SupplyWork (s.lowerInUse k g) :=
  .trans ⟨s.supply, _, s.sites, rfl⟩ (State.completeOffPending_supplyWork _)

theorem State.withdrawBurst_supplyWork (k : SiteNo) (s : State) : s.SupplyWork (s.withdrawBurst k) := by
  unfold State.withdrawBurst
  split
  · exact .refl s
  · exact State.SupplyWork.trans ⟨s.supply, _, s.sites, rfl⟩ (State.startIdleIfQuiet_supplyWork _)

theorem State.release_supplyWork (k : SiteNo) (s : State) : s.SupplyWork (s.release k) := by
  unfold State.release
  split
  · exact .refl s
  · exact .trans (.trans (.trans (State.evaluate_supplyWork s) (State.lowerInUse_supplyWork k _ _))
      (State.evaluate_supplyWork _)) (State.startIdleIfQuiet_supplyWork _)

theorem State.enterReady_supplyWork (s : State) : s.SupplyWork s.enterReady :=
  .trans (.trans ⟨_, s.arbiter, s.sites, rfl⟩ (State.evaluate_supplyWork _)) (State.startIdleIfQuiet_supplyWork _)

theorem State.requestCurrent_supplyWork (k : SiteNo) (s : State) : s.SupplyWork (s.requestCurrent k) :=
  .trans (State.onSite_supplyWork k _ s) (State.requestBurst_supplyWork k _ _)

theorem State.beginAttempt_supplyWork (k : SiteNo) (row : Row) (n : Nat) (pending : ColSet) (s : State) :
    s.SupplyWork (s.beginAttempt k row n pending) :=
  .trans (.trans (State.onSite_supplyWork k _ s) (State.onSite_supplyWork k _ _)) (State.requestCurrent_supplyWork k _)

theorem State.issueVerify_supplyWork (k : SiteNo) (row : Row) (s : State) : s.SupplyWork (s.issueVerify k row) := by
  unfold State.issueVerify State.issueOp State.onPort
  exact State.onSite_supplyWork k _ s

theorem State.enterFinal_supplyWork (k : SiteNo) (s : State) : s.SupplyWork (s.enterFinal k) :=
  .trans (State.onSite_supplyWork k _ s) (State.issueVerify_supplyWork k _ _)

theorem State.beginRow_supplyWork (k : SiteNo) (row : Row) (s : State) : s.SupplyWork (s.beginRow k row) := by
  unfold State.beginRow
  split
  · exact State.beginAttempt_supplyWork _ _ _ _ _
  · exact State.enterFinal_supplyWork _ _

theorem State.beginLocking_supplyWork (k : SiteNo) (s : State) : s.SupplyWork (s.beginLocking k) :=
  .trans (State.onSite_supplyWork k _ s) (State.beginAttempt_supplyWork _ _ _ _ _)

theorem State.afterGoodPulse_supplyWork (k : SiteNo) (s : State) : s.SupplyWork (s.afterGoodPulse k) := by
  have h : s.SupplyWork (s.onFormer k (Former.afterGood (s.burstSize k))) := State.onSite_supplyWork k _ s
  unfold State.afterGoodPulse
  dsimp only
  split
  · split
    · exact .trans (.trans h (State.onSite_supplyWork k _ _)) (State.issueVerify_supplyWork _ _ _)
    · exact h
  · exact .trans h (State.requestCurrent_supplyWork _ _)

end Sys2Proof.Machine
end

