-- ==== Sys2Proof/Laws/Sites.lean ====
section
/-!
SUPPORT. What the operations of the key pool unit and the end of a site can change: `State.SiteWork`, and one lemma for each operation
that says it does no more.
-/

namespace Sys2Proof.Machine

/-- Two states that differ in no more than a site's own work can change: attention causes, exchange memory, the key pool unit, the supply
unit, the arbiter, the sites, and which sites have reported END. -/
def State.SiteWork (s t : State) : Prop :=
  ∃ at_ m p su a xs en,
    t = { s with attn := at_, mem := m, pool := p, supply := su, arbiter := a, sites := xs, sched := { s.sched with ended := en } }

theorem State.SiteWork.refl (s : State) : s.SiteWork s :=
  ⟨s.attn, s.mem, s.pool, s.supply, s.arbiter, s.sites, s.sched.ended, rfl⟩

theorem State.SiteWork.trans {s t u : State} (h : s.SiteWork t) (h' : t.SiteWork u) : s.SiteWork u := by
  obtain ⟨a, b, c, d, e, f, g, rfl⟩ := h
  obtain ⟨a', b', c', d', e', f', g', rfl⟩ := h'
  exact ⟨a', b', c', d', e', f', g', rfl⟩

theorem State.SupplyWork.siteWork {s t : State} (h : s.SupplyWork t) : s.SiteWork t := by
  obtain ⟨p, a, xs, rfl⟩ := h
  exact ⟨s.attn, s.mem, s.pool, p, a, xs, s.sched.ended, rfl⟩

/-- The members that a site's own work leaves. -/
theorem State.SiteWork.kept {s t : State} (h : s.SiteWork t) :
    t.run = s.run ∧ t.softReset = s.softReset ∧ t.initialising = s.initialising ∧ t.attnEn = s.attnEn
      ∧ t.droppedWrites = s.droppedWrites ∧ t.wafer = s.wafer ∧ t.choices = s.choices ∧ t.pending = s.pending := by
  obtain ⟨a, b, c, d, e, f, g, rfl⟩ := h
  exact ⟨rfl, rfl, rfl, rfl, rfl, rfl, rfl, rfl⟩

/-- A site's own work leaves every member of the frame scheduler but the set of sites ended. -/
theorem State.SiteWork.sched_kept {s t : State} (h : s.SiteWork t) :
    t.sched.frames = s.sched.frames ∧ t.sched.postList = s.sched.postList ∧ t.sched.running = s.sched.running
      ∧ t.sched.stop = s.sched.stop ∧ t.sched.recipes = s.sched.recipes ∧ t.sched.nextSeq = s.sched.nextSeq
      ∧ t.sched.framesEnded = s.sched.framesEnded := by
  obtain ⟨a, b, c, d, e, f, g, rfl⟩ := h
  exact ⟨rfl, rfl, rfl, rfl, rfl, rfl, rfl⟩

/-- A site's own work leaves the working recipe in force. -/
theorem State.SiteWork.workingRecipe {s t : State} (h : s.SiteWork t) : t.workingRecipe = s.workingRecipe := by
  obtain ⟨a, b, c, d, e, f, g, rfl⟩ := h
  rfl

/-! ### Plain updates -/

theorem State.raise_siteWork (c : Cause) (s : State) : s.SiteWork (s.raise c) :=
  ⟨_, s.mem, s.pool, s.supply, s.arbiter, s.sites, s.sched.ended, rfl⟩

theorem State.store_siteWork (a : Nat) (bs : List Byte) (s : State) : s.SiteWork (s.store a bs) :=
  ⟨s.attn, _, s.pool, s.supply, s.arbiter, s.sites, s.sched.ended, rfl⟩

theorem State.onPool_siteWork (f : Pool → Pool) (s : State) : s.SiteWork (s.onPool f) :=
  ⟨s.attn, s.mem, _, s.supply, s.arbiter, s.sites, s.sched.ended, rfl⟩

theorem State.setSlot_siteWork (i : SlotNo) (x : SlotState) (s : State) : s.SiteWork (s.setSlot i x) :=
  ⟨s.attn, s.mem, _, s.supply, s.arbiter, s.sites, s.sched.ended, rfl⟩

theorem State.onSupply_siteWork (f : Supply → Supply) (s : State) : s.SiteWork (s.onSupply f) :=
  ⟨s.attn, s.mem, s.pool, _, s.arbiter, s.sites, s.sched.ended, rfl⟩

theorem State.onSite_siteWork (k : SiteNo) (f : Site → Site) (s : State) : s.SiteWork (s.onSite k f) :=
  (State.onSite_supplyWork k f s).siteWork

theorem State.endOp_siteWork (k : SiteNo) (s : State) : s.SiteWork (s.endOp k) :=
  State.onSite_siteWork k (fun x => { x with port := { x.port with op := none } }) s

theorem State.report_siteWork (k : SiteNo) (s : State) : s.SiteWork (s.report k) :=
  ⟨s.attn, s.mem, s.pool, s.supply, s.arbiter, s.sites, _, rfl⟩

/-! ### The key pool unit -/

theorem State.lowerLoaded_siteWork (s : State) : s.SiteWork s.lowerLoaded := by
  unfold State.lowerLoaded
  dsimp only
  split
  · exact .trans (State.onPool_siteWork _ s) (State.raise_siteWork _ _)
  · exact State.onPool_siteWork _ s

theorem State.drawSlot_siteWork (k : SiteNo) (i : SlotNo) (p : Pool) (s : State) : s.SiteWork (s.drawSlot k i p) :=
  .trans (.trans (State.onPool_siteWork (fun _ => { p with
      slots := put p.slots i .drawn, waiting := put p.waiting k none, draws := sat16 (p.draws + 1) }) s)
    (State.store_siteWork _ _ _)) (State.lowerLoaded_siteWork _)

theorem State.draw_siteWork {k : SiteNo} {len : KeyLength} {s t : State} {g : KeyGrant} (h : s.draw k len = some (t, g)) :
    s.SiteWork t := by
  unfold State.draw at h
  split at h
  · cases h
  · cases h
    exact State.drawSlot_siteWork _ _ _ _

theorem drawTurn_siteWork (acc : State × List KeyGrant) (k : SiteNo) : acc.1.SiteWork (drawTurn acc k).1 := by
  unfold drawTurn
  split
  · exact .refl _
  · split
    · exact .refl _
    · exact State.draw_siteWork ‹_›

theorem State.evaluateDraws_siteWork (s : State) : s.SiteWork s.evaluateDraws.1 := by
  unfold State.evaluateDraws
  suffices h : ∀ (l : List SiteNo) (acc : State × List KeyGrant), acc.1.SiteWork (l.foldl drawTurn acc).1 from h _ (s, [])
  intro l
  induction l with
  | nil => exact fun acc => .refl _
  | cons k l ih => exact fun acc => .trans (drawTurn_siteWork acc k) (ih _)

theorem State.takeKeyGrant_supplyWork (g : KeyGrant) (s : State) : s.SupplyWork (s.takeKeyGrant g) :=
  .trans (State.onSite_supplyWork g.site _ s) (State.beginRow_supplyWork _ _ _)

theorem State.deliver_supplyWork (gs : List KeyGrant) (s : State) : s.SupplyWork (s.deliver gs) := by
  unfold State.deliver
  induction gs generalizing s with
  | nil => exact .refl s
  | cons g gs ih => exact .trans (State.takeKeyGrant_supplyWork g s) (ih _)

theorem State.evaluatePool_siteWork (s : State) : s.SiteWork s.evaluatePool :=
  .trans (State.evaluateDraws_siteWork s) (State.deliver_supplyWork _ _).siteWork

theorem State.writeDisposition_siteWork (k : SiteNo) (i : SlotNo) (s : State) : s.SiteWork (s.writeDisposition k i) := by
  unfold State.writeDisposition
  exact .trans (.trans (State.store_siteWork _ _ s) (State.store_siteWork _ _ _)) (State.store_siteWork _ _ _)

theorem State.bindSlot_siteWork (k : SiteNo) (i : SlotNo) (s : State) : s.SiteWork (s.bindSlot k i) := by
  unfold State.bindSlot
  exact .trans (.trans (State.setSlot_siteWork i _ s) (State.onPool_siteWork _ _)) (State.writeDisposition_siteWork _ _ _)

theorem State.voidSlot_siteWork (k : SiteNo) (i : SlotNo) (s : State) : s.SiteWork (s.voidSlot k i) := by
  unfold State.voidSlot
  exact .trans (.trans (State.setSlot_siteWork i _ s) (State.onPool_siteWork _ _)) (State.writeDisposition_siteWork _ _ _)

theorem State.returnSlot_siteWork (i : SlotNo) (buffer : List Byte) (s : State) : s.SiteWork (s.returnSlot i buffer) := by
  unfold State.returnSlot
  exact .trans (.trans (State.setSlot_siteWork i _ s) (State.onPool_siteWork _ _)) (State.store_siteWork _ _ _)

theorem State.settleKey_siteWork (k : SiteNo) (o : SiteOutcome) (s : State) : s.SiteWork (s.settleKey k o).1 := by
  unfold State.settleKey
  split
  · exact .refl s
  · split
    · exact State.bindSlot_siteWork _ _ _
    · split
      · exact State.voidSlot_siteWork _ _ _
      · dsimp only
        exact .trans (State.returnSlot_siteWork _ _ _) (State.evaluateDraws_siteWork _)

/-! ### The end of a site -/

theorem State.writeRecord_siteWork (k : SiteNo) (o : SiteOutcome) (d : Disposition) (serial : Word) (s : State) :
    s.SiteWork (s.writeRecord k o d serial) := by
  unfold State.writeRecord
  split
  · exact State.store_siteWork _ _ s
  · exact .refl s

theorem State.writeMap_siteWork (k : SiteNo) (o : SiteOutcome) (s : State) : s.SiteWork (s.writeMap k o) := by
  unfold State.writeMap
  dsimp only
  split
  · split
    · exact State.store_siteWork _ _ s
    · exact .refl s
  · exact .refl s

theorem State.endActions_siteWork (k : SiteNo) (o : SiteOutcome) (s : State) : s.SiteWork (s.endActions k o).1 := by
  unfold State.endActions
  dsimp only
  exact .trans (.trans (.trans (.trans (State.settleKey_siteWork k o s) (State.onSite_siteWork k _ _))
    (State.writeRecord_siteWork _ _ _ _ _)) (State.writeMap_siteWork _ _ _)) (State.report_siteWork _ _)

theorem State.endSiteWith_siteWork (k : SiteNo) (o : SiteOutcome) (s : State) : s.SiteWork (s.endSiteWith k o).1 := by
  unfold State.endSiteWith
  split
  · exact .trans (.trans (.trans (State.onPool_siteWork _ s) (State.withdrawBurst_supplyWork k _).siteWork)
      (State.onSite_siteWork k _ _)) (State.endActions_siteWork k o _)
  · exact .refl s

theorem State.endSite_siteWork (k : SiteNo) (o : SiteOutcome) (s : State) : s.SiteWork (s.endSite k o) :=
  .trans (State.endSiteWith_siteWork k o s) (State.deliver_supplyWork _ _).siteWork

/-- Only a running site ends. -/
theorem State.endSite_of_not_running {k : SiteNo} {o : SiteOutcome} {s : State} (h : (s.site k).seq.state.isRunning = false) :
    s.endSite k o = s := by
  simp [State.endSite, State.endSiteWith, h, State.deliver]

theorem State.truncatePulse_supplyWork (k : SiteNo) (s : State) : s.SupplyWork (s.truncatePulse k) :=
  .trans (.trans (State.onSite_supplyWork k _ s) (State.onSite_supplyWork k _ _)) (State.release_supplyWork k _)

theorem State.thermalEvent_siteWork (k : SiteNo) (s : State) : s.SiteWork (s.thermalEvent k) := by
  unfold State.thermalEvent
  split
  · exact .trans (State.truncatePulse_supplyWork k s).siteWork (State.endSite_siteWork _ _ _)
  · exact State.endSite_siteWork _ _ _

theorem State.enterKeywait_siteWork (k : SiteNo) (s : State) : s.SiteWork (s.enterKeywait k) := by
  unfold State.enterKeywait
  dsimp only
  split
  · exact .trans (.trans (State.onSite_siteWork k _ s) (State.draw_siteWork ‹_›)) (State.takeKeyGrant_supplyWork _ _).siteWork
  · split
    · exact .trans (.trans (State.onSite_siteWork k _ s) (State.raise_siteWork _ _)) (State.endSite_siteWork _ _ _)
    · exact .trans (.trans (State.onSite_siteWork k _ s) (State.raise_siteWork _ _)) (State.onPool_siteWork _ _)

theorem State.takeHard_siteWork (k : SiteNo) (s : State) : s.SiteWork (s.takeHard k) := by
  unfold State.takeHard
  dsimp only
  split
  · split
    · exact .trans (State.onSite_siteWork k _ s) (State.endSite_siteWork _ _ _)
    · exact State.onSite_siteWork k _ s
  · exact .refl s

theorem State.takeSoft_siteWork (k : SiteNo) (s : State) : s.SiteWork (s.takeSoft k) := by
  unfold State.takeSoft
  dsimp only
  split
  · split
    · exact .trans (State.onSite_siteWork k _ s) (State.endSite_siteWork _ _ _)
    · exact State.onSite_siteWork k _ s
  · exact .refl s

theorem State.takeReset_siteWork (k : SiteNo) (s : State) : s.SiteWork (s.takeReset k) := by
  unfold State.takeReset
  split
  · refine .trans ?_ (State.endSite_siteWork _ _ _)
    split
    · exact (State.truncatePulse_supplyWork k s).siteWork
    · exact State.endOp_siteWork k s
  · exact .refl s

/-- Work on one site after another is work on sites. -/
theorem State.foldl_siteWork {act : SiteNo → State → State} (h : ∀ k s, State.SiteWork s (act k s)) (l : List SiteNo) (s : State) :
    s.SiteWork (l.foldl (fun t k => act k t) s) := by
  induction l generalizing s with
  | nil => exact .refl s
  | cons k l ih => exact .trans (h k s) (ih _)

theorem State.everyRunning_siteWork {act : SiteNo → State → State} (h : ∀ k s, State.SiteWork s (act k s)) (s : State) :
    s.chosen.SiteWork (s.everyRunning act) :=
  State.foldl_siteWork h _ _

/-- Every site of a list is in the order of a choice exactly as often as in the list. -/
theorem orderSites_perm (n : Nat) (l : List SiteNo) : (orderSites n l).Perm l := List.perm_insertionSort _ _

end Sys2Proof.Machine
end

