-- ==== Sys2Proof/Laws/Frames.lean ====
section
/-!
SUPPORT. What the operations of the frame scheduler and the wafer unit can change: `State.FrameWork`, one lemma for each operation, and
when a settlement of frames does nothing.
-/

namespace Sys2Proof.Machine

/-- Two states that agree in RUN, SOFT_RESET, initialisation, ATTN_EN, the dropped-write count and the queue: what work on frames, sites
and the wafer leaves. -/
def State.FrameWork (s t : State) : Prop :=
  t.run = s.run ∧ t.softReset = s.softReset ∧ t.initialising = s.initialising ∧ t.attnEn = s.attnEn
    ∧ t.droppedWrites = s.droppedWrites ∧ t.pending = s.pending

theorem State.FrameWork.refl (s : State) : s.FrameWork s := ⟨rfl, rfl, rfl, rfl, rfl, rfl⟩

theorem State.FrameWork.trans {s t u : State} (h : s.FrameWork t) (h' : t.FrameWork u) : s.FrameWork u :=
  ⟨h'.1.trans h.1, h'.2.1.trans h.2.1, h'.2.2.1.trans h.2.2.1, h'.2.2.2.1.trans h.2.2.2.1, h'.2.2.2.2.1.trans h.2.2.2.2.1,
    h'.2.2.2.2.2.trans h.2.2.2.2.2⟩

theorem State.SiteWork.frameWork {s t : State} (h : s.SiteWork t) : s.FrameWork t := by
  obtain ⟨a, b, c, d, e, f, g, rfl⟩ := h
  exact ⟨rfl, rfl, rfl, rfl, rfl, rfl⟩

theorem State.SupplyWork.frameWork {s t : State} (h : s.SupplyWork t) : s.FrameWork t := h.siteWork.frameWork

/-! ### The wafer unit -/

theorem State.completeClose_frameWork (s : State) : s.FrameWork s.completeClose := ⟨rfl, rfl, rfl, rfl, rfl, rfl⟩

theorem State.idleReport_frameWork (s : State) : s.FrameWork s.idleReport := by
  unfold State.idleReport
  split
  · exact State.completeClose_frameWork s
  · exact .refl s

theorem State.idleReport_site (s : State) (k : SiteNo) : s.idleReport.site k = s.site k := by
  unfold State.idleReport
  split <;> rfl

/-- The completion of a soft reset leaves each site's monitor at its reset values and the rest of the site as it was. -/
theorem State.completeReset_site (s : State) (k : SiteNo) : s.completeReset.site k = { s.site k with monitor := .reset } := by
  unfold State.completeReset
  rw [State.idleReport_site]
  exact look_ofFn _ k

theorem State.reportIfIdle_frameWork (s : State) : s.FrameWork s.reportIfIdle := by
  unfold State.reportIfIdle
  split
  · exact State.idleReport_frameWork s
  · exact .refl s

theorem State.takeOpen_frameWork (s : State) : s.FrameWork s.takeOpen := by
  unfold State.takeOpen
  split
  · exact (State.raise_siteWork _ s).frameWork
  · simp [State.FrameWork]

theorem State.takeClose_frameWork (s : State) : s.FrameWork s.takeClose := by
  unfold State.takeClose
  split
  · split
    · exact State.completeClose_frameWork s
    · exact ⟨rfl, rfl, rfl, rfl, rfl, rfl⟩
  · exact .refl s

theorem State.countFrame_siteWork (keyed : Nat) (s : State) : s.SiteWork (s.countFrame keyed) := State.store_siteWork _ _ s

/-! ### Starts and hand-backs -/

theorem State.skipSite_siteWork (k : SiteNo) (why : SkipReason) (x y : Int) (s : State) : s.SiteWork (s.skipSite k why x y) :=
  .trans (.trans (State.onSite_siteWork k _ s) (State.writeRecord_siteWork _ _ _ _ _)) (State.report_siteWork _ _)

theorem State.runSite_siteWork (k : SiteNo) (r : Recipe) (x y : Int) (s : State) : s.SiteWork (s.runSite k r x y) := by
  unfold State.runSite
  dsimp only
  split
  · exact .trans (State.onSite_siteWork k _ s) (State.endSite_siteWork _ _ _)
  · exact State.onSite_siteWork k _ s

theorem State.handSite_siteWork (f : FrameNo) (r : Recipe) (at_ : State) (k : SiteNo) (s : State) :
    s.SiteWork (State.handSite f r at_ k s) := by
  unfold State.handSite
  split
  · exact State.runSite_siteWork _ _ _ _ s
  · exact State.skipSite_siteWork _ _ _ _ s

theorem State.loadFrame_frameWork (f : FrameNo) (rest : List FrameNo) (s : State) : s.FrameWork (s.loadFrame f rest) :=
  ⟨rfl, rfl, rfl, rfl, rfl, rfl⟩

theorem State.startFrame_frameWork (f : FrameNo) (rest : List FrameNo) (s : State) : s.FrameWork (s.startFrame f rest) :=
  .trans (State.loadFrame_frameWork f rest s)
    (State.foldl_siteWork (act := State.handSite f (s.loadFrame f rest).workingRecipe (s.loadFrame f rest))
      (State.handSite_siteWork f _ _) allSites _).frameWork

theorem State.startIfDue_frameWork (s : State) : s.FrameWork s.startIfDue := by
  unfold State.startIfDue
  split
  · split
    · exact State.startFrame_frameWork _ _ s
    · exact .refl s
  · exact .refl s

theorem State.handBackFrame_frameWork (f : FrameNo) (kind : Nat) (s : State) : s.FrameWork (s.handBackFrame f kind) :=
  ⟨rfl, rfl, rfl, rfl, rfl, rfl⟩

theorem State.afterHandBack_frameWork (s : State) : s.FrameWork s.afterHandBack := by
  unfold State.afterHandBack
  split
  · exact State.idleReport_frameWork s
  · exact State.startIfDue_frameWork s

theorem State.handBackIfDue_frameWork (s : State) : s.FrameWork s.handBackIfDue := by
  unfold State.handBackIfDue
  split
  · split
    · exact .trans (State.handBackFrame_frameWork _ _ s) (State.afterHandBack_frameWork _)
    · exact .refl s
  · exact .refl s

theorem State.settleFrames_frameWork (n : Nat) (s : State) : s.FrameWork (s.settleFrames n) := by
  induction n generalizing s with
  | zero => exact .refl s
  | succ n ih =>
    unfold State.settleFrames
    split
    · exact .trans (State.handBackIfDue_frameWork s) (ih _)
    · exact .refl s

theorem State.settle_frameWork (s : State) : s.FrameWork s.settle := State.settleFrames_frameWork _ s

/-- With no frame running there is nothing to hand back. -/
theorem State.settle_of_no_frame {s : State} (h : s.sched.running = none) : s.settle = s := by
  simp [State.settle, State.settleFrames, h]

/-- While a site has not reported END there is nothing to hand back. -/
theorem State.settle_of_not_ended {s : State} {k : SiteNo} (h : look s.sched.ended k = false) : s.settle = s := by
  have : s.sched.allEnded = false := by
    simpa [Scheduler.allEnded] using ⟨k, h⟩
  simp [State.settle, State.settleFrames, this]

/-! ### Posts, stops and resets -/

theorem State.writeHeader_siteWork (f : FrameNo) (seq : Word) (reason : Nat) (flags : Word) (s : State) :
    s.SiteWork (s.writeHeader f seq reason flags) := by
  unfold State.writeHeader
  exact .trans (State.store_siteWork _ _ s) (State.store_siteWork _ _ _)

theorem State.acceptPost_frameWork (f : FrameNo) (raw : RawRecipe) (s : State) : s.FrameWork (s.acceptPost f raw) := by
  have h := (State.writeHeader_siteWork f s.sched.nextSeq 0 raw.clampFlags s).frameWork
  unfold State.acceptPost
  exact h

theorem State.rejectPost_frameWork (f : FrameNo) (why : RejectReason) (raw : RawRecipe) (s : State) :
    s.FrameWork (s.rejectPost f why raw) := by
  have h := (State.writeHeader_siteWork f 0 why.code raw.clampFlags s).frameWork
  unfold State.rejectPost
  exact h

theorem State.takePost_frameWork (f : FrameNo) (s : State) : s.FrameWork (s.takePost f) := by
  have h : s.FrameWork (s.store (frameBase f + 0x004) (bytes32 0)) := (State.store_siteWork _ _ s).frameWork
  unfold State.takePost
  dsimp only
  split
  · exact .trans h (State.rejectPost_frameWork _ _ _ _)
  · exact .trans (.trans h (State.acceptPost_frameWork _ _ _)) (State.startIfDue_frameWork _)

theorem State.cancelFrame_frameWork (f : FrameNo) (s : State) : s.FrameWork (s.cancelFrame f) := ⟨rfl, rfl, rfl, rfl, rfl, rfl⟩

theorem State.everyRunning_frameWork {act : SiteNo → State → State} (h : ∀ k s, State.SiteWork s (act k s)) (s : State) :
    s.FrameWork (s.everyRunning act) :=
  State.FrameWork.trans (t := s.chosen) ⟨rfl, rfl, rfl, rfl, rfl, rfl⟩ (State.everyRunning_siteWork h s).frameWork

theorem State.softStopFrame_frameWork (f : FrameNo) (s : State) : s.FrameWork (s.softStopFrame f) := by
  unfold State.softStopFrame
  split
  · exact State.FrameWork.trans (t := s.setStop f .soft) ⟨rfl, rfl, rfl, rfl, rfl, rfl⟩
      (State.everyRunning_frameWork State.takeSoft_siteWork _)
  · exact .refl s

theorem State.hardStopFrame_frameWork (f : FrameNo) (s : State) : s.FrameWork (s.hardStopFrame f) := by
  unfold State.hardStopFrame
  split
  · exact State.FrameWork.trans (t := s.setStop f .hard) ⟨rfl, rfl, rfl, rfl, rfl, rfl⟩
      (State.everyRunning_frameWork State.takeHard_siteWork _)
  · exact .refl s

theorem State.takeRunClear_frameWork (s : State) : s.FrameWork s.takeRunClear := by
  unfold State.takeRunClear
  split
  · exact (State.supplyWork_of_supply s.supplyRunClear_frame).frameWork
  · rename_i f _
    refine State.FrameWork.trans (t := (s.setStop f .runCleared).chosen) ⟨rfl, rfl, rfl, rfl, rfl, rfl⟩ ?_
    exact .trans (.trans (State.foldl_siteWork State.takeHard_siteWork _ _).frameWork
      (State.supplyWork_of_supply (State.supplyRunClear_frame _)).frameWork)
      (State.foldl_siteWork State.takeHard_siteWork _ _).frameWork

end Sys2Proof.Machine
end

