-- ==== Sys2Proof/Laws/Memory.lean ====
section
/-!
SUPPORT. Exchange memory: reading after writing, and that every memory operation keeps the canonical form.
-/

namespace Sys2Proof.Machine

/-! ### Reading after writing -/

@[simp] theorem Memory.read_nil (a : Nat) : Memory.read [] a = 0 := rfl

theorem Memory.read_cons (x a : Nat) (v : Byte) (t : Memory) :
    Memory.read ((x, v) :: t) a = if x = a then v else Memory.read t a := rfl

@[simp] theorem Memory.read_erase_same (m : Memory) (a : Nat) : Memory.read (Memory.erase m a) a = 0 := by
  induction m with
  | nil => rfl
  | cons c t ih =>
    obtain ⟨x, v⟩ := c
    by_cases h : x = a
    · simpa [Memory.erase, h] using ih
    · simpa [Memory.erase, h, Memory.read_cons] using ih

theorem Memory.read_erase_other (m : Memory) {a x : Nat} (h : x ≠ a) :
    Memory.read (Memory.erase m a) x = Memory.read m x := by
  induction m with
  | nil => rfl
  | cons c t ih =>
    obtain ⟨y, v⟩ := c
    by_cases hy : y = a
    · subst hy
      simp only [Memory.erase, List.filter_cons, bne_self_eq_false, Bool.false_eq_true, ↓reduceIte, Memory.read_cons]
      rw [if_neg (Ne.symm h)]
      exact ih
    · have : (y != a) = true := by simpa using hy
      simp only [Memory.erase, List.filter_cons, this, ↓reduceIte, Memory.read_cons]
      split
      · rfl
      · exact ih

theorem Memory.read_insert_same (m : Memory) (a : Nat) (b : Byte) (h : ∀ c ∈ m, c.1 ≠ a) :
    Memory.read (Memory.insert m a b) a = b := by
  induction m with
  | nil => simp [Memory.insert, Memory.read_cons]
  | cons c t ih =>
    obtain ⟨x, v⟩ := c
    simp only [Memory.insert]
    split
    · simp [Memory.read_cons]
    · rw [Memory.read_cons, if_neg (h (x, v) (by simp))]
      exact ih fun c hc => h c (by simp [hc])

theorem Memory.read_insert_other (m : Memory) {a x : Nat} (b : Byte) (h : x ≠ a) :
    Memory.read (Memory.insert m a b) x = Memory.read m x := by
  induction m with
  | nil => simp [Memory.insert, Memory.read_cons, Ne.symm h]
  | cons c t ih =>
    obtain ⟨y, v⟩ := c
    simp only [Memory.insert]
    split
    · rw [Memory.read_cons, if_neg (Ne.symm h)]
    · rw [Memory.read_cons, Memory.read_cons, ih]

theorem Memory.fst_ne_of_mem_erase {m : Memory} {a : Nat} {c : Host.Cell} (h : c ∈ Memory.erase m a) : c.1 ≠ a := by
  simpa using (List.mem_filter.mp h).2

/-- What a write can do to a read. -/
theorem Memory.read_write (m : Memory) (a x : Nat) (b : Byte) :
    Memory.read (Memory.write m a b) x = if x = a then b else Memory.read m x := by
  unfold Memory.write
  by_cases hx : x = a
  · subst hx
    by_cases hb : b = 0
    · simp [hb]
    · rw [if_neg hb, Memory.read_insert_same _ _ _ fun c hc => Memory.fst_ne_of_mem_erase hc, if_pos rfl]
  · rw [if_neg hx]
    split
    · exact Memory.read_erase_other m hx
    · rw [Memory.read_insert_other _ _ hx, Memory.read_erase_other m hx]

@[simp] theorem Memory.read_write_same (m : Memory) (a : Nat) (b : Byte) : Memory.read (Memory.write m a b) a = b := by
  simp [Memory.read_write]

theorem Memory.read_write_other (m : Memory) {a x : Nat} (b : Byte) (h : x ≠ a) :
    Memory.read (Memory.write m a b) x = Memory.read m x := by
  simp [Memory.read_write, h]

@[simp] theorem Memory.writeBytes_nil (m : Memory) (a : Nat) : Memory.writeBytes m a [] = m := rfl

/-- What a store of several bytes can do to a read. -/
theorem Memory.read_writeBytes (m : Memory) (a x : Nat) (bs : List Byte) :
    Memory.read (Memory.writeBytes m a bs) x =
      if a ≤ x ∧ x < a + bs.length then bs.getD (x - a) 0 else Memory.read m x := by
  induction bs generalizing m a with
  | nil => simp [Memory.writeBytes]
  | cons b t ih =>
    simp only [Memory.writeBytes, List.length_cons]
    rw [ih, Memory.read_write]
    by_cases hx : x = a
    · subst hx
      rw [if_neg (by omega), if_pos rfl, if_pos (by omega)]
      simp
    · rw [if_neg hx]
      by_cases h : a + 1 ≤ x ∧ x < a + 1 + t.length
      · rw [if_pos h, if_pos (by omega)]
        have : x - a = (x - (a + 1)) + 1 := by omega
        simp [this]
      · rw [if_neg h, if_neg (by omega)]

/-- A store leaves every byte outside it. -/
theorem Memory.read_writeBytes_outside (m : Memory) {a x : Nat} (bs : List Byte) (h : x < a ∨ a + bs.length ≤ x) :
    Memory.read (Memory.writeBytes m a bs) x = Memory.read m x := by
  rw [Memory.read_writeBytes, if_neg (by omega)]

/-! ### The canonical form -/

theorem Memory.wfFrom_cons {low x : Nat} {v : Byte} {t : Memory} :
    Memory.wfFrom low ((x, v) :: t) = true ↔ low ≤ x ∧ x < exchangeSize ∧ v ≠ 0 ∧ Memory.wfFrom (x + 1) t = true := by
  simp [Memory.wfFrom, and_assoc]

theorem Memory.wfFrom_mono {low low' : Nat} {m : Memory} (h : low' ≤ low) (hm : Memory.wfFrom low m = true) :
    Memory.wfFrom low' m = true := by
  cases m with
  | nil => rfl
  | cons c t =>
    obtain ⟨x, v⟩ := c
    rw [Memory.wfFrom_cons] at hm ⊢
    exact ⟨by omega, hm.2⟩

theorem Memory.wfFrom_erase {low : Nat} {m : Memory} (a : Nat) (h : Memory.wfFrom low m = true) :
    Memory.wfFrom low (Memory.erase m a) = true := by
  induction m generalizing low with
  | nil => rfl
  | cons c t ih =>
    obtain ⟨x, v⟩ := c
    rw [Memory.wfFrom_cons] at h
    by_cases hx : x = a
    · subst hx
      simp only [Memory.erase, List.filter_cons, bne_self_eq_false, Bool.false_eq_true, ↓reduceIte]
      exact Memory.wfFrom_mono (by omega) (ih h.2.2.2)
    · have : (x != a) = true := by simpa using hx
      simp only [Memory.erase, List.filter_cons, this, ↓reduceIte]
      exact Memory.wfFrom_cons.mpr ⟨h.1, h.2.1, h.2.2.1, ih h.2.2.2⟩

theorem Memory.wfFrom_insert {low a : Nat} {m : Memory} {b : Byte} (hl : low ≤ a) (ha : a < exchangeSize) (hb : b ≠ 0)
    (hm : Memory.wfFrom low m = true) (hn : ∀ c ∈ m, c.1 ≠ a) : Memory.wfFrom low (Memory.insert m a b) = true := by
  induction m generalizing low with
  | nil => exact Memory.wfFrom_cons.mpr ⟨hl, ha, hb, rfl⟩
  | cons c t ih =>
    obtain ⟨x, v⟩ := c
    have hx : x ≠ a := hn (x, v) (by simp)
    rw [Memory.wfFrom_cons] at hm
    simp only [Memory.insert]
    split
    · exact Memory.wfFrom_cons.mpr ⟨hl, ha, hb, Memory.wfFrom_cons.mpr ⟨by omega, hm.2⟩⟩
    · exact Memory.wfFrom_cons.mpr ⟨hm.1, hm.2.1, hm.2.2.1, ih (by omega) hm.2.2.2 fun c hc => hn c (by simp [hc])⟩

/-- A write inside exchange memory keeps the canonical form. -/
theorem Memory.wf_write {m : Memory} {a : Nat} (b : Byte) (ha : a < exchangeSize) (h : Memory.wf m = true) :
    Memory.wf (Memory.write m a b) = true := by
  unfold Memory.write Memory.wf
  split
  · exact Memory.wfFrom_erase a h
  · exact Memory.wfFrom_insert (Nat.zero_le a) ha ‹_› (Memory.wfFrom_erase a h) fun c hc => Memory.fst_ne_of_mem_erase hc

/-- A store inside exchange memory keeps the canonical form. -/
theorem Memory.wf_writeBytes {m : Memory} {a : Nat} {bs : List Byte} (ha : a + bs.length ≤ exchangeSize)
    (h : Memory.wf m = true) : Memory.wf (Memory.writeBytes m a bs) = true := by
  induction bs generalizing m a with
  | nil => exact h
  | cons b t ih =>
    simp only [List.length_cons] at ha
    exact ih (by omega) (Memory.wf_write b (by omega) h)

theorem Memory.read_of_wfFrom {low a : Nat} {m : Memory} (h : Memory.wfFrom low m = true) (ha : a < low) :
    Memory.read m a = 0 := by
  induction m generalizing low with
  | nil => rfl
  | cons c t ih =>
    obtain ⟨x, v⟩ := c
    rw [Memory.wfFrom_cons] at h
    rw [Memory.read_cons, if_neg (by omega)]
    exact ih h.2.2.2 (by omega)

/-- Two memories in canonical form that read alike are equal data. -/
theorem Memory.ext_of_wfFrom {low : Nat} {m n : Memory} (hm : Memory.wfFrom low m = true) (hn : Memory.wfFrom low n = true)
    (h : ∀ a, Memory.read m a = Memory.read n a) : m = n := by
  induction m generalizing low n with
  | nil =>
    cases n with
    | nil => rfl
    | cons c t =>
      obtain ⟨x, v⟩ := c
      rw [Memory.wfFrom_cons] at hn
      have := h x
      simp [Memory.read_cons] at this
      exact absurd this.symm hn.2.2.1
  | cons c t ih =>
    obtain ⟨x, v⟩ := c
    rw [Memory.wfFrom_cons] at hm
    cases n with
    | nil =>
      have := h x
      simp [Memory.read_cons] at this
      exact absurd this hm.2.2.1
    | cons d u =>
      obtain ⟨y, w⟩ := d
      rw [Memory.wfFrom_cons] at hn
      have hx := h x
      have hy := h y
      simp only [Memory.read_cons, if_pos] at hx hy
      have hxy : x = y := by
        rcases Nat.lt_trichotomy x y with hlt | heq | hgt
        · rw [if_neg (by omega), Memory.read_of_wfFrom hn.2.2.2 (by omega)] at hx
          exact absurd hx hm.2.2.1
        · exact heq
        · rw [if_neg (by omega), Memory.read_of_wfFrom hm.2.2.2 (by omega)] at hy
          exact absurd hy.symm hn.2.2.1
      subst hxy
      simp only [if_pos] at hx
      subst hx
      congr 1
      refine ih hm.2.2.2 hn.2.2.2 fun a => ?_
      by_cases ha : a < x + 1
      · rw [Memory.read_of_wfFrom hm.2.2.2 ha, Memory.read_of_wfFrom hn.2.2.2 ha]
      · have := h a
        simpa only [Memory.read_cons, if_neg (show ¬x = a by omega)] using this

/-- Memory right after power-on reset has the canonical form. -/
theorem Memory.wf_reset : Memory.wf State.reset.mem = true := rfl

end Sys2Proof.Machine
end

