-- ==== Sys2Proof/WellFormed.lean ====
section
/-!
DEFINITION. Which commands are well formed: a write row's operands are those of the write its row of the opcode table describes. The
meanings do not rest on these checks: a write is judged by the word it goes to and the value it carries, whatever its row is called.
-/

namespace Sys2Proof

/-- RUN, bit 0 of a word written to RUN_CTRL (10.5). -/
def runBit (value : Word) : Bool := value.getLsbD 0

/-- SOFT_RESET, bit 1 of a word written to RUN_CTRL (10.5). -/
def softResetBit (value : Word) : Bool := value.getLsbD 1

/-- A request row enables the lowest byte of its word, so that its value is the request value (R164). -/
def carriesRequest (lanes : Lanes) : Bool := lanes.getLsbD 0

/-- A tester access enables at least one byte lane (R164). -/
def enablesSomeLane (lanes : Lanes) : Bool := lanes != 0

/-- The word of the register window is none of RUN_CTRL, ATTN and ATTN_EN (R170). -/
def otherRegister (word : WordNo) : Bool := word != 1 && word != 2 && word != 3

/-- Well-formed commands. -/
def Instr.wellFormed : Instr → Bool
  | .runSet value => runBit value && !softResetBit value
  | .runClear value => !runBit value && !softResetBit value
  | .softReset value => softResetBit value
  | .registerWriteOther word _ => otherRegister word
  | .post _ lanes => carriesRequest lanes
  | .release _ lanes => carriesRequest lanes
  | .softStop _ lanes => carriesRequest lanes
  | .hardStop _ lanes => carriesRequest lanes
  | .load _ lanes => carriesRequest lanes
  | .reclaim _ lanes => carriesRequest lanes
  | .withdraw _ lanes => carriesRequest lanes
  | .openWafer lanes => carriesRequest lanes
  | .closeWafer lanes => carriesRequest lanes
  | .watchedWordNoRequest word lanes _ => (Machine.wordKind word).watched && enablesSomeLane lanes
  | .droppedWatchedWordWrite word lanes _ => (Machine.wordKind word).watched && enablesSomeLane lanes
  | .dataWordWrite word lanes _ => !(Machine.wordKind word).watched && enablesSomeLane lanes
  | .powerOnReset => true
  | .initialisationEnd => true
  | .softResetCompletion => true
  | .attnWrite _ => true
  | .attnEnWrite _ => true
  | .frameStart => true
  | .handBack => true
  | .closeCompletion => true
  | .contactSample _ _ => true
  | .contactTimerExpiry _ => true
  | .referenceReadCompletion _ _ _ => true
  | .readACompletion _ _ => true
  | .verifyCompletion _ _ => true
  | .keyWaitExpiry _ => true
  | .keyDraw => true
  | .budgetGrant => true
  | .pulseCompletion _ _ => true
  | .overcurrentEvent _ _ => true
  | .thermalReading _ _ => true
  | .settleTimerExpiry => true
  | .wakeTimerExpiry => true
  | .idleTimerExpiry => true
  | .undervoltageEvent => true
  | .supplyGoodEvent => true
  | .holdExpiry => true
  | .offPendingCompletion => true

/-- Well-formedness as a proposition. -/
abbrev Instr.WellFormed (i : Instr) : Prop := i.wellFormed = true

end Sys2Proof
end

