-- ==== Sys2Proof/Tests/Slice0.lean ====
section
/-!
SUPPORT. Small tests: the well-formedness checks refuse ill-formed commands, the spec's worked examples, one step of each command on a
small state, and for every statement with hypotheses a named state that meets them. Each test's expected values come from the section
of spec/ its comment names.
-/

namespace Sys2Proof.Tests

set_option Elab.async false

open Sys2Proof.Machine

/-! ### Small states -/

/-- The part after initialisation. -/
def open₀ : State := { State.reset with initialising := false }

/-- Whether an outcome is a next state with a property. -/
def goes (o : Host.Outcome State Fault Refusal) (p : State → Bool) : Bool :=
  match o with
  | .next t => p t
  | _ => false

/-- An OPEN wafer, RUN 1, frame 0 running on the recipe of 11.6, every site in IDLE. -/
def run₀ : State :=
  { open₀ with
    run := true
    wafer := .opened
    sched := { Scheduler.reset with
      frames := put (Vector.replicate 4 .free) 0 .running, running := some 0,
      recipes := put (Vector.replicate 4 none) 0 (some zeroRecipe) } }

/-- `run₀` with another working recipe. -/
def runWith (r : Recipe) : State :=
  { run₀ with sched := { run₀.sched with recipes := put (Vector.replicate 4 none) 0 (some r) } }

/-- The recipe of 12.1 as far as the burn goes. -/
def recipe₁ : Recipe :=
  { zeroRecipe with
    burstSize := 8, burstOrder := .split, attemptLimit := 3, baseWidth := 7, escalation := 3, wb := 5, wi := 2, minWindow := 64,
    degradedTolerance := 1, budget := 200, cellCurrent := 12, keyWait := 50, contactOpenMax := 100, contactShortMin := 900,
    debounceCount := 4, contactTimeout := 2 }

/-- The reference set of site 1 in 12.5. -/
def refs₀ : RefSet := { refOpen := 180, refBlown := 860, d := 680, tI := 350, tB := 605 }

/-- Codes of a row that reads intact. -/
def low : LaneCodes := Vector.replicate 32 200

/-- Codes of a row that reads blown. -/
def high : LaneCodes := Vector.replicate 32 700

/-- A key that begins with bytes A5h, 00h (1.4). -/
def bytes₀ : List Byte := [0xA5, 0x00] ++ List.replicate 14 0x11

/-- The key of slot 5 as a site holds it. -/
def key₀ : KeyHeld := { slot := 5, serial := 501, buffer := bytes₀ }

/-- The row plan of that key with lot tag 8003h. -/
def plan₀ : List PlanRow := rowPlan .bits128 bytes₀ 0x8003

/-- Site 0 in a state of its sequencer. -/
def site₀ (x : SiteState) (s : State) : State := s.onSeq 0 fun q => { q with state := x }

/-- Site 0 holds the key of slot 5, a pulse has been issued with it. -/
def keyed₀ (s : State) : State :=
  (s.setSlot 5 .drawn).onSeq 0 fun q => { q with key := some key₀, pulsed := true, plan := plan₀, lotTag := 0x8003, refs := refs₀ }

/-- Site 0 waits for read B of a row, read A's codes being a. -/
def reading₀ (row : Row) (a : LaneCodes) (s : State) : State :=
  (s.onSeq 0 fun q => { q with laneA := some a, refs := refs₀ }).issueOp 0 (.rowRead row .margin)

/-- Site 0 pulses the eight primary cells of row 0 (12.3). -/
def pulse₀ : State :=
  let s := keyed₀ (site₀ .pulse (runWith recipe₁))
  let p : SupplyParams := { budget := 200, cellCurrent := 12, level := 6, exitKind := .fast, idleTime := 2, holdLimit := 5 }
  { (((s.onSeq 0 fun q => { q with row := some 0 }).issueOp 0 (.pulse 28)).onMonitor 0 fun m =>
      { m with phase := .measuring, limits := some (limitsFor 12 8) }).onFormer 0 fun f =>
      { f with state := .pulsing, row := some 0, current := [0, 4, 10, 14] } with
    supply := { Supply.reset with pump := .ready, level := 6, params := p }
    arbiter := { Arbiter.reset with grants := put (Vector.replicate 16 none) 0 (some 8), inUse := 96, lastGranted := 0 } }

/-! ### Well-formedness refuses -/

theorem test_wf_run_set_with_run_clear : Instr.wellFormed (.runSet 0) = false := by decide
theorem test_wf_run_clear_with_run_set : Instr.wellFormed (.runClear 1) = false := by decide
theorem test_wf_soft_reset_without_bit_1 : Instr.wellFormed (.softReset 1) = false := by decide
theorem test_wf_other_register_is_not_attn : Instr.wellFormed (.registerWriteOther 2 0) = false := by decide
theorem test_wf_post_needs_lane_0 : Instr.wellFormed (.post 0 0b1110) = false := by decide
theorem test_wf_release_needs_lane_0 : Instr.wellFormed (.release 0 0) = false := by decide
theorem test_wf_stops_need_lane_0 : Instr.wellFormed (.softStop 0 2) = false ∧ Instr.wellFormed (.hardStop 0 2) = false := by decide
theorem test_wf_slot_requests_need_lane_0 :
    Instr.wellFormed (.load 0 2) = false ∧ Instr.wellFormed (.reclaim 0 2) = false ∧ Instr.wellFormed (.withdraw 0 2) = false := by
  decide
theorem test_wf_wafer_requests_need_lane_0 : Instr.wellFormed (.openWafer 2) = false ∧ Instr.wellFormed (.closeWafer 2) = false := by
  decide
theorem test_wf_data_word_is_not_watched : Instr.wellFormed (.dataWordWrite 0x40 15 0) = false := by decide
theorem test_wf_watched_word_is_watched : Instr.wellFormed (.watchedWordNoRequest 0x42 15 0) = false := by decide
theorem test_wf_dropped_word_is_watched : Instr.wellFormed (.droppedWatchedWordWrite 0 15 0) = false := by decide
theorem test_wf_write_enables_a_lane : Instr.wellFormed (.dataWordWrite 0x42 0 0) = false := by decide
/-- No row of the table has bits, so no word spells a command. -/
theorem test_no_word_decodes : decodeTableWord 32 1 = none ∧ (State.reset.withFetchWord 32 1) = State.reset := ⟨rfl, rfl⟩

/-! ### Worked examples of the spec -/

/-- R6: the check value of the nine ASCII bytes 123456789 is 29B1h. -/
theorem test_check_value_of_123456789 : checkValue [0x31, 0x32, 0x33, 0x34, 0x35, 0x36, 0x37, 0x38, 0x39] = 0x29B1 := by decide +kernel

/-- 1.4: key bytes A5h, 00h give row 0 the expected-blown columns 0, 1, 4, 5, 10, 11, 14, 15. -/
theorem test_row_image_of_A5_00 : colsOf (planImage plan₀ 0) = [0, 1, 4, 5, 10, 11, 14, 15] := by decide +kernel

/-- 1.4: lot tag 8003h gives the tag row columns 0, 1, 28, 29, 30, 31. -/
theorem test_row_image_of_tag_8003 : colsOf (planImage plan₀ 8) = [0, 1, 28, 29, 30, 31] := by decide +kernel

/-- 11.6: the recipe after power-on sets clamp flags 001CDCADh. -/
theorem test_zero_recipe_clamp_flags : (rawRecipe []).clampFlags = 0x001CDCAD := by decide +kernel

/-- 11.6: the recipe after power-on runs with B 20 mA, I_cell 1 mA, wb 1, wi 0, warning 60 and shutdown 70. -/
theorem test_zero_recipe_values :
    zeroRecipe.budget = 20 ∧ zeroRecipe.cellCurrent = 1 ∧ zeroRecipe.wb = 1 ∧ zeroRecipe.wi = 0 ∧ zeroRecipe.thermalWarn = 60
      ∧ zeroRecipe.thermalShutdown = 70 ∧ zeroRecipe.contactShortMin = 1 ∧ zeroRecipe.keyWait = 0 := by decide +kernel

/-- 11.7: the dependent clamps. -/
theorem test_dependent_clamps :
    let r := { rawRecipe [] with
      wb := 4, wi := 4, budget := 1500, cellCurrent := 80, thermalWarn := 200, thermalShutdown := 150, contactOpenMax := 1023,
      contactShortMin := 1000 }
    r.clamped.wi = 3 ∧ r.clamped.budget = 1000 ∧ r.clamped.cellCurrent = 60 ∧ r.clamped.thermalWarn = 150
      ∧ r.clamped.thermalShutdown = 160 ∧ r.clamped.contactOpenMax = 1022 ∧ r.clamped.contactShortMin = 1023 := by decide +kernel

/-- 2.2 and 12.5: thresholds of the reference windows 180/860, 200/840 and 170/900 with wi 2 and wb 5. -/
theorem test_thresholds :
    ((takeRefs recipe₁ 180 860).tI = 350 ∧ (takeRefs recipe₁ 180 860).tB = 605)
      ∧ ((takeRefs recipe₁ 200 840).tI = 360 ∧ (takeRefs recipe₁ 200 840).tB = 600)
      ∧ ((takeRefs recipe₁ 170 900).tI = 352 ∧ (takeRefs recipe₁ 170 900).tB = 626) := by decide +kernel

/-- 2.1: the window check table of R18. -/
theorem test_window_check :
    windowPasses 64 300 364 = true ∧ windowPasses 64 300 363 = false ∧ windowPasses 16 700 650 = false
      ∧ windowPasses 16 1023 1023 = false := by decide +kernel

/-- 2.5: widths in ticks of W0 7, E 3 (12.4) and of the rows of R27's table. -/
theorem test_pulse_ticks :
    [0, 1, 2].map (pulseTicks recipe₁) = [28, 39, 49]
      ∧ [0, 1, 2, 7].map (pulseTicks { recipe₁ with baseWidth := 50, escalation := 16 }) = [200, 600, 800, 800]
      ∧ pulseTicks { recipe₁ with baseWidth := 1, escalation := 1 } 1 = 5 := by decide +kernel

/-- R14: pair readback. -/
theorem test_pair_readback :
    pairRead .blown .marginal = .degraded ∧ pairRead .intact .blown = .degraded ∧ pairRead .blown .blown = .full
      ∧ pairRead .intact .intact = .clear ∧ pairRead .intact .marginal = .unresolved := by decide

/-- R64: the effective burst size with the warning live. -/
theorem test_effective_size : [1, 2, 3, 4, 5, 6, 7, 8].map (fun s => effectiveSize s true) = [1, 1, 2, 2, 3, 3, 4, 4] := by decide

/-- R158: map entry of die (0, 0) and the corners of the map. -/
theorem test_map_index : mapIndex 0 0 = 64 * 128 + 64 ∧ mapIndex (-64) (-64) = 0 ∧ mapIndex 63 63 = 16383 ∧ onMap 64 0 = false := by
  decide

/-- 12.7, R129: after last granted 15 the pass begins at site 0; after 2 at site 3 (12.3). -/
theorem test_pass_order : (passOrder 15).head? = some 0 ∧ (passOrder 2).take 3 = [3, 4, 5] ∧ (passOrder 2).getLast? = some 2 := by
  decide +kernel

/-! ### One step of each command -/

theorem test_power_on_reset_ident : goes (exec .powerOnReset run₀) (fun t => t.readRegister 0 == 0x4E160110 && t.readWord 5 == 1) = true := by
  decide +kernel
theorem test_initialisation_end : goes (exec .initialisationEnd State.reset) (fun t => t.recorded .resetDone && !t.attentionLine) = true := by
  decide +kernel
theorem test_run_set : goes (exec (.runSet 1) open₀) (fun t => t.readRegister 1 == 1) = true := by decide +kernel
theorem test_run_clear_waits_for_the_pulse : goes (exec (.runClear 0) { pulse₀ with sched := Scheduler.reset })
    (fun t => t.supply.offPending && t.supply.pump == .ready && t.run == false) = true := by decide +kernel
theorem test_soft_reset : goes (exec (.softReset 2) run₀) (fun t => t.frameState 0 == .done && t.readRegister 1 == 2) = true := by
  decide +kernel
theorem test_soft_reset_completion : goes (exec .softResetCompletion { open₀ with softReset := true, attn := 5 })
    (fun t => t.readRegister 2 == 0x400 && t.readRegister 1 == 0) = true := by decide +kernel
/-- R176: the masks read 0 at the completion, also after a reading taken while the reset ran. -/
theorem test_soft_reset_completion_clears_masks :
    goes (exec .softResetCompletion ({ open₀ with softReset := true }.onEverySite fun y =>
        { y with monitor := { y.monitor with temperature := some 200, warnLive := true, shutLatch := true } }))
      (fun t => t.readByte 0x1E == 0 && t.readByte 0x20 == 0) = true := by decide +kernel
theorem test_attn_write : goes (exec (.attnWrite 4) { open₀ with attn := 6 }) (fun t => t.readRegister 2 == 2) = true := by decide +kernel
theorem test_attn_en_write : goes (exec (.attnEnWrite 0xFFF) { open₀ with attn := 2 })
    (fun t => t.readRegister 3 == 0x7FF && t.attentionLine) = true := by decide +kernel
theorem test_register_write_other : goes (exec (.registerWriteOther 0 7) open₀) (fun t => t == open₀) = true := by decide +kernel
/-- R137: check 1 comes before check 3. -/
theorem test_post_without_wafer : goes (exec (.post 2 1) open₀)
    (fun t => t.frameState 2 == .rejected && Memory.read t.mem (frameBase 2 + 0x13) == 1 && t.recorded .frameEnded) = true := by
  decide +kernel
theorem test_release : goes (exec (.release 1 1) (open₀.setFrame 1 .done)) (fun t => t.readByte 0x1000 == 0) = true := by decide +kernel
theorem test_soft_stop_keeps_pulsed_site : goes (exec (.softStop 0 1) (keyed₀ (site₀ .burnWait run₀)))
    (fun t => (t.site 0).seq.state == .burnWait && Memory.read t.mem 0x804 == 1) = true := by decide +kernel
theorem test_hard_stop_ends_burn_wait : goes (exec (.hardStop 0 1) (keyed₀ (site₀ .burnWait run₀)))
    (fun t => (t.site 0).seq.outcome == some .aborted && t.slotState 5 == .voided && Memory.read t.mem 0x804 == 2) = true := by
  decide +kernel
theorem test_load_of_zero_key : goes (exec (.load 3 1) (open₀.store 0x40C8 [1]))
    (fun t => t.slotState 3 == .refused && Memory.read t.mem 0x40C4 == 1) = true := by decide +kernel
theorem test_load_accepted : goes (exec (.load 3 1) ((open₀.store 0x40C8 [1]).store 0x40E0 [9]))
    (fun t => t.slotState 3 == .loaded && t.pool.highMark == 1 && t.pool.loadedCount == 1) = true := by decide +kernel
theorem test_reclaim : goes (exec (.reclaim 3 1) ((open₀.setSlot 3 .refused).store 0x40E0 [9]))
    (fun t => t.slotState 3 == .empty && Memory.read t.mem 0x40E0 == 0) = true := by decide +kernel
theorem test_withdraw_crosses_watermark : goes
    (exec (.withdraw 3 1) ((open₀.setSlot 3 .loaded).onPool fun p => { p with loadedCount := 1, watermark := 1 }))
    (fun t => t.recorded .poolLow && t.pool.loadedCount == 0) = true := by decide +kernel
theorem test_open_refused : goes (exec (.openWafer 1) open₀) (fun t => t.wafer == .closed && t.recorded .waferRefused) = true := by
  decide +kernel
theorem test_open_accepted : goes (exec (.openWafer 1) (open₀.store 0x108 [7])) (fun t => t.wafer == .opened && t.readByte 0x100 == 1) = true := by
  decide +kernel
theorem test_close_waits : goes (exec (.closeWafer 1) run₀) (fun t => t.wafer == .closing && t.readByte 0x104 == 1) = true := by
  decide +kernel
theorem test_watched_word_without_request : goes (exec (.watchedWordNoRequest 0x1000 15 9) open₀) (fun t => t == open₀) = true := by
  decide +kernel
theorem test_data_word_lanes : goes (exec (.dataWordWrite 0x80 2 0xAABBCCDD) open₀)
    (fun t => Memory.read t.mem 0x201 == 0xCC && Memory.read t.mem 0x200 == 0) = true := by decide +kernel
theorem test_header_write_is_dropped : goes (exec (.dataWordWrite 4 15 1) open₀)
    (fun t => t.droppedWrites == 1 && t.recorded .writeDropped) = true := by decide +kernel
theorem test_frame_start_skips_disabled_sites :
    goes (exec .frameStart { (run₀.setFrame 0 .queued).store 0x810 [1] with
        sched := { run₀.sched with running := none, postList := [0], frames := put (Vector.replicate 4 .free) 0 .queued } })
      (fun t => (t.site 0).seq.state == .contact && (t.site 1).seq.skip == .notEnabled && (t.site 1).seq.state == .ended) = true := by
  decide +kernel
theorem test_hand_back : goes (exec .handBack { run₀ with sched := { run₀.sched with ended := Vector.replicate 16 true } })
    (fun t => t.frameState 0 == .done && Memory.read t.mem 0x812 == 1 && t.framesRun == 1) = true := by decide +kernel
theorem test_close_completion_elsewhere : goes (exec .closeCompletion run₀) (fun t => t == run₀) = true := by decide +kernel
theorem test_contact_sample_good : goes (exec (.contactSample 0 1) ((site₀ .contact run₀).issueOp 0 .contactSample))
    (fun t => (t.site 0).seq.state == .refer && t.opOf 0 == some .referenceRead) = true := by decide +kernel
theorem test_contact_timer_expiry : goes
    (exec (.contactTimerExpiry 0) ((site₀ .contact run₀).onSeq 0 fun q => { q with contactTimer := some 1000, lastSample := 2 }))
    (fun t => (t.site 0).seq.outcome == some .padShort && t.mapCode 0 0 == 5) = true := by decide +kernel
theorem test_reference_read : goes (exec (.referenceReadCompletion 0 180 860) ((site₀ .refer (runWith recipe₁)).issueOp 0 .referenceRead))
    (fun t => (t.site 0).seq.refs == refs₀ && (t.site 0).seq.state == .blank) = true := by decide +kernel
theorem test_read_a : goes (exec (.readACompletion 0 low) ((site₀ .blank run₀).issueOp 0 (.rowRead 3 .nominal)))
    (fun t => t.opOf 0 == some (.rowRead 3 .margin)) = true := by decide +kernel
theorem test_verify_disturb : goes (exec (.verifyCompletion 0 high) (reading₀ 0 low (keyed₀ (site₀ .verify run₀))))
    (fun t => (t.site 0).seq.outcome == some .burnFail && t.slotState 5 == .voided) = true := by decide +kernel
theorem test_key_wait_expiry : goes (exec (.keyWaitExpiry 0) ((site₀ .keywait run₀).onSeq 0 fun q => { q with keyTimer := some 50 }))
    (fun t => (t.site 0).seq.outcome == some .keyStarved && Memory.read t.mem 0xE040 == 5) = true := by decide +kernel
theorem test_key_draw : goes (exec .keyDraw (((site₀ .keywait run₀).setSlot 5 .loaded).onPool fun p =>
      { p with waiting := put p.waiting 0 (some .bits128), loadedCount := 1, cursor := 4 }))
    (fun t => t.slotState 5 == .drawn && t.pool.cursor == 6 && (t.site 0).seq.key.isSome && t.supply.pump == .ramp) = true := by
  decide +kernel
/-- 12 line 135: a key grant with the pump READY leaves the burst request waiting; the pulse is the step BUDGET_GRANT. -/
theorem test_key_grant_leaves_the_request_waiting : goes (exec .keyDraw { ((site₀ .keywait run₀).setSlot 5 .loaded).onPool fun p =>
      { p with waiting := put p.waiting 0 (some .bits128), loadedCount := 1, cursor := 4 } with supply := pulse₀.supply })
    (fun t => (t.site 0).seq.state == .burnWait && !(t.site 0).seq.pulsed && (look t.arbiter.requests 0).isSome) = true := by
  decide +kernel
/-- 12.6: a HARD stop between the key grant and the first pulse returns the key. -/
theorem test_hard_stop_returns_an_unpulsed_key : goes (exec (.hardStop 0 1)
      { (keyed₀ (site₀ .burnWait run₀)).onSeq 0 (fun q => { q with pulsed := false }) with
        supply := pulse₀.supply, arbiter := { Arbiter.reset with requests := put (Vector.replicate 16 none) 0 (some 8) } })
    (fun t => (t.site 0).seq.outcome == some .aborted && t.slotState 5 == .loaded && look t.arbiter.requests 0 == none) = true := by
  decide +kernel
/-- 12.3, T = 29: a request of 8 cells with 108 mA in use is chopped to 4 cells. -/
theorem test_budget_grant_chops : goes (exec .budgetGrant { pulse₀ with
      arbiter := { pulse₀.arbiter with requests := put (Vector.replicate 16 none) 1 (some 8), inUse := 108 } })
    (fun t => look t.arbiter.grants 1 == some 4 && t.arbiter.inUse == 156 && (t.site 1).seq.chopApplied) = true := by decide +kernel
theorem test_pulse_completion_leads_to_verify : goes (exec (.pulseCompletion 0 96) pulse₀)
    (fun t => (t.site 0).seq.state == .verify && t.arbiter.inUse == 0 && t.supply.idleTimer == some 2000) = true := by decide +kernel
theorem test_pulse_completion_open : goes (exec (.pulseCompletion 0 23) pulse₀)
    (fun t => (t.site 0).seq.outcome == some .contactLost && t.slotState 5 == .voided) = true := by decide +kernel
theorem test_overcurrent_event : goes (exec (.overcurrentEvent 0 193) pulse₀)
    (fun t => (t.site 0).seq.outcome == some .overcurrent && Memory.read t.mem 0xC11 == 8) = true := by decide +kernel
theorem test_thermal_reading_in_the_band : goes (exec (.thermalReading 0 145) (run₀.onMonitor 0 fun m => { m with warnLive := true }))
    (fun t => (t.site 0).monitor.warnLive && (t.site 0).monitor.temperature == some 145) = true := by decide +kernel
theorem test_settle_timer_expiry : goes (exec .settleTimerExpiry { pulse₀ with
      supply := { pulse₀.supply with pump := .ramp, settleTimer := some 200 } }) (fun t => t.supply.pump == .ready) = true := by
  decide +kernel
theorem test_wake_timer_expiry : goes (exec .wakeTimerExpiry { pulse₀ with
      supply := { pulse₀.supply with pump := .wake, wakeTimer := some 10 } }) (fun t => t.supply.pump == .ready) = true := by decide +kernel
theorem test_idle_timer_expiry : goes (exec .idleTimerExpiry { pulse₀ with supply := { pulse₀.supply with idleTimer := some 2000 } })
    (fun t => t.supply.pump == .idleLow && t.supply.idleKind == .fast) = true := by decide +kernel
theorem test_undervoltage : goes (exec .undervoltageEvent pulse₀)
    (fun t => t.supply.pump == .hold && t.supply.holdTimer == some 5000 && (t.site 0).monitor.holdTouched && t.supply.holdCount == 1) = true := by
  decide +kernel
theorem test_supply_good : goes (exec .supplyGoodEvent { run₀ with supply := { Supply.reset with pump := .hold, holdTimer := some 5000 } })
    (fun t => t.supply.pump == .ramp && t.supply.holdTimer == none) = true := by decide +kernel
theorem test_hold_expiry : goes (exec .holdExpiry { keyed₀ (site₀ .burnWait run₀) with
      supply := { Supply.reset with pump := .hold, holdTimer := some 5000 } })
    (fun t => (t.site 0).seq.outcome == some .supplyLost && t.supply.pump == .off && t.recorded .supplyLost) = true := by decide +kernel
theorem test_off_pending : goes (exec .offPendingCompletion { run₀ with supply := { Supply.reset with pump := .ready, offPending := true } })
    (fun t => t.supply.pump == .off && !t.supply.offPending) = true := by decide +kernel
theorem test_dropped_watched_word : goes (exec (.droppedWatchedWordWrite 0x40 1 0) run₀) (fun t => t.droppedWrites == 1) = true := by
  decide +kernel

/-! ### Witnesses: states and operands that meet the hypotheses of the statements

Each theorem is named after its statement and shows the premises of each clause met together. -/

/-- A frame waits: frame 1 QUEUED behind the running frame 0. -/
def queued₀ : State :=
  { run₀ with sched := { run₀.sched with
      frames := put run₀.sched.frames 1 .queued, postList := [1], recipes := put run₀.sched.recipes 1 (some zeroRecipe) } }

/-- Frame 0 is at the head of the post list, site 0 alone enabled, RUN 1. -/
def due₀ : State :=
  { run₀.store 0x810 [1] with sched := { run₀.sched with
      running := none, postList := [0], frames := put (Vector.replicate 4 .free) 0 .queued } }

/-- Frame 3 with one site enabled may be posted. -/
def postable₀ : State := run₀.store 0x2010 [1]

/-- A row verified with every cell INTACT. -/
def intactRow : RowVerify := verifyRow refs₀ low low

/-- A row verified with every cell BLOWN. -/
def blownRow : RowVerify := verifyRow refs₀ high high

theorem verify_is_judged (a b : LaneCodes) : (verifyRow refs₀ a b).JudgedFrom refs₀ a b := by
  intro c
  simp [verifyRow, classOf]

theorem reading_verifies (row : Row) (a b : LaneCodes) (s : State) : (reading₀ row a s).Verifying 0 row b (verifyRow refs₀ a b) := by
  refine ⟨by simp [reading₀, State.issueOp, State.onPort, State.onSite, State.onSeq, State.opOf, State.site], a, ?_, ?_⟩
  · simp [reading₀, State.issueOp, State.onPort, State.onSite, State.onSeq, State.site]
  · have h : ((reading₀ row a s).site 0).seq.refs = refs₀ := by
      simp [reading₀, State.issueOp, State.onPort, State.onSite, State.onSeq, State.site]
    rw [h]
    exact verify_is_judged a b

/-- Site 0 burns its field: BURN phase, row verified by read B in flight. -/
def burning₀ (x : SiteState) (row : Row) (a : LaneCodes) : State := reading₀ row a (keyed₀ (site₀ x (runWith recipe₁)))

/-- Every row of site 0 reads what the plan burned. -/
def burned₀ : Vector (Option RowVerify) 19 :=
  Vector.ofFn fun r => some (verifyRow refs₀ (Vector.ofFn fun c => if hasCol (planImage plan₀ r) c then 700 else 200)
    (Vector.ofFn fun c => if hasCol (planImage plan₀ r) c then 700 else 200))

/-- Codes of row r of a burned field. -/
def rowCodes (r : Row) : LaneCodes := Vector.ofFn fun c => if hasCol (planImage plan₀ r) c then 700 else 200

theorem witness_StepRunsFrontCommand :
    { run₀ with pending := [.keyDraw] }.pending = .keyDraw :: [] ∧ run₀.pending = [] := ⟨rfl, rfl⟩

/-- A state rich enough for every invariant: site 0 pulses with the key of slot 5, slot 6 LOADED with a key that begins with 09h, frame 1
queued. -/
def rich₀ : State :=
  { pulse₀ with
    mem := [(0x41A0, 9)]
    sched := { queued₀.sched with recipes := put (put (Vector.replicate 4 none) 0 (some recipe₁)) 1 (some zeroRecipe) }
    pool := { Pool.reset with slots := put (put (Vector.replicate 256 .empty) 5 .drawn) 6 .loaded, loadedCount := 1, redraw := [6] }
    pending := [.offPendingCompletion] }

theorem witness_StepKeepsMemoryCanonical : rich₀.MemoryCanonical ∧ step rich₀ = .next { rich₀ with pending := [] } := by
  refine ⟨?_, rfl⟩
  unfold State.MemoryCanonical
  decide +kernel

theorem witness_StepKeepsFramesCoherent : rich₀.FramesCoherent := by
  unfold State.FramesCoherent
  decide +kernel

theorem rich_keys (k : SiteNo) : (rich₀.site k).seq.key = if k = 0 then some key₀ else none := by
  revert k
  decide +kernel

theorem witness_StepKeepsPoolCoherent : rich₀.PoolCoherent := by
  refine ⟨by decide +kernel, by decide +kernel, by decide +kernel, ?_, ?_, by decide +kernel⟩
  · intro k h hk
    rw [rich_keys] at hk
    split at hk
    · cases hk
      decide +kernel
    · cases hk
  · intro j k h h' hjk hj hk
    rw [rich_keys] at hj hk
    split at hj
    · split at hk
      · exact absurd (by simp_all) hjk
      · cases hk
    · cases hj

theorem rich_keys_nonzero : rich₀.KeysNonzero := by
  refine ⟨by decide +kernel, ?_⟩
  intro k h hk
  rw [rich_keys] at hk
  split at hk
  · cases hk
    exact ⟨0, by decide, 0xA5, rfl, by decide⟩
  · cases hk

theorem witness_StepKeepsDrawnSlotsWiped :
    (rich₀.DrawnWiped ∧ rich₀.slotState 5 = .drawn) ∧ rich₀.PoolCoherent ∧ rich₀.KeysNonzero ∧ rich₀.slotState 6 = .loaded := by
  refine ⟨?_, witness_StepKeepsPoolCoherent, rich_keys_nonzero, by decide +kernel⟩
  unfold State.DrawnWiped
  decide +kernel

theorem recipes_in_range : recipe₁.InRange ∧ zeroRecipe.InRange := by
  unfold Recipe.InRange
  refine ⟨?_, ?_⟩ <;> and_intros <;> decide +kernel

theorem rich_recipes (f : FrameNo) :
    look rich₀.sched.recipes f = if f = 0 then some recipe₁ else if f = 1 then some zeroRecipe else none := by
  revert f
  decide +kernel

theorem witness_StepKeepsRecipesAndMonitorsInRange : rich₀.RecipesInRange ∧ rich₀.MonitorsOrdered := by
  constructor
  · intro f r h
    rw [rich_recipes] at h
    split at h
    · cases h
      exact recipes_in_range.1
    · split at h
      · cases h
        exact recipes_in_range.2
      · cases h
  · unfold State.MonitorsOrdered
    decide +kernel

/-- Site 1 of the full state refers, with its REFERENCE READ in flight (R61). -/
def referring₀ : State := (rich₀.onSeq 1 fun q => { q with state := .refer }).issueOp 1 .referenceRead

/-- The full state after its frame has taken a HARD stop: site 0 waits for the end of its pulse (R55). -/
def hardened₀ : State :=
  { rich₀.onSeq 0 fun q => { q with stopTaken := .hard } with sched := { rich₀.sched with stop := .hard } }

theorem hardened_budget : hardened₀.BudgetCoherent := by
  unfold State.BudgetCoherent
  decide +kernel

theorem hardened_stops : hardened₀.StopsCoherent := by
  unfold State.StopsCoherent
  decide +kernel

theorem witness_StepKeepsBudget :
    (rich₀.BudgetCoherent ∧ rich₀.arbiter.inUse = 96) ∧ (referring₀.BudgetCoherent ∧ referring₀.opOf 1 = some .referenceRead)
      ∧ ((rich₀.issueOp 1 .referenceRead).BudgetCoherent ∧ (rich₀.site 1).seq.state.isRunning = false)
      ∧ (hardened₀.BudgetCoherent ∧ hardened₀.StopsCoherent ∧ (hardened₀.site 0).seq.stopTaken = .hard) := by
  refine ⟨⟨?_, by decide +kernel⟩, ⟨?_, by decide +kernel⟩, ⟨?_, by decide +kernel⟩, hardened_budget, hardened_stops, by decide +kernel⟩ <;>
    unfold State.BudgetCoherent <;> decide +kernel

theorem witness_CausesStayAndTheHighMarkNeverFall : exec .keyDraw { open₀ with attn := 3 } = .next { open₀ with attn := 3 } :=
  rfl

theorem witness_PartNeverWritesTheRecipeRecord :
    exec .keyDraw (open₀.store 0x5FF [1]) = .next (open₀.store 0x5FF [1]) ∧ (open₀.store 0x5FF [1]).readByte 0x5FF = 1 :=
  ⟨rfl, by decide +kernel⟩

theorem witness_PowerOnResetGivesTheResetValues : State.reset.initialising = true ∧ open₀.initialising = false := ⟨rfl, rfl⟩

theorem witness_WritesAreDiscardedDuringResets :
    (Instr.load 0 1).isMemoryWrite = true ∧ (Instr.runSet 1).isRunCtrlWrite = true ∧ State.reset.initialising = true
      ∧ { open₀ with softReset := true }.softReset = true := ⟨rfl, rfl, rfl, rfl⟩

theorem witness_AttnWriteClearsAndOtherWordsDoNothing :
    open₀.initialising = false ∧ (0 : WordNo) ≠ 1 ∧ (4 : WordNo) ≠ 3 ∧ (0x3FFF : WordNo) ≠ 2 := by decide

theorem witness_AttentionLineFollowsBothRegisters :
    open₀.initialising = false ∧ exec (.softReset 2) { open₀ with attnEn := 5 } ≠ .next open₀
      ∧ { open₀ with attn := 1, attnEn := 1 }.attentionLine = true := by
  refine ⟨rfl, ?_, by decide +kernel⟩
  intro h
  have : goes (exec (.softReset 2) { open₀ with attnEn := 5 }) (fun t => t.attnEn == 5) = true := by decide +kernel
  rw [h] at this
  revert this
  decide +kernel

theorem witness_RunBitWithNoFrameToStartOrStop :
    let w : State := { open₀ with arbiter := { Arbiter.reset with requests := put (Vector.replicate 16 none) 0 (some 1) } }
    ((1 : Word).getLsbD 1 = false ∧ (1 : Word).getLsbD 0 = true ∧ open₀.run = false ∧ open₀.sched.postList = []
        ∧ (run₀.sched.running ≠ none ∧ ∃ j, look run₀.sched.ended j = false))
      ∧ (w.supply.pump = .off ∧ w.supply.offPending = false ∧ ∃ k, look w.arbiter.requests k ≠ none)
      ∧ ((0 : Word).getLsbD 0 = false ∧ { open₀ with run := true }.supply.pump = .off)
      ∧ ({ pulse₀ with sched := Scheduler.reset }.supply.pump ≠ .off ∧ { pulse₀ with sched := Scheduler.reset }.arbiter.inUse ≠ 0)
      ∧ ({ pulse₀ with sched := Scheduler.reset, arbiter := .reset }.arbiter.inUse = 0) := by decide +kernel

/-- A second key, of slot 7. -/
def key₁ : KeyHeld := { slot := 7, serial := 502, buffer := bytes₀ }

/-- The dry pool: site 0 in BLANK with a read in flight, site 1 in CONTACT, site 2 waits in KEYWAIT, sites 3 and 4 wait in BURN_WAIT with
keys, a pulse has been issued with site 4's, and no slot is LOADED. -/
def stopping₀ : State :=
  let s := ((site₀ .blank run₀).onSeq 1 fun q => { q with state := .contact }).onSeq 2 fun q => { q with state := .keywait }
  let s := (s.onSeq 3 fun q => { q with state := .burnWait, key := some key₀ }).onSeq 4 fun q =>
    { q with state := .burnWait, key := some key₁, pulsed := true }
  { (s.setSlot 5 .drawn).setSlot 7 .drawn with
    pool := { Pool.reset with
      slots := put (put (Vector.replicate 256 .empty) 5 .drawn) 7 .drawn, waiting := put (Vector.replicate 16 none) 2 (some .bits128) }
    arbiter := { Arbiter.reset with requests := put (put (Vector.replicate 16 none) 3 (some 8)) 4 (some 2) } }

theorem stopping_keys (k : SiteNo) :
    (stopping₀.site k).seq.key = if k = 3 then some key₀ else if k = 4 then some key₁ else none := by
  revert k
  decide +kernel

theorem stopping_pool : stopping₀.PoolCoherent := by
  refine ⟨by decide +kernel, by decide +kernel, by decide +kernel, ?_, ?_, by decide +kernel⟩
  · intro k h hk
    rw [stopping_keys] at hk
    split at hk
    · cases hk
      decide +kernel
    · split at hk
      · cases hk
        decide +kernel
      · cases hk
  · intro j k h h' hjk hj hk
    rw [stopping_keys] at hj hk
    by_cases j3 : j = 3 <;> by_cases k3 : k = 3 <;> by_cases j4 : j = 4 <;> by_cases k4 : k = 4 <;> simp_all
    · rw [← hj, ← hk]
      decide
    · rw [← hj, ← hk]
      decide

theorem stopping_keys_nonzero : stopping₀.KeysNonzero := by
  refine ⟨by decide +kernel, ?_⟩
  intro k h hk
  rw [stopping_keys] at hk
  split at hk
  · cases hk
    exact ⟨0, by decide, 0xA5, rfl, by decide⟩
  · split at hk
    · cases hk
      exact ⟨0, by decide, 0xA5, rfl, by decide⟩
    · cases hk

theorem stopping_budget : stopping₀.BudgetCoherent := by
  unfold State.BudgetCoherent
  decide +kernel

theorem stopping_stops : stopping₀.StopsCoherent := by
  unfold State.StopsCoherent
  decide +kernel

/-- Site 0 is in CONTACT, and every other site of the running frame has ended. -/
def leaving₀ : State :=
  { (run₀.onEverySite fun x => { x with seq := { x.seq with state := .ended } }).onSeq 0 fun q => { q with state := .contact } with
    sched := { run₀.sched with ended := Vector.ofFn fun k => k != 0 } }

theorem leaving_coherent : leaving₀.PoolCoherent ∧ leaving₀.KeysNonzero ∧ leaving₀.BudgetCoherent ∧ leaving₀.StopsCoherent := by
  have keyless (k : SiteNo) : (leaving₀.site k).seq.key = none := by
    revert k
    decide +kernel
  refine ⟨⟨by decide +kernel, by decide +kernel, by decide +kernel, ?_, ?_, by decide +kernel⟩, ⟨by decide +kernel, ?_⟩, ?_, ?_⟩
  · intro k h hk
    rw [keyless] at hk
    cases hk
  · intro j k h h' _ hj _
    rw [keyless] at hj
    cases hj
  · intro k h hk
    rw [keyless] at hk
    cases hk
  · unfold State.BudgetCoherent
    decide +kernel
  · unfold State.StopsCoherent
    decide +kernel

/-- R146: a SOFT stop that ends the last site hands the frame back in the same command, completion kind SOFT_STOPPED. -/
theorem test_soft_stop_hands_back : goes (exec (.softStop 0 1) leaving₀)
    (fun t => t.frameState 0 == .done && Memory.read t.mem 0x812 == 2 && Memory.read t.mem 0x804 == 1) = true := by decide +kernel

theorem witness_RunClearHardStopsTheFrame :
    let p : State := { stopping₀ with supply := { Supply.reset with pump := .ramp, settleTimer := some 200 } }
    (stopping₀.initialising = false ∧ stopping₀.softReset = false ∧ stopping₀.run = true ∧ stopping₀.sched.running = some 0
        ∧ stopping₀.PoolCoherent ∧ stopping₀.KeysNonzero ∧ stopping₀.BudgetCoherent ∧ stopping₀.StopsCoherent
        ∧ (stopping₀.site 0).seq.state.busy = true ∧ look stopping₀.sched.ended 0 = false ∧ stopping₀.supply.pump = .off)
      ∧ (p.PoolCoherent ∧ p.KeysNonzero ∧ p.BudgetCoherent ∧ p.StopsCoherent ∧ p.supply.pump ≠ .off ∧ p.arbiter.inUse = 0)
      ∧ (hardened₀.run = true ∧ hardened₀.sched.running = some 0 ∧ hardened₀.BudgetCoherent ∧ hardened₀.StopsCoherent
        ∧ (hardened₀.site 0).seq.stopTaken = .hard ∧ hardened₀.supply.pump = .ready ∧ hardened₀.arbiter.inUse ≠ 0)
      ∧ (leaving₀.run = true ∧ leaving₀.sched.running = some 0 ∧ leaving₀.PoolCoherent ∧ leaving₀.KeysNonzero
        ∧ leaving₀.BudgetCoherent ∧ leaving₀.StopsCoherent
        ∧ ∀ k, look leaving₀.sched.ended k = true
            ∨ ((leaving₀.site k).seq.state.isRunning = true ∧ (leaving₀.site k).seq.state.busy = false)) := by
  refine ⟨⟨by decide +kernel, by decide +kernel, by decide +kernel, by decide +kernel, stopping_pool, stopping_keys_nonzero,
    stopping_budget, stopping_stops, by decide +kernel, by decide +kernel, by decide +kernel⟩, ⟨stopping_pool, stopping_keys_nonzero,
    ?_, stopping_stops, by decide +kernel, by decide +kernel⟩, ⟨by decide +kernel, by decide +kernel, hardened_budget, hardened_stops,
    by decide +kernel, by decide +kernel, by decide +kernel⟩, by decide +kernel, by decide +kernel, leaving_coherent.1,
    leaving_coherent.2.1, leaving_coherent.2.2.1, leaving_coherent.2.2.2, by decide +kernel⟩
  unfold State.BudgetCoherent
  decide +kernel

theorem witness_SoftResetResetsEveryBlock :
    (rich₀.initialising = false ∧ rich₀.softReset = false ∧ (2 : Word).getLsbD 1 = true ∧ rich₀.FramesCoherent
        ∧ rich₀.sched.running = some 0 ∧ rich₀.frameState 1 = .queued)
      ∧ (open₀.initialising = false ∧ open₀.softReset = false ∧ open₀.FramesCoherent ∧ open₀.sched.running = none
        ∧ open₀.sched.postList = []) := by
  refine ⟨⟨by decide +kernel, by decide +kernel, by decide, witness_StepKeepsFramesCoherent, by decide +kernel, by decide +kernel⟩, ?_⟩
  unfold State.FramesCoherent
  decide +kernel

/-- Site 0 pulses with a key whose pulsed flag is clear. -/
def unpulsed₀ : State := rich₀.onSeq 0 fun q => { q with pulsed := false }

theorem unpulsed_keys (k : SiteNo) : (unpulsed₀.site k).seq.key = if k = 0 then some key₀ else none := by
  revert k
  decide +kernel

theorem unpulsed_pool : unpulsed₀.PoolCoherent := by
  refine ⟨by decide +kernel, by decide +kernel, by decide +kernel, ?_, ?_, by decide +kernel⟩
  · intro k h hk
    rw [unpulsed_keys] at hk
    split at hk
    · cases hk
      decide +kernel
    · cases hk
  · intro j k h h' hjk hj hk
    rw [unpulsed_keys] at hj hk
    split at hj
    · split at hk
      · exact absurd (by simp_all) hjk
      · cases hk
    · cases hj

theorem witness_SoftResetSettlesTheHeldKeys :
    (rich₀.initialising = false ∧ rich₀.softReset = false ∧ (2 : Word).getLsbD 1 = true ∧ rich₀.PoolCoherent
        ∧ (∀ k, (rich₀.site k).seq.key ≠ none → (rich₀.site k).seq.state.isRunning = true)
        ∧ (rich₀.site 0).seq.key = some key₀ ∧ (rich₀.site 0).seq.pulsed = true)
      ∧ (unpulsed₀.initialising = false ∧ unpulsed₀.softReset = false ∧ unpulsed₀.PoolCoherent
        ∧ (∀ k, (unpulsed₀.site k).seq.key ≠ none → (unpulsed₀.site k).seq.state.isRunning = true)
        ∧ (unpulsed₀.site 0).seq.key = some key₀ ∧ (unpulsed₀.site 0).seq.pulsed = false)
      ∧ (rich₀.sched.running = some 0 ∧ (rich₀.site 0).seq.state.isRunning = true
        ∧ onMap (rich₀.site 0).seq.dieX (rich₀.site 0).seq.dieY = true
        ∧ (∀ j, j ≠ 0 → (rich₀.site j).seq.state.isRunning = true → rich₀.mapEntryOf j ≠ rich₀.mapEntryOf 0)
        ∧ (rich₀.site 15).seq.state.isRunning = false) :=
  ⟨⟨by decide +kernel, by decide +kernel, by decide, witness_StepKeepsPoolCoherent, by decide +kernel, by decide +kernel,
    by decide +kernel⟩, ⟨by decide +kernel, by decide +kernel, unpulsed_pool, by decide +kernel, by decide +kernel,
    by decide +kernel⟩, by decide +kernel⟩

theorem witness_SoftResetCompletionRaisesResetDone :
    let s : State := { open₀.onMonitor 3 (fun m => { m with temperature := some 190, warnLive := true, shutLatch := true }) with
      softReset := true }
    (s.softReset = true ∧ (∀ k, (s.site k).seq.state = .idle) ∧ s.sched.running = none ∧ s.sched.postList = []
        ∧ s.supply.pump = .off ∧ s.wafer ≠ .closing)
      ∧ { s with wafer := .closing }.wafer = .closing ∧ open₀.softReset = false ∧ run₀.sched.running ≠ none
      ∧ queued₀.sched.postList ≠ [] ∧ pulse₀.supply.pump ≠ .off ∧ (pulse₀.site 0).seq.state ≠ .idle := by decide +kernel

theorem witness_PostAcceptsTheFrame :
    postable₀.initialising = false ∧ postable₀.softReset = false ∧ postable₀.writtenValue (frameStateWord 3) 1 postedValue = 1
      ∧ (postable₀.frameState 3).partOwned = false ∧ postable₀.wafer = .opened ∧ postable₀.enableMask 3 ≠ 0
      ∧ (Memory.read postable₀.mem 0x200).toNat ≤ 1
      ∧ (¬∃ a b, a < b ∧ postable₀.enabled 3 a = true ∧ postable₀.enabled 3 b = true)
      ∧ (postable₀.sched.running ≠ none ∧ ∃ j, look postable₀.sched.ended j = false) := by decide +kernel

theorem witness_PostRejectsWithTheFirstReason :
    let code (s : State) : Nat := if s.wafer = .closed then 1 else if s.wafer = .closing then 2 else if s.enableMask 3 = 0 then 3
      else if 1 < (Memory.read s.mem 0x200).toNat then 4 else 5
    let two := run₀.store 0x2010 [3]
    (code open₀ = 1 ∧ open₀.sched.running = none) ∧ code { run₀ with wafer := .closing } = 2 ∧ code run₀ = 3
      ∧ code (postable₀.store 0x200 [2]) = 4
      ∧ (code two = 5 ∧ ∃ a b, a < b ∧ two.enabled 3 a = true ∧ two.enabled 3 b = true
          ∧ two.dieX 3 (rawRecipe two.mem).clamped a = two.dieX 3 (rawRecipe two.mem).clamped b
          ∧ two.dieY 3 (rawRecipe two.mem).clamped a = two.dieY 3 (rawRecipe two.mem).clamped b)
      ∧ two.writtenValue (frameStateWord 3) 1 postedValue = 1 ∧ ∃ j, look two.sched.ended j = false := by decide +kernel

theorem witness_PostAndRunSetStartTheHead :
    ({ open₀ with run := true }.run = true ∧ { open₀ with run := true }.sched.running = none
        ∧ { open₀ with run := true }.sched.postList = [])
      ∧ ({ due₀ with run := false }.initialising = false ∧ { due₀ with run := false }.softReset = false
        ∧ { due₀ with run := false }.sched.running = none ∧ { due₀ with run := false }.sched.postList = [0]
        ∧ ∀ k, look { due₀ with run := false }.arbiter.requests k = none) := by decide +kernel

theorem witness_ReleaseFreesTheFrame :
    (open₀.setFrame 1 .rejected).writtenValue (frameStateWord 1) 1 freeValue = 0
      ∧ ((open₀.setFrame 1 .rejected).frameState 1).partOwned = false
      ∧ run₀.writtenValue (frameStateWord 0) 15 freeValue = 0 ∧ (run₀.frameState 0).partOwned = true := by decide +kernel

theorem witness_StopRequestCancelsAQueuedFrame :
    let c : State := { due₀ with wafer := .closing }
    (queued₀.initialising = false ∧ queued₀.softReset = false ∧ queued₀.writtenValue (frameStopWord 1) 1 1 = 1
        ∧ queued₀.writtenValue (frameStopWord 1) 15 2 = 2 ∧ queued₀.frameState 1 = .queued
        ∧ (∃ j, look queued₀.sched.ended j = false) ∧ queued₀.wafer ≠ .closing)
      ∧ (c.initialising = false ∧ c.softReset = false ∧ c.writtenValue (frameStopWord 0) 1 1 = 1
        ∧ c.writtenValue (frameStopWord 0) 15 2 = 2 ∧ c.frameState 0 = .queued ∧ c.wafer = .closing ∧ c.sched.running = none
        ∧ ∀ g ∈ c.sched.postList, g = 0) := by decide +kernel

theorem witness_StopRequestsStopTheRunningFrame :
    (stopping₀.initialising = false ∧ stopping₀.softReset = false ∧ stopping₀.sched.running = some 0
        ∧ stopping₀.frameState 0 = .running ∧ stopping₀.PoolCoherent ∧ stopping₀.KeysNonzero ∧ stopping₀.BudgetCoherent
        ∧ stopping₀.StopsCoherent ∧ stopping₀.writtenValue (frameStopWord 0) 1 softValue = 1 ∧ stopping₀.sched.stop = .none
        ∧ stopping₀.writtenValue (frameStopWord 0) 1 hardValue = 2 ∧ (stopping₀.site 0).seq.state.busy = true
        ∧ look stopping₀.sched.ended 0 = false ∧ look stopping₀.pool.waiting 2 ≠ none
        ∧ (stopping₀.site 4).seq.pulsed = true ∧ (stopping₀.site 4).seq.key ≠ none)
      ∧ (leaving₀.sched.running = some 0 ∧ leaving₀.frameState 0 = .running ∧ leaving₀.PoolCoherent ∧ leaving₀.KeysNonzero
        ∧ leaving₀.BudgetCoherent ∧ leaving₀.StopsCoherent ∧ leaving₀.writtenValue (frameStopWord 0) 1 softValue = 1
        ∧ leaving₀.writtenValue (frameStopWord 0) 1 hardValue = 2 ∧ leaving₀.sched.stop = .none ∧ 0 ∉ leaving₀.sched.postList
        ∧ ∀ k, look leaving₀.sched.ended k = true
            ∨ ((leaving₀.site k).seq.state.isRunning = true ∧ (leaving₀.site k).seq.state.busy = false
              ∧ ((leaving₀.site k).seq.pulsed = false ∨ (leaving₀.site k).seq.key = none))) :=
  ⟨⟨by decide +kernel, by decide +kernel, by decide +kernel, by decide +kernel, stopping_pool, stopping_keys_nonzero, stopping_budget,
    stopping_stops, by decide +kernel⟩, by decide +kernel, by decide +kernel, leaving_coherent.1, leaving_coherent.2.1,
    leaving_coherent.2.2.1, leaving_coherent.2.2.2, by decide +kernel⟩

theorem witness_StopWritesThatStopNothing :
    let s := run₀.setStop 0 .soft
    let h := run₀.setStop 0 .hard
    (s.writtenValue (frameStopWord 0) 1 1 = 1 ∧ s.frameState 0 = .stopping ∧ s.sched.stop ≠ .none ∧ ∃ j, look s.sched.ended j = false)
      ∧ (h.writtenValue (frameStopWord 0) 1 2 = 2 ∧ h.frameState 0 = .stopping ∧ h.sched.stop ≠ .none ∧ h.sched.stop ≠ .soft)
      ∧ (s.frameState 2).partOwned = false := by decide +kernel

theorem witness_LoadJudgesTheSlot :
    let z := open₀.store 0x40C8 [1]
    let o := open₀.store 0x40E0 [9]
    let g := o.store 0x40C8 [1]
    let w := g.onPool fun p => { p with waiting := put p.waiting 9 (some .bits128) }
    (z.writtenValue (slotStateWord 3) 1 loadedValue = 1 ∧ (z.slotState 3).partOwned = false
        ∧ ∀ j < 16, Memory.read z.mem (slotBase 3 + 0x20 + j) = 0)
      ∧ (Memory.read o.mem (slotBase 3 + 0x20 + 0) ≠ 0 ∧ o.slotSerial 3 ≤ o.pool.highMark)
      ∧ (Memory.read g.mem (slotBase 3 + 0x20 + 0) ≠ 0 ∧ g.pool.highMark < g.slotSerial 3 ∧ ∀ k, look g.pool.waiting k = none)
      ∧ (look w.pool.waiting 9 ≠ none ∧ w.pool.redraw = [] ∧ (∀ j, w.slotState j ≠ .loaded) ∧ (w.slotState 3).partOwned = false
        ∧ w.writtenValue (slotStateWord 3) 1 loadedValue = 1 ∧ Memory.read w.mem (slotBase 3 + 0x20 + 0) ≠ 0
        ∧ w.pool.highMark < w.slotSerial 3) := by
  decide +kernel

theorem witness_ReclaimEmptiesTheSlot :
    (open₀.setSlot 255 .bound).writtenValue (slotStateWord 255) 1 emptyValue = 0 ∧ (open₀.setSlot 255 .bound).slotState 255 = .bound
      ∧ open₀.slotState 255 = .empty ∧ open₀.writtenValue (slotStateWord 255) 1 loadedValue = 1
      ∧ (goes (exec (.load 255 1) open₀) fun t => t.slotState 255 == .refused) = true := by decide +kernel

theorem witness_WithdrawTakesALoadedSlotBack :
    rich₀.writtenValue (slotStateWord 6) 1 withdrawValue = 6 ∧ rich₀.slotState 6 = .loaded ∧ 1 ≤ rich₀.pool.loadedCount := by
  decide +kernel

theorem witness_OpenJudgesTheWafer :
    open₀.wafer = .closed ∧ open₀.writtenValue waferStateWord 1 openValue = 1 ∧ open₀.waferId = 0
      ∧ (open₀.store 0x108 [7]).waferId ≠ 0 ∧ run₀.wafer ≠ .closed := by decide +kernel

theorem witness_CloseWaitsForTheFramesAndCountsTheMap :
    let idle : State := { open₀ with wafer := .opened }
    (run₀.writtenValue waferRequestWord 1 closeValue = 1 ∧ run₀.wafer ≠ .closed ∧ run₀.sched.running ≠ none)
      ∧ (open₀.writtenValue waferRequestWord 1 closeValue = 1 ∧ open₀.wafer = .closed)
      ∧ (idle.sched.running = none ∧ idle.sched.postList = [] ∧ idle.writtenValue waferRequestWord 1 closeValue = 1)
      ∧ ({ idle with wafer := .closing }.softReset = false ∧ { idle with wafer := .closing }.wafer = .closing) := by decide +kernel

theorem witness_WatchedWordsWithoutARequestStayAsTheyAre :
    (wordKind 0x200 = .frameState 0 ∧ (open₀.frameState 0).partOwned = false ∧ open₀.writtenValue 0x200 1 2 = 2)
      ∧ (wordKind 0x1FF0 = .slotState 255 ∧ open₀.slotState 255 = .empty ∧ open₀.writtenValue 0x1FF0 1 0 = 0)
      ∧ (wordKind 0x40 = .waferState ∧ open₀.wafer = .closed ∧ open₀.writtenValue 0x40 1 2 = 2)
      ∧ (wordKind 0x41 = .waferRequest ∧ run₀.writtenValue 0x41 1 2 = 2)
      ∧ (wordKind 0x201 = .frameStop 0 ∧ run₀.writtenValue 0x201 1 3 = 3 ∧ ∃ j, look run₀.sched.ended j = false) := by decide +kernel

theorem witness_WritesAreStoredOrDroppedByTheOwner :
    wordKind 0x180 = .unmapped
      ∧ (wordKind 0x17F = .recipe ∧ wordKind 0x9FF = .frameData 3 ∧ wordKind 0x1FFF = .slotData 255 ∧ wordKind 0x3FFF = .map
        ∧ open₀.wordPartOwned (wordKind 0x3FFF) = false)
      ∧ (wordKind 0 = .header ∧ open₀.wordPartOwned .header = true ∧ run₀.wordPartOwned (wordKind 0x3FFF) = true)
      ∧ (run₀.wordPartOwned (wordKind 0x40) = true ∧ run₀.wordPartOwned (wordKind 0x200) = true
        ∧ rich₀.wordPartOwned (wordKind 0x1050) = true ∧ rich₀.wordPartOwned (wordKind 0x1060) = true
        ∧ rich₀.writtenValue 0x1060 1 1 ≠ 6) := by decide +kernel

theorem witness_FrameStartHandsEachSiteItsDecision :
    let hot := (due₀.store 0x810 [3]).onMonitor 1 fun m => { m with temperature := some 70 }
    let skip := due₀.store 0x810 [0]
    let level : State := { due₀ with supply := { Supply.reset with pump := .ready, level := 3, idleTimer := some 1000 } }
    (due₀.run = true ∧ due₀.sched.running = none ∧ due₀.sched.postList = 0 :: [] ∧ look due₀.sched.recipes 0 = some zeroRecipe
        ∧ due₀.enabled 0 0 = true ∧ onMap (due₀.dieX 0 zeroRecipe 0) (due₀.dieY 0 zeroRecipe 0) = true
        ∧ due₀.mapCode (due₀.dieX 0 zeroRecipe 0) (due₀.dieY 0 zeroRecipe 0) = 0
        ∧ (due₀.site 0).monitor.temperature = none ∧ (due₀.site 0).monitor.shutLatch = false ∧ due₀.enabled 0 1 = false)
      ∧ (hot.sched.postList = [0] ∧ hot.enabled 0 1 = true ∧ onMap (hot.dieX 0 zeroRecipe 1) (hot.dieY 0 zeroRecipe 1) = true
        ∧ hot.mapCode (hot.dieX 0 zeroRecipe 1) (hot.dieY 0 zeroRecipe 1) = 0
        ∧ (hot.site 1).monitor.temperature = some 70 ∧ (zeroRecipe.thermalShutdown : Int) ≤ 70 ∧ (hot.site 1).seq.key = none
        ∧ (hot.site 1).seq.pulsed = false ∧ look hot.arbiter.requests 1 = none ∧ look hot.pool.waiting 1 = none)
      ∧ (skip.run = true ∧ skip.sched.running = none ∧ skip.sched.postList = [0] ∧ look skip.sched.recipes 0 = some zeroRecipe
        ∧ ∀ k, skip.enabled 0 k = false)
      ∧ due₀.supply.level = zeroRecipe.pumpLevel
      ∧ ¬(level.supply.level = zeroRecipe.pumpLevel ∨ level.supply.pump = .off ∨ level.supply.pump = .hold
        ∨ level.supply.offPending = true) := by decide +kernel

theorem witness_HandBackEndsTheFrame :
    let e : State := { run₀ with sched := { run₀.sched with ended := Vector.replicate 16 true } }
    let q : State := { queued₀ with sched := { queued₀.sched with ended := Vector.replicate 16 true } }
    (e.sched.running = some 0 ∧ (∀ k, look e.sched.ended k = true) ∧ e.sched.postList = [] ∧ e.wafer ≠ .closing)
      ∧ { e with wafer := .closing }.wafer = .closing
      ∧ (q.sched.running = some 0 ∧ (∀ k, look q.sched.ended k = true) ∧ q.sched.postList ≠ [] ∧ q.run = true)
      ∧ { q with run := false }.run = false
      ∧ (run₀.sched.running = some 0 ∧ ∃ k, look run₀.sched.ended k = false) := by decide +kernel

theorem witness_ContactSampleCountsTheGoodRun :
    let s := (site₀ .contact (runWith recipe₁)).issueOp 0 .contactSample
    let n := s.onSeq 0 fun q => { q with goodRun := 3 }
    ((s.site 0).seq.state = .contact ∧ s.opOf 0 = some .contactSample ∧ 1 ≤ s.workingRecipe.debounceCount)
      ∧ (n.workingRecipe.contactOpenMax ≤ 100 ∧ 900 ≤ n.workingRecipe.contactShortMin
        ∧ n.workingRecipe.debounceCount ≤ (n.site 0).seq.goodRun + 1)
      ∧ ¬(s.workingRecipe.debounceCount ≤ (s.site 0).seq.goodRun + 1) ∧ (run₀.site 0).seq.state ≠ .contact := by decide +kernel

theorem witness_ContactTimeoutEndsTheSite :
    let s := ((site₀ .contact run₀).issueOp 0 .contactSample).onSeq 0 fun q => { q with contactTimer := some 1000 }
    s.EndsAlone 0 0 ∧ (s.site 0).seq.state = .contact ∧ (s.site 0).seq.contactTimer ≠ none ∧ s.opOf 0 = some .contactSample
      ∧ (s.site 0).seq.key = none := by
  unfold State.EndsAlone
  decide +kernel

theorem witness_KeyWaitExpiryEndsKeyStarved :
    let s := (site₀ .keywait run₀).onSeq 0 fun q => { q with keyTimer := some 1000 }
    s.EndsAlone 0 0 ∧ (s.site 0).seq.state = .keywait ∧ (s.site 0).seq.keyTimer ≠ none ∧ (s.site 0).seq.key = none := by
  unfold State.EndsAlone
  decide +kernel

theorem witness_ReferenceReadJudgesTheWindow :
    let s := (site₀ .refer (runWith recipe₁)).issueOp 0 .referenceRead
    s.opOf 0 = some .referenceRead ∧ (s.site 0).seq.state = .refer ∧ (s.site 0).seq.stopTaken = .none ∧ s.NoHandBackDue
      ∧ (s.workingRecipe.minWindow : Int) ≤ 364 - 300 ∧ (363 : Int) - 300 < s.workingRecipe.minWindow
      ∧ s.EndsAlone 0 0 ∧ (s.site 0).seq.key = none ∧ (s.site 0).seq.pulsed = false := by
  unfold State.EndsAlone State.NoHandBackDue
  decide +kernel

theorem witness_ReadAFillsTheLaneBuffer :
    let s := (site₀ .blank run₀).issueOp 0 (.rowRead 18 .nominal)
    let e := site₀ .ended run₀
    (s.opOf 0 = some (.rowRead 18 .nominal) ∧ (s.site 0).seq.state.isRunning = true)
      ∧ (((e.issueOp 0 .referenceRead).site 0).seq.state = .ended ∧ (e.issueOp 0 .referenceRead).opOf 0 = some .referenceRead)
      ∧ ((e.issueOp 0 (.rowRead 0 .nominal)).opOf 0 = some (.rowRead 0 .nominal))
      ∧ ((e.issueOp 0 (.rowRead 0 .margin)).opOf 0 = some (.rowRead 0 .margin)) := by decide +kernel

theorem witness_BlankCheckJudgesTheField :
    let s := reading₀ 9 low (site₀ .blank run₀)
    let h := reading₀ 10 high (site₀ .blank run₀)
    let d := reading₀ 10 low ((site₀ .blank run₀).onSeq 0 fun q => { q with verified := put q.verified 0 (some blownRow) })
    (s.Verifying 0 9 low intactRow ∧ (s.site 0).seq.state = .blank ∧ (9 : Row) < s.workingRecipe.keyLength.lockRow
        ∧ (s.site 0).seq.stopTaken = .none ∧ s.NoHandBackDue)
      ∧ (h.Verifying 0 10 high blownRow ∧ (h.site 0).seq.state = .blank ∧ (10 : Row) = h.workingRecipe.keyLength.lockRow
        ∧ h.EndsAlone 0 0 ∧ (h.site 0).seq.key = none ∧ 8 ≤ blownRow.blownPairs)
      ∧ (d.Verifying 0 10 low intactRow ∧ d.EndsAlone 0 0 ∧ intactRow.blownPairs < 8
        ∧ look (d.site 0).seq.verified 0 = some blownRow ∧ look blownRow.cells 0 ≠ .intact) := by
  refine ⟨⟨reading_verifies _ _ _ _, ?_⟩, ⟨reading_verifies _ _ _ _, ?_⟩, ⟨reading_verifies _ _ _ _, ?_⟩⟩
  all_goals try unfold State.EndsAlone
  all_goals try unfold State.NoHandBackDue
  all_goals decide +kernel

theorem witness_BlankFieldWithoutASlotWaitsOrStarves :
    let b (r : Recipe) := reading₀ 10 low ((site₀ .blank (runWith r)).onSeq 0 fun q =>
      { q with verified := Vector.replicate 19 (some intactRow) })
    let d (r : Recipe) := reading₀ 10 low (((site₀ .blank (runWith r)).setSlot 3 .loaded).onSeq 0 fun q =>
      { q with verified := Vector.replicate 19 (some intactRow) })
    ((b recipe₁).Verifying 0 10 low intactRow ∧ (10 : Row) = (b recipe₁).workingRecipe.keyLength.lockRow
        ∧ ((b recipe₁).site 0).seq.state = .blank ∧ (∀ c, look intactRow.cells c = .intact)
        ∧ (∀ r, look ((b recipe₁).site 0).seq.verified r = some intactRow) ∧ ((b recipe₁).site 0).seq.stopTaken = .none
        ∧ (b recipe₁).pool.redraw = [] ∧ (∀ i, (b recipe₁).slotState i ≠ .loaded) ∧ (b recipe₁).workingRecipe.keyWait ≠ 0
        ∧ (b recipe₁).NoHandBackDue)
      ∧ ((b zeroRecipe).Verifying 0 10 low intactRow ∧ (b zeroRecipe).workingRecipe.keyWait = 0 ∧ (b zeroRecipe).EndsAlone 0 0
        ∧ ((b zeroRecipe).site 0).seq.key = none)
      ∧ (∀ r, (d r).Verifying 0 10 low intactRow)
      ∧ ((10 : Row) = (d recipe₁).workingRecipe.keyLength.lockRow ∧ ((d recipe₁).site 0).seq.state = .blank
        ∧ (∀ r, look ((d recipe₁).site 0).seq.verified r = some intactRow) ∧ ((d recipe₁).site 0).seq.stopTaken = .none
        ∧ (d recipe₁).slotState 3 = .loaded ∧ (∀ j, look (d recipe₁).pool.waiting j = none) ∧ (d recipe₁).NoHandBackDue) := by
  refine ⟨⟨reading_verifies _ _ _ _, ?_⟩, ⟨reading_verifies _ _ _ _, ?_⟩, fun r => reading_verifies _ _ _ _, ?_⟩
  · unfold State.NoHandBackDue
    decide +kernel
  · unfold State.EndsAlone
    decide +kernel
  · unfold State.NoHandBackDue
    decide +kernel

theorem witness_KeyDrawServesTheLowestWaitingSite :
    let s := ((run₀.setSlot 2 .loaded).onPool fun p =>
      { p with waiting := put p.waiting 3 (some .bits256), loadedCount := 1, cursor := 255 })
    let r := s.onPool fun p => { p with redraw := [2] }
    (look s.pool.waiting 3 = some .bits256 ∧ (∀ j, j < 3 → look s.pool.waiting j = none) ∧ 1 ≤ s.pool.loadedCount
        ∧ s.pool.redraw = [] ∧ s.slotState 2 = .loaded ∧ (2 : SlotNo) = Fin.ofNat 256 (s.pool.cursor.val + 3)
        ∧ ∀ m < 3, s.slotState (Fin.ofNat 256 (s.pool.cursor.val + m)) ≠ .loaded)
      ∧ (r.pool.redraw.head? = some 2 ∧ look r.pool.waiting 3 = some .bits256) := by decide +kernel

/-- Site 1 requests eight cells while site 0 pulses (12.3). -/
def request₁ (inUse : Nat) : State :=
  { pulse₀.onFormer 1 fun f => { f with row := some 0, current := [0, 2, 4, 6, 8, 10, 12, 14] } with
    arbiter := { pulse₀.arbiter with requests := put (Vector.replicate 16 none) 1 (some 8), inUse := inUse } }

theorem witness_BudgetGrantAppliesTheGrantRule :
    let s := request₁ 104
    let c := request₁ 108
    let w := request₁ 153
    (s.supply.pump = .ready ∧ s.supply.offPending = false ∧ look s.arbiter.requests 1 = some 8
        ∧ (∀ j, j ≠ 1 → look s.arbiter.requests j = none) ∧ (s.site 1).former.row = some 0)
      ∧ s.arbiter.inUse + 8 * s.supply.params.cellCurrent ≤ s.supply.params.budget
      ∧ (c.supply.params.budget < c.arbiter.inUse + 8 * c.supply.params.cellCurrent
        ∧ c.arbiter.inUse + 4 * c.supply.params.cellCurrent ≤ c.supply.params.budget)
      ∧ w.supply.params.budget < w.arbiter.inUse + (8 + 1) / 2 * w.supply.params.cellCurrent ∧ run₀.supply.pump ≠ .ready
      ∧ (∀ j, look pulse₀.arbiter.requests j = none) := by
  decide +kernel

theorem witness_GrantsGoRoundRobinFromTheLastGranted :
    let s : State := { pulse₀ with arbiter := { pulse₀.arbiter with
      requests := put (put (Vector.replicate 16 none) 15 (some 8)) 0 (some 8), lastGranted := 14 } }
    s.supply.pump = .ready ∧ s.supply.offPending = false ∧ look s.arbiter.requests 15 = some 8 ∧ look s.arbiter.requests 0 = some 8
      ∧ (∀ i : SiteNo, i ≠ 15 → i ≠ 0 → look s.arbiter.requests i = none)
      ∧ ((15 : SiteNo).val + 15 - s.arbiter.lastGranted.val) % 16 < ((0 : SiteNo).val + 15 - s.arbiter.lastGranted.val) % 16
      ∧ s.arbiter.inUse + 8 * s.supply.params.cellCurrent ≤ s.supply.params.budget
      ∧ s.supply.params.budget < s.arbiter.inUse + (8 + (8 + 1) / 2) * s.supply.params.cellCurrent := by decide +kernel

theorem witness_GoodPulseLeadsToTheNextBurstOrTheVerify :
    let h : State := request₁ 96 |>.onFormer 0 fun f => { f with held := [16] }
    let c : State := { (pulse₀.onFormer 0 fun f => { f with second := [1, 15] }).onSeq 0 fun q => { q with stopTaken := .soft } with
      supply := { pulse₀.supply with pump := .hold } }
    (pulse₀.opOf 0 = some (.pulse 28) ∧ (pulse₀.site 0).monitor.limits = some (limitsFor 12 8) ∧ look pulse₀.arbiter.grants 0 = some 8
        ∧ (∀ j, look pulse₀.arbiter.requests j = none) ∧ pulse₀.RunsOn 0 ∧ pulse₀.NoHandBackDue
        ∧ (pulse₀.site 0).seq.row = some 0 ∧ min 192 2000 ≤ (limitsFor 12 8).overLimit ∧ (limitsFor 12 8).openLimit ≤ min 24 2000
        ∧ (pulse₀.site 0).former.held = [] ∧ (pulse₀.site 0).former.first = [] ∧ (pulse₀.site 0).former.second = [])
      ∧ (h.opOf 0 = some (.pulse 28) ∧ (h.site 0).monitor.limits = some (limitsFor 12 8) ∧ look h.arbiter.grants 0 = some 8
        ∧ look h.arbiter.requests 0 = none ∧ look h.arbiter.requests 1 = some 8 ∧ h.RunsOn 0 ∧ h.NoHandBackDue
        ∧ (h.site 0).seq.row = some 0 ∧ (h.site 0).former.held ≠ [] ∧ h.supply.pump = .ready)
      ∧ (c.opOf 0 = some (.pulse 28) ∧ (c.site 0).monitor.limits = some (limitsFor 12 8) ∧ look c.arbiter.grants 0 = some 8
        ∧ (∀ j, look c.arbiter.requests j = none) ∧ c.RunsOn 0 ∧ c.NoHandBackDue ∧ (c.site 0).seq.row = some 0
        ∧ (c.site 0).former.held = [] ∧ (c.site 0).former.second ≠ [] ∧ c.supply.pump = .hold ∧ c.supply.offPending = false)
      ∧ ∀ w, run₀.opOf 0 ≠ some (.pulse w) := by
  refine ⟨?_, ?_, ?_, ?_⟩
  · unfold State.NoHandBackDue State.RunsOn
    decide +kernel
  · unfold State.NoHandBackDue State.RunsOn
    decide +kernel
  · unfold State.NoHandBackDue State.RunsOn
    decide +kernel
  · intro w h
    have : run₀.opOf 0 = none := by decide +kernel
    rw [this] at h
    cases h

theorem witness_BadPulseEndsTheSiteAndSpendsTheKey :
    pulse₀.opOf 0 = some (.pulse 28) ∧ (pulse₀.site 0).monitor.limits = some (limitsFor 12 8) ∧ look pulse₀.arbiter.grants 0 = some 8
      ∧ pulse₀.EndsAlone 0 0 ∧ (pulse₀.site 0).seq.state = .pulse ∧ (pulse₀.site 0).seq.key = some key₀
      ∧ (pulse₀.site 0).seq.pulsed = true ∧ (limitsFor 12 8).overLimit < min 193 2000 ∧ min 192 2000 ≤ (limitsFor 12 8).overLimit
      ∧ min 23 2000 < (limitsFor 12 8).openLimit ∧ (pulse₀.site 0).monitor.holdTouched = false ∧ pulse₀.supply.pump ≠ .hold := by
  unfold State.EndsAlone
  decide +kernel

theorem witness_ThermalReadingTestsTheThresholds :
    let k := site₀ .keywait run₀
    let spent (x : SiteState) : State := keyed₀ (site₀ x run₀)
    (max (-40) (min 200 179) < (pulse₀.site 0).monitor.shutAt)
      ∧ ((pulse₀.site 0).monitor.shutAt ≤ max (-40) (min 200 180) ∧ (pulse₀.site 0).monitor.shutLatch = false)
      ∧ ((run₀.site 0).seq.state.isRunning = false ∧ run₀.opOf 0 = none ∧ run₀.NoHandBackDue)
      ∧ (k.EndsAlone 0 0 ∧ (k.site 0).seq.state.isRunning = true ∧ (k.site 0).seq.key = none ∧ k.opOf 0 = none)
      ∧ (pulse₀.EndsAlone 0 0 ∧ (pulse₀.site 0).seq.state = .pulse ∧ (pulse₀.site 0).seq.key = some key₀
        ∧ (pulse₀.site 0).seq.pulsed = true ∧ pulse₀.opOf 0 = some (.pulse 28) ∧ look pulse₀.arbiter.grants 0 = some 8)
      ∧ (∀ x ∈ [SiteState.burnWait, .verify, .final], ((spent x).site 0).seq.state = x ∧ ((spent x).site 0).seq.key = some key₀
        ∧ ((spent x).site 0).seq.pulsed = true ∧ (spent x).opOf 0 = none ∧ (spent x).sched.running = some 0
        ∧ ((spent x).site 0).monitor.shutAt ≤ 180 ∧ ((spent x).site 0).monitor.shutLatch = false
        ∧ ∃ j, j ≠ 0 ∧ look (spent x).sched.ended j = false) := by
  unfold State.EndsAlone State.NoHandBackDue
  decide +kernel

theorem witness_UnpulsedKeyGoesBackToThePool :
    let s := (keyed₀ (site₀ .burnWait run₀)).onSeq 0 fun q => { q with pulsed := false }
    ((s.site 0).monitor.shutAt ≤ max (-40) (min 200 (180 : Int)) ∧ (s.site 0).monitor.shutLatch = false ∧ s.sched.running = some 0
        ∧ (∃ j, j ≠ 0 ∧ look s.sched.ended j = false) ∧ (∀ j, look s.pool.waiting j = none) ∧ (s.site 0).seq.state = .burnWait
        ∧ (s.site 0).seq.key = some key₀ ∧ (s.site 0).seq.pulsed = false ∧ s.opOf 0 = none)
      ∧ ((stopping₀.site 3).monitor.shutAt ≤ max (-40) (min 200 (180 : Int)) ∧ (stopping₀.site 3).monitor.shutLatch = false
        ∧ stopping₀.sched.running = some 0 ∧ (∃ j, j ≠ 3 ∧ look stopping₀.sched.ended j = false)
        ∧ (stopping₀.site 3).seq.state = .burnWait ∧ (stopping₀.site 3).seq.key = some key₀
        ∧ (stopping₀.site 3).seq.pulsed = false ∧ stopping₀.opOf 3 = none ∧ look stopping₀.pool.waiting 2 ≠ none
        ∧ stopping₀.pool.redraw = [] ∧ ∀ i, stopping₀.slotState i ≠ .loaded) := by decide +kernel

/-- Row 0 of the plan verified with column 4 not blown. -/
def missing₀ : LaneCodes := put (rowCodes 0) 4 400

theorem witness_FailingCellsAreBurnedAgain :
    let s := burning₀ .verify 0 missing₀
    s.Verifying 0 0 missing₀ (verifyRow refs₀ missing₀ missing₀) ∧ (s.site 0).seq.state = .verify ∧ s.RunsOn 0 ∧ s.NoHandBackDue
      ∧ (∀ c, hasCol (planImage (s.site 0).seq.plan 0) c = false → look (verifyRow refs₀ missing₀ missing₀).cells c = .intact)
      ∧ allCols.filter (fun c => hasCol (planImage (s.site 0).seq.plan 0) c
          && look (verifyRow refs₀ missing₀ missing₀).cells c != .blown) = [4]
      ∧ (s.site 0).seq.attempt + 1 < s.workingRecipe.attemptLimit := by
  refine ⟨reading_verifies _ _ _ _, ?_⟩
  unfold State.NoHandBackDue State.RunsOn
  decide +kernel

/-- A key that leaves the rows 1 to 7 without a cell to blow. -/
def sparse₀ : List Byte := [0xA5] ++ List.replicate 15 0

theorem witness_DoneRowLeadsToTheNextRowOrFinal :
    let s := burning₀ .verify 0 (rowCodes 0)
    let p := s.onSeq 0 fun q => { q with plan := rowPlan .bits128 sparse₀ 0x8003 }
    let e := burning₀ .verify 9 (rowCodes 9)
    (s.Verifying 0 0 (rowCodes 0) (verifyRow refs₀ (rowCodes 0) (rowCodes 0)) ∧ (s.site 0).seq.state = .verify
        ∧ (s.site 0).seq.phase = .burn ∧ s.RunsOn 0 ∧ s.NoHandBackDue
        ∧ (s.site 0).seq.plan = rowPlan s.workingRecipe.keyLength bytes₀ 0x8003
        ∧ (∀ c, hasCol (planImage (s.site 0).seq.plan 0) c = false → look (verifyRow refs₀ (rowCodes 0) (rowCodes 0)).cells c = .intact)
        ∧ (∀ c, hasCol (planImage (s.site 0).seq.plan 0) c = true → look (verifyRow refs₀ (rowCodes 0) (rowCodes 0)).cells c = .blown)
        ∧ (0 : Row) < s.workingRecipe.keyLength.checkRow ∧ planImage (s.site 0).seq.plan 1 ≠ 0)
      ∧ ((p.site 0).seq.plan = rowPlan p.workingRecipe.keyLength sparse₀ 0x8003
        ∧ planImage (p.site 0).seq.plan 0 = planImage plan₀ 0
        ∧ (∀ r : Row, 1 ≤ r.val → r < 8 → planImage (p.site 0).seq.plan r = 0) ∧ planImage (p.site 0).seq.plan 8 ≠ 0)
      ∧ (e.Verifying 0 9 (rowCodes 9) (verifyRow refs₀ (rowCodes 9) (rowCodes 9)) ∧ (9 : Row) = e.workingRecipe.keyLength.checkRow
        ∧ (∀ c, hasCol (planImage (e.site 0).seq.plan 9) c = true → look (verifyRow refs₀ (rowCodes 9) (rowCodes 9)).cells c = .blown)
        ∧ (∀ c, hasCol (planImage (e.site 0).seq.plan 9) c = false →
            look (verifyRow refs₀ (rowCodes 9) (rowCodes 9)).cells c = .intact)) := by
  refine ⟨⟨reading_verifies _ _ _ _, ?_⟩, by decide +kernel, ⟨reading_verifies _ _ _ _, ?_⟩⟩
  · unfold State.NoHandBackDue State.RunsOn
    decide +kernel
  · decide +kernel

theorem witness_FinalVerifyFoldsTheRowsAndOpensTheLock :
    let s := burning₀ .final 8 (rowCodes 8)
    let e := (burning₀ .final 9 (rowCodes 9)).onSeq 0 fun q => { q with verified := burned₀ }
    (s.Verifying 0 8 (rowCodes 8) (verifyRow refs₀ (rowCodes 8) (rowCodes 8)) ∧ (s.site 0).seq.state = .final
        ∧ s.RunsOn 0 ∧ s.NoHandBackDue ∧ (s.site 0).seq.plan = rowPlan s.workingRecipe.keyLength bytes₀ 0x8003
        ∧ (∀ c, hasCol (planImage (s.site 0).seq.plan 8) c = false → look (verifyRow refs₀ (rowCodes 8) (rowCodes 8)).cells c = .intact)
        ∧ (8 : Row) < s.workingRecipe.keyLength.checkRow)
      ∧ ((e.site 0).seq.state = .final ∧ (9 : Row) = e.workingRecipe.keyLength.checkRow ∧ (e.site 0).seq.key = some key₀
        ∧ readbackMatches e.workingRecipe.keyLength key₀.buffer (e.site 0).seq.lotTag
            (put (e.site 0).seq.verified 9 (some (verifyRow refs₀ (rowCodes 9) (rowCodes 9)))) = true
        ∧ 0 ≤ e.workingRecipe.degradedTolerance) := by
  refine ⟨⟨reading_verifies _ _ _ _, ?_⟩, ?_⟩
  · unfold State.NoHandBackDue State.RunsOn
    decide +kernel
  · decide +kernel

/-- Codes of the check row with column 4 not blown: one degraded pair. -/
def degradedCodes : LaneCodes := put (rowCodes 9) 4 400

theorem witness_LockAndFailureSpendTheKey :
    let l := (burning₀ .verify 10 high).onSeq 0 fun q => { q with phase := .locking }
    let n := (burning₀ .verify 10 low).onSeq 0 fun q => { q with phase := .locking, attempt := 2 }
    let d := burning₀ .verify 0 high
    let z := burning₀ .final 0 high
    let f := burning₀ .final 9 (rowCodes 9)
    let g := (burning₀ .final 9 degradedCodes).onSeq 0 fun q => { q with degraded := 1, verified := burned₀ }
    (l.EndsAlone 0 0 ∧ (l.site 0).seq.key = some key₀ ∧ (l.site 0).seq.pulsed = true ∧ (l.site 0).seq.state = .verify
        ∧ (l.site 0).seq.phase = .locking ∧ (10 : Row) = l.workingRecipe.keyLength.lockRow
        ∧ (∀ c, hasCol (planImage (l.site 0).seq.plan 10) c = false → look blownRow.cells c = .intact)
        ∧ (∀ c, hasCol (planImage (l.site 0).seq.plan 10) c = true → look blownRow.cells c = .blown) ∧ 8 ≤ blownRow.blownPairs)
      ∧ (n.workingRecipe.attemptLimit ≤ (n.site 0).seq.attempt + 1 ∧ intactRow.blownPairs < 8)
      ∧ (d.Verifying 0 0 high blownRow ∧ d.EndsAlone 0 0
        ∧ (∃ c, hasCol (planImage (d.site 0).seq.plan 0) c = false ∧ look blownRow.cells c ≠ .intact)
        ∧ (d.site 0).seq.state = .verify ∧ z.Verifying 0 0 high blownRow ∧ z.EndsAlone 0 0 ∧ (z.site 0).seq.state = .final
        ∧ (z.site 0).seq.plan = (d.site 0).seq.plan)
      ∧ (f.EndsAlone 0 0 ∧ (9 : Row) = f.workingRecipe.keyLength.checkRow
        ∧ readbackMatches f.workingRecipe.keyLength key₀.buffer (f.site 0).seq.lotTag
            (put (f.site 0).seq.verified 9 (some (verifyRow refs₀ (rowCodes 9) (rowCodes 9)))) = false)
      ∧ (g.EndsAlone 0 0 ∧ (g.site 0).seq.state = .final ∧ (g.site 0).seq.key = some key₀ ∧ (g.site 0).seq.pulsed = true
        ∧ (9 : Row) = g.workingRecipe.keyLength.checkRow ∧ (g.site 0).seq.degraded ≤ g.workingRecipe.degradedTolerance
        ∧ g.workingRecipe.degradedTolerance < (g.site 0).seq.degraded + (List.finRange 16).countP (fun b =>
            hasCol (planImage (g.site 0).seq.plan 9) (primaryCol b)
              && ((look (verifyRow refs₀ degradedCodes degradedCodes).cells (primaryCol b) == .blown)
                != (look (verifyRow refs₀ degradedCodes degradedCodes).cells (secondaryCol b) == .blown)))
        ∧ readbackMatches g.workingRecipe.keyLength key₀.buffer (g.site 0).seq.lotTag
            (put (g.site 0).seq.verified 9 (some (verifyRow refs₀ degradedCodes degradedCodes))) = true) := by
  refine ⟨?_, by decide +kernel, ⟨reading_verifies _ _ _ _, ?_, ?_, ?_, reading_verifies _ _ _ _, ?_⟩, ?_, ?_⟩
  all_goals try unfold State.EndsAlone
  all_goals decide +kernel

theorem witness_ReadbackReadsWhatTheRowPlanBurns :
    bytes₀.length = KeyLength.bits128.keyBytes ∧ readbackMatches .bits128 bytes₀ 0x8003 burned₀ = true := by decide +kernel

theorem witness_StopTakenEndsTheSiteAtItsBoundary :
    let o := ((site₀ .refer (runWith recipe₁)).issueOp 0 .referenceRead).onSeq 0 fun q => { q with stopTaken := .soft }
    let s := (reading₀ 9 low (site₀ .blank run₀)).onSeq 0 fun q => { q with stopTaken := .soft }
    let z := (reading₀ 10 low (site₀ .blank run₀)).onSeq 0 fun q =>
      { q with stopTaken := .hard, verified := Vector.replicate 19 (some intactRow) }
    let p := pulse₀.onSeq 0 fun q => { q with stopTaken := .hard }
    (o.EndsAlone 0 0 ∧ o.opOf 0 = some .referenceRead ∧ (o.site 0).seq.state = .refer ∧ (o.site 0).seq.key = none
        ∧ (o.site 0).seq.pulsed = false ∧ (o.site 0).seq.stopTaken = .soft ∧ (o.workingRecipe.minWindow : Int) ≤ 364 - 300)
      ∧ (s.EndsAlone 0 0 ∧ (s.site 0).seq.state = .blank ∧ (9 : Row) < s.workingRecipe.keyLength.lockRow ∧ (s.site 0).seq.key = none
        ∧ (s.site 0).seq.pulsed = false ∧ (s.site 0).seq.stopTaken = .soft ∧ s.opOf 0 = some (.rowRead 9 .margin)
        ∧ (s.site 0).seq.laneA = some low)
      ∧ (z.EndsAlone 0 0 ∧ (z.site 0).seq.state = .blank ∧ (10 : Row) = z.workingRecipe.keyLength.lockRow
        ∧ (∀ c, look intactRow.cells c = .intact) ∧ (∀ r, look (z.site 0).seq.verified r = some intactRow)
        ∧ (z.site 0).seq.key = none ∧ (z.site 0).seq.pulsed = false ∧ (z.site 0).seq.stopTaken = .hard
        ∧ z.opOf 0 = some (.rowRead 10 .margin) ∧ (z.site 0).seq.laneA = some low)
      ∧ (p.EndsAlone 0 0 ∧ p.opOf 0 = some (.pulse 28) ∧ (p.site 0).seq.state = .pulse ∧ (p.site 0).seq.key = some key₀
        ∧ (p.site 0).seq.pulsed = true ∧ (p.site 0).seq.stopTaken = .hard ∧ (limitsFor 12 8).openLimit ≤ min 24 2000) := by
  unfold State.EndsAlone
  decide +kernel

/-- Site 0 has taken a HARD stop while read B of a row is in flight in VERIFY or FINAL. -/
def stopped₀ (x : SiteState) (row : Row) (a : LaneCodes) : State :=
  reading₀ row a ((keyed₀ (site₀ x (runWith recipe₁))).onSeq 0 fun q => { q with stopTaken := .hard, verified := burned₀ })

theorem witness_StopTakenInVerifyAndFinal :
    let v := stopped₀ .verify 0 missing₀
    let f := stopped₀ .final 8 (rowCodes 8)
    let e := stopped₀ .final 9 (rowCodes 9)
    (v.Verifying 0 0 missing₀ (verifyRow refs₀ missing₀ missing₀) ∧ v.EndsAlone 0 0 ∧ (v.site 0).seq.key = some key₀
        ∧ (v.site 0).seq.pulsed = true ∧ (v.site 0).seq.stopTaken = .hard ∧ (v.site 0).seq.state = .verify
        ∧ (v.site 0).seq.phase = .burn ∧ (v.site 0).seq.attempt + 1 < v.workingRecipe.attemptLimit
        ∧ (∀ c, hasCol (planImage (v.site 0).seq.plan 0) c = false → look (verifyRow refs₀ missing₀ missing₀).cells c = .intact)
        ∧ hasCol (planImage (v.site 0).seq.plan 0) 4 = true ∧ look (verifyRow refs₀ missing₀ missing₀).cells 4 ≠ .blown)
      ∧ (f.Verifying 0 8 (rowCodes 8) (verifyRow refs₀ (rowCodes 8) (rowCodes 8)) ∧ f.EndsAlone 0 0
        ∧ (f.site 0).seq.key = some key₀ ∧ (f.site 0).seq.stopTaken = .hard ∧ (f.site 0).seq.state = .final
        ∧ (8 : Row) < f.workingRecipe.keyLength.checkRow
        ∧ (∀ c, hasCol (planImage (f.site 0).seq.plan 8) c = false → look (verifyRow refs₀ (rowCodes 8) (rowCodes 8)).cells c = .intact))
      ∧ (e.Verifying 0 9 (rowCodes 9) (verifyRow refs₀ (rowCodes 9) (rowCodes 9)) ∧ e.EndsAlone 0 0
        ∧ (e.site 0).seq.key = some key₀ ∧ (e.site 0).seq.pulsed = true ∧ (e.site 0).seq.stopTaken = .hard
        ∧ (9 : Row) = e.workingRecipe.keyLength.checkRow
        ∧ (∀ c, hasCol (planImage (e.site 0).seq.plan 9) c = false → look (verifyRow refs₀ (rowCodes 9) (rowCodes 9)).cells c = .intact)
        ∧ readbackMatches e.workingRecipe.keyLength key₀.buffer (e.site 0).seq.lotTag
            (put (e.site 0).seq.verified 9 (some (verifyRow refs₀ (rowCodes 9) (rowCodes 9)))) = true) := by
  refine ⟨⟨reading_verifies _ _ _ _, ?_⟩, ⟨reading_verifies _ _ _ _, ?_⟩, ⟨reading_verifies _ _ _ _, ?_⟩⟩
  all_goals unfold State.EndsAlone
  all_goals decide +kernel

theorem witness_PumpTimersMoveThePump :
    let r : State := { run₀ with supply := { Supply.reset with pump := .ramp, settleTimer := some 200 } }
    let q : State := { request₁ 96 with supply := { pulse₀.supply with pump := .ramp, settleTimer := some 200 } }
    let w : State := { run₀ with supply := { pulse₀.supply with pump := .wake, wakeTimer := some 10 } }
    let i : State := { run₀ with supply := { pulse₀.supply with idleTimer := some 2000 } }
    (r.supply.pump = .ramp ∧ r.supply.settleTimer ≠ none ∧ (∀ k, look r.arbiter.requests k = none) ∧ r.supply.params.idleTime = 0)
      ∧ (q.supply.pump = .ramp ∧ q.supply.settleTimer ≠ none ∧ look q.arbiter.requests 1 = some 8)
      ∧ (w.supply.pump = .wake ∧ w.supply.wakeTimer ≠ none ∧ w.supply.params.idleTime ≠ 0 ∧ ∀ k, look w.arbiter.grants k = none)
      ∧ (i.supply.pump = .ready ∧ i.supply.idleTimer ≠ none) ∧ run₀.supply.pump ≠ .ramp := by decide +kernel

theorem witness_UndervoltageHoldsThePump :
    let f : State := { run₀ with supply := { Supply.reset with pump := .idleLow, idleKind := .fast } }
    let h : State := { run₀ with supply := { Supply.reset with pump := .hold, holdTimer := some 1000 } }
    let o : State := { run₀ with supply := { Supply.reset with pump := .ready, offPending := true } }
    (f.supply.pump = .idleLow ∧ f.supply.idleKind = .fast) ∧ run₀.supply.pump = .off
      ∧ (h.supply.pump = .hold ∧ h.supply.offPending = false) ∧ (o.supply.offPending = true ∧ o.arbiter.inUse = 0) := by decide +kernel

/-- Site 0 waits in HOLD with its key, no pulse in flight. -/
def holding₀ : State :=
  { (site₀ .burnWait rich₀).onPort 0 (fun p => { p with op := none }) with
    arbiter := .reset, supply := { Supply.reset with pump := .hold, holdTimer := some 5000 } }

theorem holding_keys (k : SiteNo) : (holding₀.site k).seq.key = if k = 0 then some key₀ else none := by
  revert k
  decide +kernel

theorem holding_pool : holding₀.PoolCoherent := by
  refine ⟨by decide +kernel, by decide +kernel, by decide +kernel, ?_, ?_, by decide +kernel⟩
  · intro k h hk
    rw [holding_keys] at hk
    split at hk
    · cases hk
      decide +kernel
    · cases hk
  · intro j k h h' hjk hj hk
    rw [holding_keys] at hj hk
    split at hj
    · split at hk
      · exact absurd (by simp_all) hjk
      · cases hk
    · cases hj

theorem witness_HoldExpiryEndsTheSitesWithKeys :
    let w : State := { stopping₀ with supply := { Supply.reset with pump := .hold, holdTimer := some 5000 } }
    (holding₀.supply.pump = .hold ∧ holding₀.supply.holdTimer ≠ none ∧ (∀ k, look holding₀.arbiter.grants k = none)
        ∧ (∀ k, look holding₀.pool.waiting k = none) ∧ holding₀.PoolCoherent ∧ holding₀.KeysNonzero ∧ holding₀.BudgetCoherent
        ∧ (∃ j, look holding₀.sched.ended j = false ∧ (holding₀.site j).seq.key = none)
        ∧ (holding₀.site 0).seq.state.isRunning = true ∧ (holding₀.site 0).seq.key = some key₀)
      ∧ (w.PoolCoherent ∧ w.KeysNonzero ∧ w.BudgetCoherent ∧ w.supply.pump = .hold ∧ w.supply.holdTimer ≠ none
        ∧ (∀ k, look w.arbiter.grants k = none) ∧ look w.pool.waiting 2 ≠ none
        ∧ (∃ j, look w.sched.ended j = false ∧ (w.site j).seq.key = none)
        ∧ allSites.countP (fun k => (w.site k).seq.state.isRunning && (w.site k).seq.key.isSome && !(w.site k).seq.pulsed) = 1) := by
  refine ⟨⟨by decide +kernel, by decide +kernel, by decide +kernel, by decide +kernel, holding_pool, ⟨by decide +kernel, ?_⟩, ?_,
    by decide +kernel, by decide +kernel, by decide +kernel⟩, stopping_pool, stopping_keys_nonzero, ?_, by decide +kernel⟩
  · intro k h hk
    rw [holding_keys] at hk
    split at hk
    · cases hk
      exact ⟨0, by decide, 0xA5, rfl, by decide⟩
    · cases hk
  · unfold State.BudgetCoherent
    decide +kernel
  · unfold State.BudgetCoherent
    decide +kernel

theorem witness_PulseWidthsStayInTheirRange :
    recipe₁.InRange ∧ pulse₀.workingRecipe = recipe₁ ∧ (pulse₀.site 0).former.attempt = 0
      ∧ (800 < (50 * (8 + 2 * 16) + 1) / 2) ∧ step rich₀ = .next { rich₀ with pending := [] } :=
  ⟨recipes_in_range.1, by decide +kernel, by decide +kernel, by decide, rfl⟩

end Sys2Proof.Tests
end

/-!
PROOF. Column sets, the row plan and the readback of a verified field (01): what each of their functions answers, and O55.
-/

namespace Sys2Proof.Machine

/-! ### Column sets -/

@[simp] theorem hasCol_or (m n : ColSet) (c : Col) : hasCol (m ||| n) c = (hasCol m c || hasCol n c) := BitVec.getLsbD_or

/-- The set of one column. -/
theorem hasCol_bit (c d : Col) : hasCol (1#32 <<< d.val) c = decide (c = d) := by
  unfold hasCol
  rw [BitVec.getLsbD_shiftLeft, BitVec.getLsbD_one, Bool.eq_iff_iff]
  simp only [Fin.ext_iff, Bool.and_eq_true, decide_eq_true_eq, Bool.not_eq_true', decide_eq_false_iff_not]
  omega

/-- A fold that sets the bit of each column of a list a test holds for. -/
theorem hasCol_foldl_setBits (p : Col → Bool) (c : Col) (l : List Col) (m : ColSet) :
    hasCol (l.foldl (fun m c => if p c then m ||| (1#32 <<< c.val) else m) m) c = (hasCol m c || (decide (c ∈ l) && p c)) := by
  induction l generalizing m with
  | nil => simp
  | cons d l ih =>
    rw [List.foldl_cons, ih]
    by_cases hd : c = d
    · subst hd
      cases hp : p c <;> simp [hasCol_bit]
    · cases hp : p d <;> simp [hasCol_bit, hd]

@[simp] theorem hasCol_zero (c : Col) : hasCol 0 c = false := BitVec.getLsbD_zero

/-- A column is in the set of the columns a test holds for exactly if the test holds for it. -/
@[simp] theorem hasCol_colSet (p : Col → Bool) (c : Col) : hasCol (colSet p) c = p c := by
  rw [colSet, hasCol_foldl_setBits, hasCol_zero]
  simp

/-- Two column sets with the same columns are equal. -/
theorem colSet_ext {m n : ColSet} (h : ∀ c, hasCol m c = hasCol n c) : m = n :=
  BitVec.eq_of_getLsbD_eq fun i hi => h ⟨i, hi⟩

/-- The set of the columns a test holds for is empty exactly if the test holds for none. -/
theorem colSet_eq_zero_iff (p : Col → Bool) : colSet p = 0 ↔ ∀ c, p c = false := by
  refine ⟨fun h c => ?_, fun h => colSet_ext fun c => ?_⟩
  · rw [← hasCol_colSet p, h, hasCol_zero]
  · rw [hasCol_colSet, h, hasCol_zero]

theorem hasCol_rowImage (bits : List Bool) (c : Col) : hasCol (rowImage bits) c = bits.getD (c.val / 2) false :=
  hasCol_colSet _ c

@[simp] theorem primaryCol_val (b : Fin 16) : (primaryCol b).val = 2 * b.val := by
  simp [primaryCol]
  omega

@[simp] theorem secondaryCol_val (b : Fin 16) : (secondaryCol b).val = 2 * b.val + 1 := by
  simp [secondaryCol]
  omega

/-- The primary cell of bit b is in the expected-blown set exactly if the bit is 1 (R2). -/
theorem hasCol_rowImage_primaryCol (bits : List Bool) (b : Fin 16) :
    hasCol (rowImage bits) (primaryCol b) = bits.getD b.val false := by
  simp [hasCol_rowImage]

/-! ### The row plan -/

/-- The plan lists every row up to the lock row with the image of its bits (R3). -/
theorem planImage_rowPlan (len : KeyLength) (key : List Byte) (tag : BitVec 16) {r : Row} (hr : r ≤ len.lockRow) :
    planImage (rowPlan len key tag) r = rowImage (rowBits len key tag r) := by
  have hmem : r ∈ len.rows := by simpa [KeyLength.rows] using hr
  have hfind : ∀ l : List Row, r ∈ l →
      ((l.map fun r => ({ row := r, image := rowImage (rowBits len key tag r) } : PlanRow)).find? fun e => e.row == r)
        = some { row := r, image := rowImage (rowBits len key tag r) } := by
    intro l
    induction l with
    | nil => simp
    | cons a l ih =>
      intro hl
      by_cases ha : a = r
      · simp [ha]
      · rw [List.map_cons, List.find?_cons_of_neg (by simpa using ha)]
        exact ih (by simpa [Ne.symm ha] using hl)
  unfold planImage rowPlan
  rw [hfind _ hmem]

/-- A key row is to hold its 16 key bits (R4). -/
theorem rowBits_keyRow {len : KeyLength} (key : List Byte) (tag : BitVec 16) {r : Row} (hr : r.val < len.keyRows) :
    rowBits len key tag r = keyRowBits key r.val := if_pos hr

/-- The tag row is to hold the lot tag (R5). -/
theorem rowBits_tagRow (len : KeyLength) (key : List Byte) (tag : BitVec 16) :
    rowBits len key tag len.tagRow = wordBits tag := by
  cases len <;> rfl

/-- The check row is to hold the check value of the key (R6). -/
theorem rowBits_checkRow (len : KeyLength) (key : List Byte) (tag : BitVec 16) :
    rowBits len key tag len.checkRow = wordBits (checkValue key) := by
  cases len <;> rfl

/-- The lock row is to be all ones (R3). -/
theorem rowBits_lockRow (len : KeyLength) (key : List Byte) (tag : BitVec 16) :
    rowBits len key tag len.lockRow = List.replicate 16 true := by
  cases len <;> rfl

theorem rowImage_ones : rowImage (List.replicate 16 true) = 0xFFFFFFFF#32 := by decide +kernel

theorem planImage_lockRow (len : KeyLength) (key : List Byte) (tag : BitVec 16) :
    planImage (rowPlan len key tag) len.lockRow = 0xFFFFFFFF#32 := by
  rw [planImage_rowPlan len key tag (le_refl _), rowBits_lockRow, rowImage_ones]

/-! ### Bits of a key -/

/-- A key has eight bits for each of its bytes (R4). -/
theorem length_keyBits (key : List Byte) : (keyBits key).length = 8 * key.length := by
  induction key with
  | nil => rfl
  | cons b key ih =>
    have : keyBits (b :: key) = byteBits b ++ keyBits key := by simp [keyBits]
    rw [this, List.length_append, ih, List.length_cons]
    simp [byteBits]
    omega

theorem keyRows_of_keyBytes (len : KeyLength) : 8 * len.keyBytes = 16 * len.keyRows := by cases len <;> rfl

/-- A list of 16 n values is the concatenation of its n groups of 16. -/
theorem flatten_groups {α : Type} (n : Nat) (xs : List α) (h : xs.length = 16 * n) :
    ((List.range n).map fun i => (xs.drop (16 * i)).take 16).flatten = xs := by
  induction n generalizing xs with
  | zero => simpa [eq_comm] using h
  | succ n ih =>
    have hrest : ((List.range n).map fun i => ((xs.drop 16).drop (16 * i)).take 16).flatten = xs.drop 16 :=
      ih _ (by rw [List.length_drop]; omega)
    have hshift : ∀ i, (xs.drop (16 * (i + 1))).take 16 = ((xs.drop 16).drop (16 * i)).take 16 := fun i => by
      rw [List.drop_drop]
      congr 2
      omega
    rw [List.range_succ_eq_map, List.map_cons, List.map_map, List.flatten_cons]
    simp only [Function.comp_def, hshift, hrest, Nat.mul_zero, List.drop_zero, List.take_append_drop]

/-- The 16 bits that a row of the field is to hold (R3 to R6). -/
theorem length_rowBits (len : KeyLength) {key : List Byte} (tag : BitVec 16) (r : Row) (h : key.length = len.keyBytes) :
    (rowBits len key tag r).length = 16 := by
  unfold rowBits
  split
  · have := keyRows_of_keyBytes len
    simp only [keyRowBits, List.length_take, List.length_drop, length_keyBits, h]
    omega
  · split
    · simp [wordBits]
    · split <;> simp [wordBits]

/-! ### Readback -/

/-- A traversal that finds a value for every element is the list of those values. -/
theorem mapM_eq_some_iff {α β : Type} (f : α → Option β) (l : List α) (r : List β) :
    l.mapM f = some r ↔ l.map f = r.map some := by
  induction l generalizing r with
  | nil => cases r <;> simp
  | cons a l ih =>
    cases r with
    | nil => simp [List.mapM_cons, Option.bind_eq_some_iff]
    | cons b r =>
      simp [List.mapM_cons, Option.bind_eq_some_iff, ih]

/-- A pair reads a bit exactly as R14 says: 1 with a BLOWN cell, 0 with both cells INTACT. -/
theorem pairRead_bit_eq_some (x y : CellClass) (bit : Bool) :
    (pairRead x y).bit = some bit ↔ if bit = true then x = .blown ∨ y = .blown else x = .intact ∧ y = .intact := by
  cases x <;> cases y <;> cases bit <;> decide

/-- A verified row reads 16 given bits exactly if each of its pairs reads its bit (R15). -/
theorem readRow_eq_some_iff (cells : Vector CellClass 32) {bits : List Bool} (h : bits.length = 16) :
    readRow cells = some bits ↔ ∀ b : Fin 16,
      if bits.getD b.val false = true then look cells (primaryCol b) = .blown ∨ look cells (secondaryCol b) = .blown
      else look cells (primaryCol b) = .intact ∧ look cells (secondaryCol b) = .intact := by
  have hpair : ∀ b : Fin 16, (pairOf cells b).bit = some (bits.getD b.val false) ↔ _ :=
    fun b => pairRead_bit_eq_some _ _ _
  simp only [← hpair]
  rw [readRow, mapM_eq_some_iff]
  constructor
  · intro heq b
    have := congrArg (fun l => l[b.val]?) heq
    simpa [List.getElem?_eq_getElem, h] using this
  · intro hb
    refine List.ext_getElem (by simp [h]) fun i h1 h2 => ?_
    have hi : i < 16 := by simpa using h1
    simpa [List.getD_eq_getElem?_getD, h, hi] using hb ⟨i, hi⟩

/-- The bits of a row are read from its latest verify (R15). -/
theorem readVerified_eq_some_iff (verified : Vector (Option RowVerify) 19) (r : Row) (bits : List Bool) :
    readVerified verified r = some bits ↔ ∃ u, look verified r = some u ∧ readRow u.cells = some bits := by
  unfold readVerified
  cases look verified r <;> simp

/-- A row reads 16 bits. -/
theorem length_of_readVerified {verified : Vector (Option RowVerify) 19} {r : Row} {bits : List Bool}
    (h : readVerified verified r = some bits) : bits.length = 16 := by
  obtain ⟨u, -, hu⟩ := (readVerified_eq_some_iff _ _ _).1 h
  have := congrArg List.length ((mapM_eq_some_iff _ _ _).1 hu)
  simpa using this.symm

/-- The key reads as the key bits exactly if each key row reads its 16 of them (R4, R15). -/
theorem readKeyBits_eq_some_iff (len : KeyLength) {key : List Byte} (verified : Vector (Option RowVerify) 19)
    (h : key.length = len.keyBytes) :
    readKeyBits len verified = some (keyBits key)
      ↔ ∀ r : Row, r.val < len.keyRows → readVerified verified r = some (keyRowBits key r.val) := by
  set rows := len.rows.filter fun r => decide (r.val < len.keyRows) with hrows
  have hmem : ∀ r : Row, r ∈ rows ↔ r.val < len.keyRows := by
    rw [hrows]
    cases len <;> decide +kernel
  have hlen := length_keyBits key
  have hbytes := keyRows_of_keyBytes len
  have hflat : (rows.map fun r => keyRowBits key r.val).flatten = keyBits key := by
    have hvals : rows.map Fin.val = List.range len.keyRows := by
      rw [hrows]
      cases len <;> decide +kernel
    have := flatten_groups len.keyRows (keyBits key) (by omega)
    rwa [← hvals, List.map_map] at this
  have hsixteen : ∀ r ∈ rows, (keyRowBits key r.val).length = 16 := fun r hr => by
    have := (hmem r).1 hr
    simp only [keyRowBits, List.length_take, List.length_drop]
    omega
  calc readKeyBits len verified = some (keyBits key)
      ↔ ∃ ls, rows.mapM (readVerified verified) = some ls ∧ ls.flatten = keyBits key := by
        simp [readKeyBits, hrows]
    _ ↔ rows.mapM (readVerified verified) = some (rows.map fun r => keyRowBits key r.val) := by
        refine ⟨fun ⟨ls, hls, hkey⟩ => ?_, fun hls => ⟨_, hls, hflat⟩⟩
        have hreads := (mapM_eq_some_iff _ _ _).1 hls
        have hread : ∀ l ∈ ls, l.length = 16 := fun l hl => by
          have : some l ∈ rows.map (readVerified verified) := hreads ▸ List.mem_map_of_mem hl
          obtain ⟨r, -, hr⟩ := List.mem_map.1 this
          exact length_of_readVerified hr
        have hcount : ls.length = rows.length := by simpa using (congrArg List.length hreads).symm
        rw [hls, List.eq_iff_flatten_eq.2 ⟨hkey.trans hflat.symm, ?_⟩]
        rw [List.eq_replicate_iff.2 ⟨List.length_map .., List.forall_mem_map.2 hread⟩, eq_comm, List.eq_replicate_iff]
        exact ⟨by simp [hcount], by simpa using hsixteen⟩
    _ ↔ _ := by
        simp [mapM_eq_some_iff, hmem]

/-- Settles O55 by reading the plan's image and the readback of each row off the same 16 bits. -/
theorem readbackReadsWhatTheRowPlanBurns : Obligations.ReadbackReadsWhatTheRowPlanBurns := by
  intro len key tag verified hkey
  have hrow : ∀ r, r ≤ len.checkRow → (readVerified verified r = some (rowBits len key tag r) ↔
      ∃ u, look verified r = some u ∧ ∀ b : Fin 16,
        if hasCol (planImage (rowPlan len key tag) r) (primaryCol b) = true
        then look u.cells (primaryCol b) = .blown ∨ look u.cells (secondaryCol b) = .blown
        else look u.cells (primaryCol b) = .intact ∧ look u.cells (secondaryCol b) = .intact) := fun r hr => by
    have hlock : r ≤ len.lockRow := hr.trans (by cases len <;> decide)
    simp only [planImage_rowPlan len key tag hlock, hasCol_rowImage_primaryCol, readVerified_eq_some_iff,
      readRow_eq_some_iff _ (length_rowBits len tag r hkey)]
  have hsplit : ∀ P : Row → Prop, (∀ r, r ≤ len.checkRow → P r)
      ↔ (∀ r : Row, r.val < len.keyRows → P r) ∧ P len.tagRow ∧ P len.checkRow := fun P => by
    have hrows : ∀ r : Row, r ≤ len.checkRow ↔ r.val < len.keyRows ∨ r = len.tagRow ∨ r = len.checkRow := by
      cases len <;> decide
    simp only [hrows, or_imp, forall_and, forall_eq]
  calc readbackMatches len key tag verified = true
      ↔ ∀ r, r ≤ len.checkRow → readVerified verified r = some (rowBits len key tag r) := by
        rw [hsplit]
        simp only [readbackMatches, Bool.and_eq_true, beq_iff_eq, and_assoc, readKeyBits_eq_some_iff len verified hkey]
        rw [rowBits_tagRow, rowBits_checkRow]
        exact and_congr_left' (forall_congr' fun r => forall_congr' fun hr => by rw [rowBits_keyRow key tag hr])
    _ ↔ _ := forall_congr' fun r => forall_congr' fun hr => hrow r hr

end Sys2Proof.Machine

/-!
PROOF. Hand-backs that are not due, updates of one site put together, and the two statements that need no more: O37 and O41.
-/

namespace Sys2Proof.Machine

/-! ### No hand-back -/

/-- Where no hand-back is due the scheduler has nothing to settle (R146). -/
theorem State.NoHandBackDue.settle_eq {s : State} (h : s.NoHandBackDue) : s.settle = s :=
  h.elim State.settle_of_no_frame fun ⟨_, hj⟩ => State.settle_of_not_ended hj

/-- Whether a hand-back is due is a matter of the scheduler alone. -/
theorem State.NoHandBackDue.of_sched {s t : State} (h : s.NoHandBackDue) (ht : t.sched = s.sched) : t.NoHandBackDue := by
  unfold State.NoHandBackDue
  rwa [ht]

/-! ### Updates of one site as one update -/

theorem State.onSeq_eq (k : SiteNo) (f : Sequencer → Sequencer) (s : State) :
    s.onSeq k f = s.onSite k fun x => { x with seq := f x.seq } := rfl

theorem State.issueOp_eq (k : SiteNo) (op : PortOp) (s : State) :
    s.issueOp k op = s.onSite k fun x => { x with port := { x.port with op := some op } } := rfl

theorem State.endOp_eq (k : SiteNo) (s : State) :
    s.endOp k = s.onSite k fun x => { x with port := { x.port with op := none } } := rfl

/-! ### Contact -/

/-- A sample is good exactly between the two limits (R36). -/
theorem contactClass_eq_good_iff (r : Recipe) (code : SenseCode) :
    contactClass r code = .good ↔ r.contactOpenMax ≤ code.val ∧ code.val ≤ r.contactShortMin := by
  unfold contactClass
  split
  · rename_i hopened
    exact iff_of_false nofun fun ⟨hlow, _⟩ => absurd hopened (by omega)
  · split
    · rename_i hshort
      exact iff_of_false nofun fun ⟨_, hhigh⟩ => absurd hshort (by omega)
    · exact iff_of_true rfl ⟨by omega, by omega⟩

/-- Settles O37, by the branches of R36. -/
theorem contactSampleCountsTheGoodRun : Obligations.ContactSampleCountsTheGoodRun := by
  intro k code s
  have hexec : exec (.contactSample k code) s = if s.sampling k then .next (s.takeSample k code) else .next s := rfl
  refine ⟨fun hstate hop hcount => ?_, fun hno => ?_⟩
  · have hsampling : s.sampling k = true := by simp [State.sampling, hstate, hop]
    rw [hexec, if_pos hsampling]
    by_cases hgood : s.workingRecipe.contactOpenMax ≤ code.val ∧ code.val ≤ s.workingRecipe.contactShortMin
    · have hrun : goodRunAfter s.workingRecipe code (s.site k).seq.goodRun = (s.site k).seq.goodRun + 1 :=
        if_pos ((contactClass_eq_good_iff _ _).2 hgood)
      refine ⟨fun ⟨_, _, hfull⟩ => ?_, fun hpart => ?_⟩
      · rw [State.takeSample]
        simp only [hrun, if_pos hfull, State.onSeq_eq, State.issueOp_eq, State.onSite_onSite]
        rfl
      · have hshort : ¬ s.workingRecipe.debounceCount ≤ (s.site k).seq.goodRun + 1 := fun h => hpart ⟨hgood.1, hgood.2, h⟩
        rw [State.takeSample]
        simp only [hrun, if_neg hshort, if_pos hgood]
        rfl
    · have hrun : goodRunAfter s.workingRecipe code (s.site k).seq.goodRun = 0 :=
        if_neg fun h => hgood ((contactClass_eq_good_iff _ _).1 h)
      refine ⟨fun ⟨hlow, hhigh, _⟩ => absurd ⟨hlow, hhigh⟩ hgood, fun _ => ?_⟩
      rw [State.takeSample]
      simp only [hrun, if_neg hgood, if_neg (show ¬ s.workingRecipe.debounceCount ≤ 0 by omega)]
      rfl
  · have hidle : s.sampling k = false := by
      rw [State.sampling, Bool.and_eq_false_iff]
      simpa using hno
    rw [hexec, hidle]
    rfl

/-! ### Reads of a site that has ended -/

/-- Settles O41: the running read by R21, the three late completions by R51. -/
theorem readAFillsTheLaneBuffer : Obligations.ReadAFillsTheLaneBuffer := by
  intro k row codes o b s
  refine ⟨fun hop hrun => ?_, fun c hended hc => ?_⟩
  · show execReadACompletion k codes s = _
    simp only [execReadACompletion, hop, hrun, if_true, State.onSeq_eq, State.issueOp_eq, State.onSite_onSite]
    rfl
  · have hstill : (s.site k).seq.state.isRunning = false := by rw [hended]; rfl
    have hdrop : s.dropOp k = { s with sites := put s.sites k { s.site k with port := { selection := none, op := none } } } := rfl
    rw [← hdrop]
    obtain ⟨rfl, hop⟩ | ⟨rfl, hop⟩ | ⟨rfl, hop⟩ := hc
    · show execReferenceReadCompletion k o b s = _
      simp [execReferenceReadCompletion, hop, hstill]
    · show execReadACompletion k codes s = _
      simp [execReadACompletion, hop, hstill]
    · show execVerifyCompletion k codes s = _
      simp [execVerifyCompletion, hop, hstill]

end Sys2Proof.Machine

/-!
PROOF. The end of a site: what its record, its map entry and every other byte read as after it, and the whole of the end of a site that
holds no key (R51 to R53).
-/

namespace Sys2Proof.Machine

/-! ### Fields read back from their bytes -/

/-- A 16-bit field whose two bytes are those of a value reads as the value. -/
theorem Memory.read16_of_bytes {m : Memory} {a : Nat} {x : BitVec 16} (h₀ : Memory.read m a = x.extractLsb' 0 8)
    (h₁ : Memory.read m (a + 1) = x.extractLsb' 8 8) : Memory.read16 m a = x := by
  rw [Memory.read16, h₀, h₁]
  refine BitVec.eq_of_getLsbD_eq fun i hi => ?_
  simp only [BitVec.getLsbD_append, BitVec.getLsbD_extractLsb']
  split
  · simp [*]
  · simp [show i - 8 < 8 by omega, show 8 + (i - 8) = i by omega]

/-- A 32-bit field whose four bytes are those of a value reads as the value. -/
theorem Memory.read32_of_bytes {m : Memory} {a : Nat} {x : Word} (h₀ : Memory.read m a = x.extractLsb' 0 8)
    (h₁ : Memory.read m (a + 1) = x.extractLsb' 8 8) (h₂ : Memory.read m (a + 2) = x.extractLsb' 16 8)
    (h₃ : Memory.read m (a + 3) = x.extractLsb' 24 8) : Memory.read32 m a = x := by
  rw [Memory.read32, h₀, h₁, h₂, h₃]
  refine BitVec.eq_of_getLsbD_eq fun i hi => ?_
  simp only [BitVec.getLsbD_append, BitVec.getLsbD_extractLsb']
  split
  · simp [*]
  · split
    · simp [*, show 8 + (i - 8) = i by omega]
    · split
      · simp [*, show 16 + (i - 8 - 8) = i by omega]
      · simp [show i - 8 - 8 - 8 < 8 by omega, show 24 + (i - 8 - 8 - 8) = i by omega]

/-! ### The site record -/

/-- The bits of the latched flags byte (10.5). -/
theorem latchedFlags_bit (x : Site) : ∀ i < 8, (latchedFlags x).getLsbD i
    = ((i == 0 && x.monitor.thermalSeen) || (i == 1 && x.seq.chopApplied) || (i == 2 && x.monitor.holdSeen)
        || (i == 3 && x.monitor.truncated)) := by
  unfold latchedFlags
  generalize x.monitor.thermalSeen = a, x.seq.chopApplied = b, x.monitor.holdSeen = c, x.monitor.truncated = d
  revert a b c d
  decide

theorem length_recordBytes (k : SiteNo) (x : Site) (r : Recipe) (o : SiteOutcome) (d : Disposition) (serial : Word) :
    (recordBytes k x r o d serial).length = 38 := by
  simp only [recordBytes, int32, nat16, int16, bytes32, bytes16, List.cons_append, List.nil_append, List.length_cons, List.length_nil]

/-- A record whose 38 bytes are those of R134 shows its outcome and the members of its site. -/
theorem State.recordShows_of_read {t : State} {f : FrameNo} {k : SiteNo} {o : SiteOutcome} {d : Disposition} {serial : Word}
    (h : ∀ i < 38, Memory.read t.mem (siteRecordBase f k + i) = (recordBytes k (t.site k) t.workingRecipe o d serial).getD i 0) :
    t.RecordShows f k o d.code serial := by
  simp only [recordBytes, int32, nat16, int16, bytes32, bytes16, List.cons_append, List.nil_append] at h
  exact {
    header := by
      simp only [Memory.readBytes, List.range_succ, List.range_zero, List.nil_append, List.cons_append, List.map_cons, List.map_nil,
        h 0 (by decide), h 1 (by decide), h 2 (by decide), h 3 (by decide), List.getD_cons_zero, List.getD_cons_succ]
    position := ⟨Memory.read32_of_bytes (h 4 (by decide)) (h 5 (by decide)) (h 6 (by decide)) (h 7 (by decide)),
      Memory.read32_of_bytes (h 8 (by decide)) (h 9 (by decide)) (h 10 (by decide)) (h 11 (by decide))⟩
    serial := Memory.read32_of_bytes (h 12 (by decide)) (h 13 (by decide)) (h 14 (by decide)) (h 15 (by decide))
    disposition := h 16 (by decide)
    flags := fun i hi => (congrArg (fun b : Byte => b.getLsbD i) (h 17 (by decide))).trans (latchedFlags_bit _ i hi)
    fingerprint := Memory.read16_of_bytes (h 18 (by decide)) (h 19 (by decide))
    references := ⟨Memory.read16_of_bytes (h 20 (by decide)) (h 21 (by decide)),
      Memory.read16_of_bytes (h 22 (by decide)) (h 23 (by decide)),
      Memory.read16_of_bytes (h 24 (by decide)) (h 25 (by decide)),
      Memory.read16_of_bytes (h 26 (by decide)) (h 27 (by decide))⟩
    counts := ⟨Memory.read16_of_bytes (h 28 (by decide)) (h 29 (by decide)),
      Memory.read16_of_bytes (h 30 (by decide)) (h 31 (by decide)), h 32 (by decide), h 33 (by decide)⟩
    margins := ⟨Memory.read16_of_bytes (h 34 (by decide)) (h 35 (by decide)),
      Memory.read16_of_bytes (h 36 (by decide)) (h 37 (by decide))⟩ }

/-- Every site record lies below the wafer map (R163). -/
theorem siteRecordBase_add_lt_mapBase (f : FrameNo) (k : SiteNo) : siteRecordBase f k + 38 < mapBase := by
  unfold siteRecordBase frameBase mapBase
  omega

/-! ### Record, map entry and report of an end -/

/-- The last of the end actions of R52: a site record is written, the map code too, and the site reports END. -/
def State.fileEnd (k : SiteNo) (o : SiteOutcome) (d : Disposition) (serial : Word) (s : State) : State :=
  State.report k (State.writeMap k o (State.writeRecord k o d serial s))

/-- The end actions are the settlement of the key, its removal, and then record, map code and report (R52). -/
theorem State.endActions_fst (k : SiteNo) (o : SiteOutcome) (s : State) :
    (s.endActions k o).1 = State.fileEnd k o (s.settleKey k o).2.1 (s.site k).seq.heldSerial
      ((s.settleKey k o).1.onSeq k fun q => { q with key := none }) := rfl

theorem State.writeRecord_of_running {s : State} {f : FrameNo} (k : SiteNo) (o : SiteOutcome) (d : Disposition) (serial : Word)
    (hf : s.sched.running = some f) :
    s.writeRecord k o d serial = s.store (siteRecordBase f k) (recordBytes k (s.site k) s.workingRecipe o d serial) := by
  simp [State.writeRecord, hf]

/-- A map write changes exchange memory alone. -/
theorem State.writeMap_frame (k : SiteNo) (o : SiteOutcome) (s : State) :
    s.writeMap k o = { s with mem := (s.writeMap k o).mem } := by
  unfold State.writeMap
  dsimp only
  split
  · split <;> rfl
  · rfl

/-- What a map write can do to a read (R158, R161). -/
theorem State.read_writeMap {s : State} {k : SiteNo} {o : SiteOutcome} {code : Byte}
    (hcode : mapCodeOf o (s.site k).seq.pulsed = some code) (a : Nat) :
    Memory.read (s.writeMap k o).mem a
      = if onMap (s.site k).seq.dieX (s.site k).seq.dieY = true ∧ a = s.mapEntryOf k then code else Memory.read s.mem a := by
  unfold State.writeMap
  simp only [hcode]
  split
  · rename_i hon
    simp only [hon, true_and, State.store_mem, Memory.writeBytes, Memory.read_write, State.mapEntryOf]
  · rename_i hon
    rw [if_neg (fun h => hon h.1)]

section FileEnd

variable {s : State} {f : FrameNo} {k : SiteNo} {o : SiteOutcome} {d : Disposition} {serial : Word} {code : Byte}

/-- Record, map code and report change exchange memory and the set of sites ended. -/
theorem State.fileEnd_frame (hf : s.sched.running = some f) :
    s.fileEnd k o d serial = { s with
      mem := (s.fileEnd k o d serial).mem, sched := { s.sched with ended := put s.sched.ended k true } } := by
  unfold State.fileEnd
  rw [State.writeMap_frame, State.writeRecord_of_running k o d serial hf]
  generalize recordBytes k (s.site k) s.workingRecipe o d serial = bs
  rfl

theorem State.fileEnd_site (hf : s.sched.running = some f) (j : SiteNo) : (s.fileEnd k o d serial).site j = s.site j := by
  rw [State.fileEnd_frame hf]
  rfl

/-- What record and map code can do to a read: the map entry, the record, every other byte. -/
theorem State.read_fileEnd (hf : s.sched.running = some f) (hcode : mapCodeOf o (s.site k).seq.pulsed = some code) (a : Nat) :
    Memory.read (s.fileEnd k o d serial).mem a =
      if onMap (s.site k).seq.dieX (s.site k).seq.dieY = true ∧ a = s.mapEntryOf k then code
      else if siteRecordBase f k ≤ a ∧ a < siteRecordBase f k + 38 then
        (recordBytes k (s.site k) s.workingRecipe o d serial).getD (a - siteRecordBase f k) 0
      else Memory.read s.mem a := by
  have hlen := length_recordBytes k (s.site k) s.workingRecipe o d serial
  rw [State.fileEnd, State.report_mem, State.writeRecord_of_running k o d serial hf]
  generalize recordBytes k (s.site k) s.workingRecipe o d serial = bs at hlen ⊢
  rw [State.read_writeMap (s := s.store (siteRecordBase f k) bs) hcode, State.store_mem, Memory.read_writeBytes, hlen]
  rfl

/-- The record shows what R134 says of the site as it stands. -/
theorem State.fileEnd_recordShows (hf : s.sched.running = some f) (hcode : mapCodeOf o (s.site k).seq.pulsed = some code) :
    (s.fileEnd k o d serial).RecordShows f k o d.code serial := by
  refine State.recordShows_of_read fun i hi => ?_
  have hlow := siteRecordBase_add_lt_mapBase f k
  have hmap : siteRecordBase f k + i ≠ s.mapEntryOf k := by
    unfold State.mapEntryOf
    omega
  rw [State.read_fileEnd hf hcode, if_neg (fun h => hmap h.2), if_pos (by omega), Nat.add_sub_cancel_left, State.fileEnd_frame hf]
  rfl

/-- The map entry of a die on the map carries the map code. -/
theorem State.fileEnd_map (hf : s.sched.running = some f) (hcode : mapCodeOf o (s.site k).seq.pulsed = some code)
    (hon : onMap (s.site k).seq.dieX (s.site k).seq.dieY = true) :
    Memory.read (s.fileEnd k o d serial).mem (s.mapEntryOf k) = code := by
  rw [State.read_fileEnd hf hcode, if_pos ⟨hon, rfl⟩]

/-- Every byte but the record's and the map entry reads as before. -/
theorem State.fileEnd_read_other (hf : s.sched.running = some f) (hcode : mapCodeOf o (s.site k).seq.pulsed = some code)
    {a : Nat} (ha : a < siteRecordBase f k ∨ siteRecordBase f k + 38 ≤ a) (hmap : a ≠ s.mapEntryOf k) :
    Memory.read (s.fileEnd k o d serial).mem a = Memory.read s.mem a := by
  rw [State.read_fileEnd hf hcode, if_neg (fun h => hmap h.2), if_neg (by omega)]

end FileEnd

/-! ### The end of a site that holds no key -/

/-- A site that has entered END and let go of its key stands as `Site.asEnded` says (R51, R52). -/
theorem Site.enterEnd_without_key (o : SiteOutcome) (x : Site) :
    { x.enterEnd o with seq := { (x.enterEnd o).seq with key := none } } = x.asEnded o := by
  have hport : x.port.atEnd = if x.port.op = none ∨ x.port.op = some .contactSample then { selection := none, op := none } else x.port := by
    unfold Port.atEnd
    rcases x.port.op with _ | _ | _ | _ | _ <;> simp [PortOp.outlivesEnd]
  rw [Site.enterEnd, Site.asEnded, ← hport]
  rfl

/-- A running site with neither key nor burst request ends: it withdraws its draw request, enters END, and files its end (R51, R52). -/
theorem State.endSite_keyless {s : State} {k : SiteNo} (o : SiteOutcome) (hrun : (s.site k).seq.state.isRunning = true)
    (hkey : (s.site k).seq.key = none) (hreq : look s.arbiter.requests k = none) :
    s.endSite k o = State.fileEnd k o .none 0 ((s.withdrawDraw k).onSite k fun x => x.asEnded o) := by
  have hburst : (s.withdrawDraw k).withdrawBurst k = s.withdrawDraw k := by
    simp [State.withdrawBurst, hreq]
  set u := (s.withdrawDraw k).onSite k (Site.enterEnd o) with hu
  have hnone : (u.site k).seq.key = none := by
    rw [hu, State.onSite_site_same]
    exact hkey
  have hsettle : u.settleKey k o = (u, .none, []) := by simp [State.settleKey, hnone]
  have hwith : s.endSiteWith k o = u.endActions k o := by
    rw [State.endSiteWith, if_pos hrun, hburst]
  have hgrants : (u.endActions k o).2 = [] := by simp [State.endActions, hsettle]
  have hserial : (u.site k).seq.heldSerial = 0 := by simp [Sequencer.heldSerial, hnone]
  rw [State.endSite, hwith, hgrants, State.deliver, List.foldl_nil, State.endActions_fst, hsettle, hserial, hu]
  simp only [State.onSeq_eq, State.onSite_onSite, Site.enterEnd_without_key]

/-- A running site with neither key nor burst request ends as R51 to R53 say. -/
theorem State.endSite_endsKeyless {s : State} {f : FrameNo} {k : SiteNo} {o : SiteOutcome} {code : Byte}
    (hrun : (s.site k).seq.state.isRunning = true) (hkey : (s.site k).seq.key = none) (hf : s.sched.running = some f)
    (hreq : look s.arbiter.requests k = none) (hcode : mapCodeOf o (s.site k).seq.pulsed = some code) :
    s.EndsKeyless (s.endSite k o) f k o code := by
  rw [State.endSite_keyless o hrun hkey hreq]
  set u := (s.withdrawDraw k).onSite k fun x => x.asEnded o with hu
  have hfu : u.sched.running = some f := hf
  have husite : u.site k = (s.site k).asEnded o := State.onSite_site_same _ _ _
  have hcodeu : mapCodeOf o (u.site k).seq.pulsed = some code := by rw [husite]; exact hcode
  have hentry : u.mapEntryOf k = s.mapEntryOf k := by rw [State.mapEntryOf, husite]; rfl
  have htsite : (u.fileEnd k o .none 0).site k = (s.site k).asEnded o := by rw [State.fileEnd_site hfu, husite]
  have hframe := State.fileEnd_frame (k := k) (o := o) (d := .none) (serial := 0) hfu
  exact {
    ended := {
      state := by rw [htsite]; rfl
      outcome := by rw [htsite]; rfl
      key := by rw [htsite]; rfl
      timers := by rw [htsite]; exact ⟨rfl, rfl⟩
      plan := by rw [htsite]; rfl
      former := by rw [htsite]; exact ⟨rfl, rfl, rfl, rfl, rfl⟩
      noDraw := by rw [hframe]; exact look_put_same _ _ _
      noRequest := by rw [hframe]; exact hreq
      reported := by rw [hframe]; exact look_put_same _ _ _ }
    record := State.fileEnd_recordShows hfu hcodeu
    site := htsite
    map := fun hon => by
      rw [← hentry]
      exact State.fileEnd_map hfu hcodeu (by rw [husite]; exact hon)
    memory := fun a ha hmap => State.fileEnd_read_other hfu hcodeu ha (by rw [hentry]; exact hmap)
    others := fun j hj => by
      rw [State.fileEnd_site hfu]
      exact State.onSite_site_other _ _ (Ne.symm hj)
    rest := by
      rw [hframe]
      rfl }

/-- The end of a site asks no hand-back while another site of the frame has not reported END (R146). -/
theorem State.EndsKeyless.settle_eq {s t : State} {f : FrameNo} {k j : SiteNo} {o : SiteOutcome} {code : Byte}
    (h : s.EndsKeyless t f k o code) (hj : j ≠ k) (hended : look s.sched.ended j = false) : t.settle = t := by
  refine State.settle_of_not_ended (k := j) ?_
  rw [h.rest]
  simpa [look_put, Ne.symm hj] using hended

/-- What the site's end sets anyway may be changed before it. -/
theorem State.EndsKeyless.of_onSite {s t : State} {f : FrameNo} {k : SiteNo} {o : SiteOutcome} {code : Byte} {g : Site → Site}
    (h : (s.onSite k g).EndsKeyless t f k o code) (hg : (g (s.site k)).asEnded o = (s.site k).asEnded o) :
    s.EndsKeyless t f k o code := by
  have hsite := h.site
  rw [State.onSite_site_same, hg] at hsite
  have hx : (g (s.site k)).seq.dieX = (s.site k).seq.dieX := by
    simpa [Site.asEnded] using congrArg (fun x : Site => x.seq.dieX) hg
  have hy : (g (s.site k)).seq.dieY = (s.site k).seq.dieY := by
    simpa [Site.asEnded] using congrArg (fun x : Site => x.seq.dieY) hg
  have hentry : (s.onSite k g).mapEntryOf k = s.mapEntryOf k := by
    simp only [State.mapEntryOf, State.onSite_site_same, hx, hy]
  exact {
    ended := h.ended
    record := h.record
    site := hsite
    map := fun hon => hentry ▸ h.map (by rw [State.onSite_site_same, hx, hy]; exact hon)
    memory := fun a ha hmap => h.memory a ha (hentry ▸ hmap)
    others := fun j hj => (h.others j hj).trans (State.onSite_site_other _ _ (Ne.symm hj))
    rest := h.rest }

end Sys2Proof.Machine

/-!
PROOF. Stops at a boundary, the end of one site among others, and the reference read: O40.
-/

namespace Sys2Proof.Machine

/-! ### Stops at a boundary -/

/-- A change of one site makes no hand-back due (R146). -/
theorem State.NoHandBackDue.settle_onSite {s : State} (h : s.NoHandBackDue) (k : SiteNo) (g : Site → Site) :
    (s.onSite k g).settle = s.onSite k g := (h.of_sched (t := s.onSite k g) rfl).settle_eq

/-- A site that no stop keeps from going on finds no stop due at its boundary (R55, R56). -/
theorem State.RunsOn.stopDue_eq {s : State} {k : SiteNo} (h : s.RunsOn k) : (s.site k).seq.stopDue = false := by
  obtain hnone | ⟨hsoft, hpulsed, hkey⟩ := h
  · simp [Sequencer.stopDue, hnone]
  · simp [Sequencer.stopDue, Sequencer.holdsPulsedKey, hsoft, hpulsed, Option.isSome_iff_ne_none, hkey]

/-- A site with no stop due goes on. -/
theorem State.unlessStopped_eq {s : State} {k : SiteNo} (go : State → State) (h : (s.site k).seq.stopDue = false) :
    s.unlessStopped k go = go s := by
  simp [State.unlessStopped, h]

/-! ### The end of one site among others, as its command answers it -/

/-- The end of a keyless site of a frame in which another site still runs is all that follows (R51 to R53, R146). -/
theorem State.EndsAlone.endSite_settle {s : State} {f : FrameNo} {k : SiteNo} {o : SiteOutcome} {code : Byte} (h : s.EndsAlone f k)
    (hrun : (s.site k).seq.state.isRunning = true) (hkey : (s.site k).seq.key = none)
    (hcode : mapCodeOf o (s.site k).seq.pulsed = some code) :
    (s.endSite k o).settle = s.endSite k o ∧ s.EndsKeyless (s.endSite k o) f k o code := by
  obtain ⟨hf, hreq, j, hj, hended⟩ := h
  have hends := State.endSite_endsKeyless hrun hkey hf hreq hcode
  exact ⟨hends.settle_eq hj hended, hends⟩

/-! ### The reference read -/

theorem State.recordRefs_eq (k : SiteNo) (o b : SenseCode) (s : State) :
    s.recordRefs k o b = s.refsRecorded k (takeRefs s.workingRecipe o b) := by
  rw [State.recordRefs, State.onSeq_eq, State.endOp_eq, State.onSite_onSite]
  rfl

theorem State.refsRecorded_eq (s : State) (k : SiteNo) (refs : RefSet) :
    s.refsRecorded k refs = s.onSite k fun x => { x with seq := { x.seq with refs := refs }, port := { x.port with op := none } } :=
  rfl

@[simp] theorem State.refsRecorded_workingRecipe (s : State) (k : SiteNo) (refs : RefSet) :
    (s.refsRecorded k refs).workingRecipe = s.workingRecipe := rfl

@[simp] theorem State.refsRecorded_site_same (s : State) (k : SiteNo) (refs : RefSet) :
    (s.refsRecorded k refs).site k
      = { s.site k with seq := { (s.site k).seq with refs := refs }, port := { (s.site k).port with op := none } } :=
  look_put_same _ _ _

/-- The completion of the reference read of a running site (R12, R38). -/
theorem exec_referenceReadCompletion {s : State} {k : SiteNo} (o b : SenseCode) (hop : s.opOf k = some .referenceRead)
    (hrun : (s.site k).seq.state.isRunning = true) :
    exec (.referenceReadCompletion k o b) s
      = .next ((s.refsRecorded k (takeRefs s.workingRecipe o b)).afterRefs k o b).settle := by
  show execReferenceReadCompletion k o b s = _
  rw [execReferenceReadCompletion, if_pos hop, if_pos hrun, State.recordRefs_eq]

theorem windowPasses_iff (m : Nat) (o b : SenseCode) : windowPasses m o b = true ↔ (m : Int) ≤ b.val - o.val :=
  decide_eq_true_iff

/-- A window that opens upward has its width as d in both thresholds (R17, R20). -/
theorem threshold_eq {o b : SenseCode} (h : o.val ≤ b.val) (weight : Nat) :
    threshold o (windowOf o b) weight = o.val + (b.val - o.val) * weight / 8 := by
  have : (windowOf o b).toNat = b.val - o.val := by
    unfold windowOf
    omega
  rw [threshold, this]

/-- A window of at least 16 codes keeps the two thresholds apart and inside it, for weights 0 <= wi < wb <= 7 (R20). -/
theorem thresholds_ordered {d wi wb : Nat} (hd : 16 ≤ d) (hw : wi < wb) (hb : wb ≤ 7) :
    d * wi / 8 < d * wb / 8 ∧ d * wb / 8 ≤ d := by
  have hstep : d * wi + d ≤ d * wb := by
    rw [← Nat.mul_succ]
    exact Nat.mul_le_mul_left d hw
  have htop : d * wb ≤ d * 7 := Nat.mul_le_mul_left d hb
  omega

/-- Settles O40: the window check of R18, then the thresholds of R20 or the end of the site. -/
theorem referenceReadJudgesTheWindow : Obligations.ReferenceReadJudgesTheWindow := by
  intro k o b s hop hstate
  have hrun : (s.site k).seq.state.isRunning = true := by rw [hstate]; rfl
  rw [exec_referenceReadCompletion o b hop hrun]
  refine ⟨fun hwindow hstop hback => ?_, fun f hwindow halone hkey hpulsed => ?_⟩
  · have hpasses := (windowPasses_iff s.workingRecipe.minWindow o b).2 hwindow
    have hle : o.val ≤ b.val := by omega
    refine ⟨?_, fun hrange => ?_⟩
    · have hrefs : takeRefs s.workingRecipe o b =
          { refOpen := o.val, refBlown := b.val, d := b.val - o.val, tI := o.val + (b.val - o.val) * s.workingRecipe.wi / 8,
            tB := o.val + (b.val - o.val) * s.workingRecipe.wb / 8 } := by
        simp only [takeRefs, if_pos hpasses, threshold_eq hle]
        rfl
      have hgo : ((s.refsRecorded k (takeRefs s.workingRecipe o b)).site k).seq.stopDue = false := by
        rw [State.refsRecorded_site_same]
        exact State.RunsOn.stopDue_eq (Or.inl hstop)
      rw [State.afterRefs, State.refsRecorded_workingRecipe, if_pos hpasses,
        State.unlessStopped_eq _ hgo, hrefs]
      simp only [State.issueVerify, State.issueOp_eq, State.onSeq_eq, State.refsRecorded_eq, State.onSite_onSite,
        hback.settle_onSite]
      rfl
    · obtain ⟨-, -, -, -, ⟨-, hb⟩, hw, ⟨hmin, -⟩, -⟩ := hrange
      have := thresholds_ordered (d := b.val - o.val) (by omega) hw hb
      omega
  · have hfails : windowPasses s.workingRecipe.minWindow o b = false := by
      rw [Bool.eq_false_iff, Ne, windowPasses_iff]
      omega
    have hrefs : takeRefs s.workingRecipe o b = { refOpen := o.val, refBlown := b.val, d := b.val - o.val, tI := 0, tB := 0 } := by
      simp only [takeRefs, hfails]
      rfl
    set u := s.refsRecorded k (takeRefs s.workingRecipe o b) with hu
    have halone' : u.EndsAlone f k := halone
    obtain ⟨hsettle, hends⟩ := halone'.endSite_settle (o := .refFail) (code := 5)
      (by rw [hu, State.refsRecorded_site_same]; exact hrun) (by rw [hu, State.refsRecorded_site_same]; exact hkey) rfl
    have htrefs : ((u.endSite k .refFail).site k).seq.refs = takeRefs s.workingRecipe o b := by
      rw [hends.site, hu, State.refsRecorded_site_same]
      rfl
    refine ⟨u.endSite k .refFail, ?_, ?_, htrefs.trans hrefs⟩
    · rw [State.afterRefs, hu, State.refsRecorded_workingRecipe, hfails, if_neg (by decide), ← hu, hsettle]
    · rw [htrefs]
      exact hends

end Sys2Proof.Machine

/-!
PROOF. The completed verify and the blank judgement (R16, R21, R22, R39): O42.
-/

namespace Sys2Proof.Machine

/-! ### The verify -/

/-- A verify judged from two reads is the one the part computes from them (R21, R22). -/
theorem RowVerify.JudgedFrom.eq_verifyRow {v : RowVerify} {refs : RefSet} {a b : LaneCodes} (h : v.JudgedFrom refs a b) :
    v = verifyRow refs a b := by
  obtain ⟨cells, lo, hi⟩ := v
  have hlo : lo = Vector.ofFn fun c => min (look a c) (look b c) := look_ext fun c => by
    obtain ⟨hlo, -, -⟩ := h c
    rw [look_ofFn, ← hlo]
  have hhi : hi = Vector.ofFn fun c => max (look a c) (look b c) := look_ext fun c => by
    obtain ⟨-, hhi, -⟩ := h c
    rw [look_ofFn, ← hhi]
  have hcells : cells = Vector.ofFn fun c => classOf refs (min (look a c) (look b c)) (max (look a c) (look b c)) :=
    look_ext fun c => by
      obtain ⟨hlo, hhi, hclass⟩ := h c
      rw [hclass, hlo, hhi, look_ofFn, classOf]
  rw [verifyRow, hlo, hhi, hcells]

theorem State.verifyRecorded_eq (s : State) (k : SiteNo) (row : Row) (v : RowVerify) :
    s.verifyRecorded k row v = s.onSite k fun x =>
      { x with
        seq := { x.seq with verified := put x.seq.verified row (some v), laneA := none }, port := { x.port with op := none } } :=
  rfl

@[simp] theorem State.verifyRecorded_site_same (s : State) (k : SiteNo) (row : Row) (v : RowVerify) :
    (s.verifyRecorded k row v).site k = { s.site k with
      seq := { (s.site k).seq with verified := put (s.site k).seq.verified row (some v), laneA := none }
      port := { (s.site k).port with op := none } } :=
  look_put_same _ _ _

@[simp] theorem State.verifyRecorded_workingRecipe (s : State) (k : SiteNo) (row : Row) (v : RowVerify) :
    (s.verifyRecorded k row v).workingRecipe = s.workingRecipe := rfl

theorem State.recordVerify_eq (k : SiteNo) (row : Row) (v : RowVerify) (s : State) :
    s.recordVerify k row v = s.verifyRecorded k row v := by
  rw [State.recordVerify, State.onSeq_eq, State.endOp_eq, State.onSite_onSite, State.verifyRecorded_eq]

/-- The completion of read B of a running site: the verify is recorded and the site acts on it (R21). -/
theorem State.Verifying.exec_eq {s : State} {k : SiteNo} {row : Row} {codes : LaneCodes} {v : RowVerify}
    (h : s.Verifying k row codes v) (hrun : (s.site k).seq.state.isRunning = true) :
    exec (.verifyCompletion k codes) s = .next ((s.verifyRecorded k row v).afterVerify k row v).settle := by
  obtain ⟨hop, a, hlane, hjudged⟩ := h
  have hv : s.verifyOf k codes = v := by
    rw [State.verifyOf, hlane, hjudged.eq_verifyRow]
    rfl
  show execVerifyCompletion k codes s = _
  simp only [execVerifyCompletion, hop, if_pos hrun, hv, State.recordVerify_eq]

/-! ### The blank judgement -/

/-- A pair reads 1 exactly if one of its cells is BLOWN (R14). -/
theorem pairsReadingOne_eq (v : RowVerify) : pairsReadingOne v.cells = v.blownPairs := by
  unfold pairsReadingOne RowVerify.blownPairs
  refine List.countP_congr fun b _ => ?_
  rw [beq_iff_eq, pairOf, pairRead_bit_eq_some]
  simp

theorem lockPairs_eq {len : KeyLength} {verified : Vector (Option RowVerify) 19} {v : RowVerify}
    (h : look verified len.lockRow = some v) : lockPairs len verified = v.blownPairs := by
  simp [lockPairs, h, pairsReadingOne_eq]

theorem rowIntact_iff (verified : Vector (Option RowVerify) 19) (r : Row) :
    rowIntact verified r = true ↔ ∃ u, look verified r = some u ∧ ∀ c, look u.cells c = .intact := by
  unfold rowIntact
  cases look verified r <;> simp

/-- Every row of the field reads INTACT throughout exactly if each row up to the lock row does (R1, R16). -/
theorem rows_all_iff (len : KeyLength) (p : Row → Bool) : len.rows.all p = true ↔ ∀ r ≤ len.lockRow, p r = true := by
  simp [KeyLength.rows, imp_iff_not_or]

section Judge

variable {len : KeyLength} {verified : Vector (Option RowVerify) 19} {v : RowVerify}

theorem judgeBlank_locked (hv : look verified len.lockRow = some v) (h : 8 ≤ v.blownPairs) : judgeBlank len verified = .locked := by
  rw [judgeBlank, lockPairs_eq hv, if_pos h]

theorem judgeBlank_dirty (hv : look verified len.lockRow = some v) (h : v.blownPairs < 8)
    (hrow : ∃ r ≤ len.lockRow, rowIntact verified r = false) : judgeBlank len verified = .dirty := by
  obtain ⟨r, hr, hdirty⟩ := hrow
  have hall : ¬ len.rows.all (rowIntact verified) = true := fun hall => by
    rw [(rows_all_iff _ _).1 hall r hr] at hdirty
    cases hdirty
  rw [judgeBlank, lockPairs_eq hv, if_neg (by omega), if_neg hall]

theorem judgeBlank_blank (hv : look verified len.lockRow = some v) (hrows : ∀ r ≤ len.lockRow, rowIntact verified r = true) :
    judgeBlank len verified = .blank := by
  have hintact : ∀ c, look v.cells c = .intact := by
    obtain ⟨u, hu, hcells⟩ := (rowIntact_iff _ _).1 (hrows _ (le_refl _))
    obtain rfl : u = v := Option.some.inj (hu.symm.trans hv)
    exact hcells
  have hnone : v.blownPairs = 0 := by simp [RowVerify.blownPairs, hintact]
  rw [judgeBlank, lockPairs_eq hv, if_neg (by omega), if_pos ((rows_all_iff _ _).2 hrows)]

end Judge

/-- A verify of a running blank check, as the site in BLANK acts on it (R39). -/
theorem State.Verifying.exec_blank {s : State} {k : SiteNo} {row : Row} {codes : LaneCodes} {v : RowVerify}
    (h : s.Verifying k row codes v) (hstate : (s.site k).seq.state = .blank) :
    exec (.verifyCompletion k codes) s = .next ((s.verifyRecorded k row v).blankVerified k row).settle := by
  have hblank : ((s.verifyRecorded k row v).site k).seq.state = .blank := by rw [State.verifyRecorded_site_same]; exact hstate
  rw [h.exec_eq (by rw [hstate]; rfl), State.afterVerify, hblank]

/-- The verify of a row stands in the field as it was recorded. -/
theorem State.look_verified_verifyRecorded (s : State) (k : SiteNo) (row r : Row) (v : RowVerify) :
    look ((s.verifyRecorded k row v).site k).seq.verified r = if row = r then some v else look (s.site k).seq.verified r := by
  rw [State.verifyRecorded_site_same]
  exact look_put _ _ _ _

/-- The lock row's verify of a keyless blank check that is judged against the site ends it (R39). -/
theorem State.Verifying.endsKeyless_of_judged {s : State} {f : FrameNo} {k : SiteNo} {codes : LaneCodes} {v : RowVerify}
    {o : SiteOutcome} {code : Byte} (h : s.Verifying k s.workingRecipe.keyLength.lockRow codes v)
    (hstate : (s.site k).seq.state = .blank) (halone : s.EndsAlone f k) (hkey : (s.site k).seq.key = none)
    (hcode : mapCodeOf o (s.site k).seq.pulsed = some code)
    (hjudged : (s.verifyRecorded k s.workingRecipe.keyLength.lockRow v).blankVerified k s.workingRecipe.keyLength.lockRow
      = (s.verifyRecorded k s.workingRecipe.keyLength.lockRow v).endSite k o) :
    ∃ t, exec (.verifyCompletion k codes) s = .next t
      ∧ (s.verifyRecorded k s.workingRecipe.keyLength.lockRow v).EndsKeyless t f k o code := by
  set u := s.verifyRecorded k s.workingRecipe.keyLength.lockRow v with hu
  have halone' : u.EndsAlone f k := halone
  have hsite := State.verifyRecorded_site_same s k s.workingRecipe.keyLength.lockRow v
  obtain ⟨hsettle, hends⟩ := halone'.endSite_settle (o := o) (code := code) (by rw [hu, hsite, hstate]; rfl)
    (by rw [hu, hsite]; exact hkey) (by rw [hu, hsite]; exact hcode)
  exact ⟨_, by rw [h.exec_blank hstate, ← hu, hjudged, hsettle], hends⟩

/-- Settles O42: the rows before the lock row by R39, the lock row by the judgement of R16. -/
theorem blankCheckJudgesTheField : Obligations.BlankCheckJudgesTheField := by
  intro k row codes v s hv hstate
  refine ⟨fun hrow hstop hback => ?_, fun f hlock halone hkey => ?_⟩
  · have hgo : ((s.verifyRecorded k row v).site k).seq.stopDue = false := by
      rw [State.verifyRecorded_site_same]
      exact State.RunsOn.stopDue_eq (Or.inl hstop)
    have hnext : (s.verifyRecorded k row v).blankVerified k row = (s.verifyRecorded k row v).issueVerify k (nextRow row) := by
      rw [State.blankVerified, State.verifyRecorded_workingRecipe, if_neg (ne_of_lt hrow), State.unlessStopped_eq _ hgo]
    rw [hv.exec_blank hstate, hnext]
    simp only [State.issueVerify, State.issueOp_eq, State.verifyRecorded_eq, State.onSite_onSite, hback.settle_onSite]
    rfl
  · subst hlock
    have hlook := State.look_verified_verifyRecorded s k s.workingRecipe.keyLength.lockRow (v := v)
    have hlast := hlook s.workingRecipe.keyLength.lockRow
    rw [if_pos rfl] at hlast
    refine ⟨fun hfull => ?_, fun hfew hdirty => ?_⟩
    · refine hv.endsKeyless_of_judged hstate halone hkey rfl ?_
      simp only [State.blankVerified, State.verifyRecorded_workingRecipe, judgeBlank_locked hlast hfull, if_true]
    · refine hv.endsKeyless_of_judged hstate halone hkey rfl ?_
      have hrow : ∃ r ≤ s.workingRecipe.keyLength.lockRow,
          rowIntact ((s.verifyRecorded k s.workingRecipe.keyLength.lockRow v).site k).seq.verified r = false := by
        obtain ⟨c, hc⟩ | ⟨r, hr, u, hu, c, hc⟩ := hdirty
        · refine ⟨_, le_refl _, ?_⟩
          rw [Bool.eq_false_iff, Ne, rowIntact_iff, hlast]
          rintro ⟨w, hw, hcells⟩
          exact hc (Option.some.inj hw ▸ hcells c)
        · refine ⟨r, le_of_lt hr, ?_⟩
          rw [Bool.eq_false_iff, Ne, rowIntact_iff, hlook, if_neg (ne_of_gt hr), hu]
          rintro ⟨w, hw, hcells⟩
          exact hc (Option.some.inj hw ▸ hcells c)
      simp only [State.blankVerified, State.verifyRecorded_workingRecipe, judgeBlank_dirty hlast hfew hrow, if_true]

end Sys2Proof.Machine

/-!
PROOF. Choosing and drawing a slot, and the key request of a blank field (R40, R41, R120 to R123): O43.
-/

namespace Sys2Proof.Machine

/-! ### Choosing and drawing a slot -/

/-- The scan passes every slot (R122). -/
theorem mem_scanOrder (cursor i : SlotNo) : i ∈ scanOrder cursor := by
  refine List.mem_map.2 ⟨(i.val + 256 - cursor.val) % 256, List.mem_range.2 (Nat.mod_lt _ (by decide)), ?_⟩
  ext
  simp only [Fin.val_ofNat]
  omega

/-- No slot is drawable exactly if the redraw list is empty and no slot is LOADED (R120, R122). -/
theorem Pool.choose_eq_none_iff (p : Pool) : p.choose = none ↔ p.redraw = [] ∧ ∀ i, look p.slots i ≠ .loaded := by
  unfold Pool.choose
  rcases p.redraw with _ | ⟨i, rest⟩
  · cases hfind : (scanOrder p.cursor).find? fun i => look p.slots i == .loaded with
    | none => simpa [List.find?_eq_none, mem_scanOrder] using hfind
    | some i =>
      have hloaded : look p.slots i = .loaded := by simpa using List.find?_some hfind
      simpa using ⟨i, hloaded⟩
  · simp

/-- The choice of a slot leaves the draw requests alone and does not look at them. -/
theorem Pool.choose_waiting (p : Pool) (w : Vector (Option KeyLength) 16 → Vector (Option KeyLength) 16) :
    Pool.choose { p with waiting := w p.waiting } = p.choose.map fun x => (x.1, { x.2 with waiting := w x.2.waiting }) := by
  unfold Pool.choose
  rcases p.redraw with _ | ⟨i, rest⟩
  · dsimp only
    cases (scanOrder p.cursor).find? fun i => look p.slots i == .loaded <;> rfl
  · rfl

/-- A draw for site k answers the same whether the request waited or came at once (R121, R123). -/
theorem State.draw_enterWaiting (k : SiteNo) (len : KeyLength) (x : Option KeyLength) (s : State) :
    (s.onPool fun p => { p with waiting := put p.waiting k x }).draw k len = s.draw k len := by
  unfold State.draw
  rw [State.onPool_pool, Pool.choose_waiting s.pool fun w => put w k x]
  cases s.pool.choose with
  | none => rfl
  | some c =>
    obtain ⟨i, p⟩ := c
    simp only [Option.map_some, State.drawSlot, put_put]
    rfl

/-- No key is drawn exactly if no slot is drawable. -/
theorem State.draw_eq_none_iff (k : SiteNo) (len : KeyLength) (s : State) :
    s.draw k len = none ↔ s.pool.redraw = [] ∧ ∀ i, s.slotState i ≠ .loaded := by
  show _ ↔ _ ∧ ∀ i, look s.pool.slots i ≠ .loaded
  rw [← Pool.choose_eq_none_iff, State.draw]
  cases s.pool.choose <;> simp

theorem State.lowerLoaded_sched (s : State) : s.lowerLoaded.sched = s.sched := by
  unfold State.lowerLoaded
  dsimp only
  split <;> rfl

theorem State.drawSlot_sched (k : SiteNo) (i : SlotNo) (p : Pool) (s : State) : (s.drawSlot k i p).sched = s.sched := by
  rw [State.drawSlot, State.lowerLoaded_sched, State.store_sched]

/-- A draw leaves the frame scheduler. -/
theorem State.draw_sched {k : SiteNo} {len : KeyLength} {s t : State} {g : KeyGrant} (h : s.draw k len = some (t, g)) :
    t.sched = s.sched := by
  unfold State.draw at h
  split at h
  · cases h
  · cases h
    exact State.drawSlot_sched _ _ _ _

/-- A site's own way through its rows leaves the frame scheduler. -/
theorem State.SupplyWork.sched_eq {s t : State} (h : s.SupplyWork t) : t.sched = s.sched := by
  obtain ⟨p, a, xs, rfl⟩ := h
  rfl

/-- A site that alone waits is the one served next (R121). -/
theorem Pool.nextWaiting_of_alone {p : Pool} {k : SiteNo} {len : KeyLength} (hk : look p.waiting k = some len)
    (hothers : ∀ j, j ≠ k → look p.waiting j = none) : p.nextWaiting = some (k, len) := by
  unfold Pool.nextWaiting
  cases h : allSites.findSome? fun k => (look p.waiting k).map fun len => (k, len) with
  | none =>
    have := List.findSome?_eq_none_iff.1 h k (mem_allSites k)
    simp [hk] at this
  | some x =>
    obtain ⟨j, -, hj⟩ := List.exists_of_findSome?_eq_some h
    obtain rfl : j = k := by
      by_contra hne
      simp [hothers j hne] at hj
    simpa [hk, eq_comm] using hj

/-! ### The key request of a blank field -/

/-- The site enters KEYWAIT with its timer at the key wait of a recipe, or stopped for a key wait of 0 (R40). -/
def Site.asKeywait (r : Recipe) (x : Site) : Site :=
  { x with
    seq := { x.seq with state := .keywait, keyTimer := if r.keyWait = 0 then none else some (r.keyWait * 1000) } }

/-- What enters KEYWAIT, by what its draw finds (R40, R41, R120). -/
theorem State.enterKeywait_eq (k : SiteNo) (s : State) :
    s.enterKeywait k =
      match (s.onSite k (Site.asKeywait s.workingRecipe)).draw k s.workingRecipe.keyLength with
      | some (u, g) => u.takeKeyGrant g
      | none =>
        if s.workingRecipe.keyWait = 0 then
          State.endSite k .keyStarved ((s.onSite k (Site.asKeywait s.workingRecipe)).raise .poolDry)
        else
          ((s.onSite k (Site.asKeywait s.workingRecipe)).raise .poolDry).onPool fun p =>
            { p with waiting := put p.waiting k (some s.workingRecipe.keyLength) } := rfl

/-- The lock row's verify of a blank field sends a site with no stop due to ask for its key (R39, R40). -/
theorem State.Verifying.exec_asks {s : State} {k : SiteNo} {codes : LaneCodes} {v : RowVerify}
    (h : s.Verifying k s.workingRecipe.keyLength.lockRow codes v) (hstate : (s.site k).seq.state = .blank)
    (hlast : ∀ c, look v.cells c = .intact)
    (hrows : ∀ r < s.workingRecipe.keyLength.lockRow, ∃ u, look (s.site k).seq.verified r = some u ∧ ∀ c, look u.cells c = .intact)
    (hstop : (s.site k).seq.stopTaken = .none) :
    exec (.verifyCompletion k codes) s
      = .next ((s.verifyRecorded k s.workingRecipe.keyLength.lockRow v).enterKeywait k).settle := by
  have hlook := State.look_verified_verifyRecorded s k s.workingRecipe.keyLength.lockRow (v := v)
  have hintact : ∀ r ≤ s.workingRecipe.keyLength.lockRow,
      rowIntact ((s.verifyRecorded k s.workingRecipe.keyLength.lockRow v).site k).seq.verified r = true := fun r hr => by
    rw [rowIntact_iff, hlook]
    obtain hlt | rfl := lt_or_eq_of_le hr
    · rw [if_neg (ne_of_gt hlt)]
      exact hrows r hlt
    · exact ⟨v, if_pos rfl, hlast⟩
  have hblank := judgeBlank_blank ((hlook _).trans (if_pos rfl)) hintact
  have hgo : ((s.verifyRecorded k s.workingRecipe.keyLength.lockRow v).site k).seq.stopDue = false := by
    rw [State.verifyRecorded_site_same]
    exact State.RunsOn.stopDue_eq (Or.inl hstop)
  rw [h.exec_blank hstate]
  simp only [State.blankVerified, State.verifyRecorded_workingRecipe, hblank, if_true, State.unlessStopped_eq _ hgo]

/-- Settles O43: the draw at once, the wait, and the starving at limit 0. -/
theorem blankFieldWithoutASlotWaitsOrStarves : Obligations.BlankFieldWithoutASlotWaitsOrStarves := by
  intro k codes v s hv hstate hlast hrows hstop
  rw [hv.exec_asks hstate hlast hrows hstop, State.enterKeywait_eq, State.verifyRecorded_workingRecipe]
  set u := s.verifyRecorded k s.workingRecipe.keyLength.lockRow v with hu
  set w := u.onSite k (Site.asKeywait s.workingRecipe) with hw
  have hwpool : w.pool = s.pool := rfl
  have hwsched : w.sched = s.sched := rfl
  refine ⟨fun hslot hwaiting hback => ?_, fun hredraw hslots => ⟨fun hwait hback => ?_, fun f hwait halone hkey => ?_⟩⟩
  · obtain ⟨⟨t, g⟩, hdraw⟩ : ∃ x, w.draw k s.workingRecipe.keyLength = some x := by
      rw [← Option.ne_none_iff_exists', Ne, State.draw_eq_none_iff]
      rintro ⟨hempty, hnone⟩
      exact hslot.elim (fun h => h hempty) fun ⟨i, hi⟩ => hnone i hi
    have hsettle : (t.takeKeyGrant g).settle = t.takeKeyGrant g :=
      (hback.of_sched (((State.takeKeyGrant_supplyWork g t).sched_eq.trans (State.draw_sched hdraw)).trans hwsched)).settle_eq
    have hnext : Pool.nextWaiting { s.pool with waiting := put s.pool.waiting k (some s.workingRecipe.keyLength) }
        = some (k, s.workingRecipe.keyLength) :=
      Pool.nextWaiting_of_alone (look_put_same _ _ _) fun j hj => (look_put_other _ _ _ _ (Ne.symm hj)).trans (hwaiting j)
    have hkeyDraw : exec .keyDraw (w.onPool fun p => { p with waiting := put p.waiting k (some s.workingRecipe.keyLength) })
        = .next (t.takeKeyGrant g) := by
      show execKeyDraw _ = _
      simp only [execKeyDraw, State.onPool_pool, hwpool, hnext, State.draw_enterWaiting, hdraw]
    rw [hdraw]
    dsimp only
    rw [hsettle, ← hkeyDraw, hw, hu, State.verifyRecorded_eq, State.onSite_onSite]
    rfl
  · have hdraw : w.draw k s.workingRecipe.keyLength = none := (State.draw_eq_none_iff _ _ _).2 ⟨hredraw, hslots⟩
    rw [hdraw]
    dsimp only
    rw [if_neg hwait, (hback.of_sched (by rfl)).settle_eq, hw, hu, State.verifyRecorded_eq, State.onSite_onSite]
    simp only [Site.asKeywait, if_neg hwait]
    rfl
  · have hdraw : w.draw k s.workingRecipe.keyLength = none := (State.draw_eq_none_iff _ _ _).2 ⟨hredraw, hslots⟩
    set e : State := { u with attn := s.attn ||| 0x040#11 } with he
    have hraise : w.raise .poolDry = e.onSite k (Site.asKeywait s.workingRecipe) := rfl
    have halone' : (w.raise .poolDry).EndsAlone f k := halone
    have hsite : (w.raise .poolDry).site k = (u.site k).asKeywait s.workingRecipe := State.onSite_site_same _ _ _
    obtain ⟨hsettle, hends⟩ := halone'.endSite_settle (o := .keyStarved) (code := 5) (by rw [hsite]; rfl)
      (by rw [hsite, hu, State.verifyRecorded_site_same]; exact hkey) rfl
    refine ⟨(w.raise .poolDry).endSite k .keyStarved, ?_, ?_⟩
    · rw [hdraw]
      dsimp only
      rw [if_pos hwait, hsettle]
    · generalize (w.raise .poolDry).endSite k .keyStarved = t at hends ⊢
      rw [hraise] at hends
      exact hends.of_onSite rfl

end Sys2Proof.Machine

/-!
PROOF. The start of an attempt, the folds of the final verify, and the opening of the lock row (R25, R43, R47 to R49, R62 to R65): O53.
-/

namespace Sys2Proof.Machine

/-! ### A burst request arrives -/

/-- The pump takes a burst request as R83, R85, R86 and R90 say. -/
theorem State.pumpTakesRequest_of_onRequest {s t : State} (h : t.supply = s.supply.onRequest s.run) : s.PumpTakesRequest t := by
  refine ⟨fun hoff hpump => ?_, fun hoff hpump hkind => ?_, fun hpump => ?_, fun hpump => ?_⟩
  · obtain ⟨hpump, hrun⟩ | ⟨hpump, hkind⟩ := hpump
    · simp [h, Supply.onRequest, hpump, hrun, hoff, Supply.toRamp]
    · simp [h, Supply.onRequest, hpump, hkind, hoff, Supply.toRamp]
  · simp [h, Supply.onRequest, hpump, hkind, hoff, Supply.toWake]
  · simp [h, Supply.onRequest, hpump]
  · obtain hpump | hpump | hpump | ⟨hpump, hrun⟩ | ⟨hready, hoff⟩ := hpump
    · simp [h, Supply.onRequest, hpump]
    · simp [h, Supply.onRequest, hpump]
    · simp [h, Supply.onRequest, hpump]
    · simp [h, Supply.onRequest, hpump, hrun]
    · cases hp : s.supply.pump with
      | ready => exact absurd hp hready
      | off => simp [h, Supply.onRequest, hp, hoff]
      | idleLow => simp [h, Supply.onRequest, hp, hoff]
      | ramp | wake | hold => simp [h, Supply.onRequest, hp]

/-- A site at the start of attempt n of a row: in BURN_WAIT with the pending set, its former having taken the attempt and cut the first
burst (R43, R62 to R65). -/
def Site.atAttempt (order : BurstOrder) (e : Nat) (row : Row) (n : Nat) (pending : ColSet) (x : Site) : Site :=
  { x with
    seq := { x.seq with state := .burnWait, row := some row, attempt := n, pendingSet := pending }
    former := Former.takeAttempt order e row n pending x.former }

/-- The start of an attempt changes the site and sends the request for its first burst (R43, R46). -/
theorem State.beginAttempt_eq (k : SiteNo) (row : Row) (n : Nat) (pending : ColSet) (s : State) :
    s.beginAttempt k row n pending =
      (s.onSite k (Site.atAttempt s.workingRecipe.burstOrder (s.burstSize k) row n pending)).requestBurst k
        ((s.site k).atAttempt s.workingRecipe.burstOrder (s.burstSize k) row n pending).former.current.length := by
  simp only [State.beginAttempt, State.requestCurrent, State.onSeq_eq, State.onFormer, State.onSite_onSite, State.onSite_site_same]
  rfl

theorem firstList_eq (order : BurstOrder) (pending : ColSet) :
    firstList order pending = if order = .linear then allCols.filter (hasCol pending)
      else (allCols.filter (hasCol pending)).filter fun c => c.val % 2 == 0 := by
  cases order <;> rfl

theorem secondList_eq (order : BurstOrder) (pending : ColSet) :
    secondList order pending = if order = .linear then []
      else (allCols.filter (hasCol pending)).filter fun c => c.val % 2 == 1 := by
  cases order with
  | linear => rfl
  | split =>
    refine List.filter_congr fun c _ => ?_
    unfold isPrimary
    rw [Bool.eq_iff_iff]
    simp

/-- What the former holds once it has taken an attempt (R62, R63, R65). -/
theorem Former.takeAttempt_eq (order : BurstOrder) (e : Nat) (row : Row) (n : Nat) (pending : ColSet) (f : Former) :
    Former.takeAttempt order e row n pending f =
      { state := .requesting, row := some row, attempt := n
        current := if firstList order pending = [] then (secondList order pending).take e else (firstList order pending).take e
        first := (firstList order pending).drop e
        second := if firstList order pending = [] then (secondList order pending).drop e else secondList order pending
        held := [], pulsedCols := if n = 0 then 0 else f.pulsedCols } := by
  unfold Former.takeAttempt Former.cut
  cases h : firstList order pending <;> simp

/-- Attempt n of a row begins as R43, R46 and R62 to R65 say. -/
theorem State.beginAttempt_attemptBegins (k : SiteNo) (row : Row) (n : Nat) (pending : ColSet) (s : State) :
    s.AttemptBegins (s.beginAttempt k row n pending) k row n pending := by
  rintro e cols l₁ l₂ rfl he hfirst hsecond
  rw [← firstList_eq] at hfirst
  rw [← secondList_eq] at hsecond
  have he' : e = s.burstSize k := he
  have hformer := Former.takeAttempt_eq s.workingRecipe.burstOrder e row n pending (s.site k).former
  rw [← hfirst, ← hsecond] at hformer
  rw [State.beginAttempt_eq, ← he', ← hformer]
  exact ⟨State.pumpTakesRequest_of_onRequest rfl, rfl⟩

/-! ### Folding a row of the final verify -/

/-- The least of a start value and the values at the elements of a list that a test holds for, as a greatest lower bound. -/
theorem le_foldl_min_iff {α : Type} (p : α → Bool) (m : α → Int) (x : Int) (l : List α) (worst : Int) :
    x ≤ l.foldl (fun w c => if p c then min w (m c) else w) worst ↔ x ≤ worst ∧ ∀ c ∈ l, p c = true → x ≤ m c := by
  induction l generalizing worst with
  | nil => simp
  | cons a l ih =>
    rw [List.foldl_cons, ih]
    cases hp : p a <;> simp [hp, and_assoc]

/-- The worst blown margin after a fold is the lowest of itself and the margins of the expected-blown cells (R25). -/
theorem le_foldBlown_iff (refs : RefSet) (image : ColSet) (v : RowVerify) (worst x : Int) :
    x ≤ foldBlown refs image v worst ↔ x ≤ worst ∧ ∀ c, hasCol image c = true → x ≤ (look v.lo c).val - refs.tB := by
  rw [foldBlown, le_foldl_min_iff]
  simp [blownMargin]

/-- The worst intact margin after a fold is the lowest of itself and the margins of the expected-intact cells (R25). -/
theorem le_foldIntact_iff (refs : RefSet) (image : ColSet) (v : RowVerify) (worst x : Int) :
    x ≤ foldIntact refs image v worst ↔ x ≤ worst ∧ ∀ c, hasCol image c = false → x ≤ refs.tI - (look v.hi c).val := by
  have hflip : foldIntact refs image v worst
      = allCols.foldl (fun w c => if !hasCol image c then min w (intactMargin refs v c) else w) worst := by
    unfold foldIntact
    congr 1
    funext w c
    cases hasCol image c <;> rfl
  rw [hflip, le_foldl_min_iff]
  simp [intactMargin]

/-- A pair is DEGRADED exactly if one of its two cells is BLOWN (R14). -/
theorem pairRead_beq_degraded (x y : CellClass) : (pairRead x y == .degraded) = ((x == .blown) != (y == .blown)) := by
  cases x <;> cases y <;> rfl

theorem degradedPairs_eq (image : ColSet) (v : RowVerify) :
    degradedPairs image v.cells = (List.finRange 16).countP fun b => hasCol image (primaryCol b)
      && ((look v.cells (primaryCol b) == .blown) != (look v.cells (secondaryCol b) == .blown)) := by
  simp only [degradedPairs, pairOf, pairRead_beq_degraded]

/-- No cell is disturbed exactly if every expected-intact cell is INTACT (R23). -/
theorem disturbSet_eq_zero_iff (image : ColSet) (v : RowVerify) :
    disturbSet image v = 0 ↔ ∀ c, hasCol image c = false → look v.cells c = .intact := by
  rw [disturbSet, colSet_eq_zero_iff]
  simp

/-- Site k after the verify v of a row in FINAL has been recorded and folded (R21, R25, R47). -/
def Site.folded (row : Row) (v : RowVerify) (x : Site) : Site :=
  { x with
    seq := { x.seq with
      verified := put x.seq.verified row (some v), laneA := none
      worstBlown := foldBlown x.seq.refs (planImage x.seq.plan row) v x.seq.worstBlown
      worstIntact := foldIntact x.seq.refs (planImage x.seq.plan row) v x.seq.worstIntact
      degraded := x.seq.degraded + degradedPairs (planImage x.seq.plan row) v.cells }
    port := { x.port with op := none } }

theorem State.foldFinal_verifyRecorded (s : State) (k : SiteNo) (row : Row) (v : RowVerify) :
    (s.verifyRecorded k row v).foldFinal k (planImage (s.site k).seq.plan row) v = s.onSite k fun _ => (s.site k).folded row v := by
  rw [State.foldFinal, State.onSeq_eq, State.verifyRecorded_eq, State.onSite_onSite]
  rfl

/-- A verify in FINAL without a disturbed cell is folded, and the site goes on to the next row or to the tests of R48 (R47). -/
theorem State.Verifying.exec_final {s : State} {k : SiteNo} {row : Row} {codes : LaneCodes} {v : RowVerify}
    (h : s.Verifying k row codes v) (hstate : (s.site k).seq.state = .final)
    (hintact : ∀ c, hasCol (planImage (s.site k).seq.plan row) c = false → look v.cells c = .intact) (hgo : s.RunsOn k) :
    exec (.verifyCompletion k codes) s = .next (State.settle (
      if row = s.workingRecipe.keyLength.checkRow then
        if (s.onSite k fun _ => (s.site k).folded row v).finalPasses k then
          (s.onSite k fun _ => (s.site k).folded row v).beginLocking k
        else (s.onSite k fun _ => (s.site k).folded row v).endSite k .burnFail
      else s.onSite k fun _ =>
        { (s.site k).folded row v with
          seq := { ((s.site k).folded row v).seq with row := some (nextRow row) }
          port := { (s.site k).port with op := some (.rowRead (nextRow row) .nominal) } })) := by
  have hfinal : ((s.verifyRecorded k row v).site k).seq.state = .final := by rw [State.verifyRecorded_site_same]; exact hstate
  have hplan : ((s.verifyRecorded k row v).site k).seq.plan = (s.site k).seq.plan := by rw [State.verifyRecorded_site_same]
  have hdue : ((s.onSite k fun _ => (s.site k).folded row v).site k).seq.stopDue = false := by
    rw [State.onSite_site_same]
    exact hgo.stopDue_eq
  rw [h.exec_eq (by rw [hstate]; rfl), State.afterVerify, hfinal]
  simp only [State.finalVerified, hplan, State.foldFinal_verifyRecorded, (disturbSet_eq_zero_iff _ _).2 hintact,
    State.unlessStopped_eq _ hdue, State.issueVerify, State.issueOp_eq, State.onSeq_eq, State.onSite_onSite]
  rfl

/-- Settles O53: the folds as greatest lower bounds, then the next row or the lock row by the row's place. -/
theorem finalVerifyFoldsTheRowsAndOpensTheLock : Obligations.FinalVerifyFoldsTheRowsAndOpensTheLock := by
  intro k row codes v h key tag s deg hv hstate hgo hback hplan hintact hdeg
  rw [← degradedPairs_eq] at hdeg
  refine ⟨foldBlown (s.site k).seq.refs (planImage (s.site k).seq.plan row) v (s.site k).seq.worstBlown,
    foldIntact (s.site k).seq.refs (planImage (s.site k).seq.plan row) v (s.site k).seq.worstIntact,
    le_foldBlown_iff _ _ _ _, le_foldIntact_iff _ _ _ _, fun hrow => ?_, fun hrow hkey hread htol => ?_⟩
  · rw [hv.exec_final hstate hintact hgo, if_neg (ne_of_lt hrow), hback.settle_onSite, hdeg]
    rfl
  · set u := s.onSite k fun _ => (s.site k).folded row v with hu
    have husite : u.site k = (s.site k).folded row v := State.onSite_site_same _ _ _
    have hpasses : u.finalPasses k = true := by
      rw [State.finalPasses, husite]
      simp only [Site.folded, hkey, Bool.and_eq_true, decide_eq_true_eq]
      exact ⟨hread, hdeg ▸ htol⟩
    have hplan' : (u.site k).seq.plan = rowPlan s.workingRecipe.keyLength key tag := by
      rw [husite]
      exact hplan
    have hsettle : (u.beginLocking k).settle = u.beginLocking k :=
      (hback.of_sched ((State.beginLocking_supplyWork k u).sched_eq.trans (State.onSite_sched s k _))).settle_eq
    have hlocking : u.beginLocking k = (u.onSeq k fun q => { q with phase := .locking }).beginAttempt k
        s.workingRecipe.keyLength.lockRow 0 0xFFFFFFFF#32 := by
      rw [State.beginLocking, (State.onSite_siteWork k _ s).workingRecipe, hplan', planImage_lockRow]
    refine ⟨_, by rw [hv.exec_final hstate hintact hgo, if_pos hrow, if_pos hpasses, hsettle], ?_⟩
    have hbegins := State.beginAttempt_attemptBegins k s.workingRecipe.keyLength.lockRow 0 0xFFFFFFFF#32
      (u.onSeq k fun q => { q with phase := .locking })
    rw [← hlocking] at hbegins
    generalize u.beginLocking k = t at hbegins ⊢
    rw [hdeg]
    rw [State.onSeq_eq, hu, State.onSite_onSite] at hbegins
    exact hbegins

end Sys2Proof.Machine

/-!
PROOF. One evaluation pass of the arbiter, and the pulse a grant issues (R66, R67, R72, R93, R94): O45.
-/

namespace Sys2Proof.Machine

/-! ### One pass -/

/-- Every site has its turn in a pass (R94). -/
theorem mem_passOrder (last k : SiteNo) : k ∈ passOrder last := by
  refine List.mem_map.2 ⟨(k.val + 31 - last.val) % 16, List.mem_range.2 (Nat.mod_lt _ (by decide)), ?_⟩
  ext
  simp only [Fin.val_ofNat]
  omega

/-- A site whose turn granted it something waits no longer (R94). -/
@[simp] theorem State.grant_requests (k : SiteNo) (g : Nat) (chopped : Bool) (s : State) :
    (s.grant k g chopped).arbiter.requests = put s.arbiter.requests k none := rfl

/-- What a turn answers for a waiting site: whole, chopped, or nothing (R94). -/
theorem State.grantTurn_of_some {s : State} {k : SiteNo} {n : Nat} (h : look s.arbiter.requests k = some n) :
    s.grantTurn k = if s.fits n then s.grant k n false
      else if 2 ≤ n ∧ s.fits (chopOf n) = true then s.grant k (chopOf n) true else s := by
  simp only [State.grantTurn, h]

/-- A turn either changes nothing or answers the site's request (R94). -/
theorem State.grantTurn_cases (k : SiteNo) (s : State) :
    s.grantTurn k = s ∨ ∃ g chopped, look s.arbiter.requests k ≠ none ∧ s.grantTurn k = s.grant k g chopped := by
  cases h : look s.arbiter.requests k with
  | none => exact .inl (State.grantTurn_of_none h)
  | some n =>
    rw [State.grantTurn_of_some h]
    split
    · exact .inr ⟨_, _, nofun, rfl⟩
    · split
      · exact .inr ⟨_, _, nofun, rfl⟩
      · exact .inl rfl

/-- A second turn of the same site changes nothing. -/
theorem State.grantTurn_idem (k : SiteNo) (s : State) : (s.grantTurn k).grantTurn k = s.grantTurn k := by
  obtain h | ⟨g, chopped, -, h⟩ := State.grantTurn_cases k s
  · rw [h, h]
  · rw [h]
    exact State.grantTurn_of_none (look_put_same _ _ _)

/-- Turns that change nothing change nothing one after the other. -/
theorem State.foldl_grantTurn_of_fixed {s : State} (h : ∀ j, s.grantTurn j = s) (l : List SiteNo) :
    l.foldl (fun t k => t.grantTurn k) s = s := by
  induction l with
  | nil => rfl
  | cons j l ih => rw [List.foldl_cons, h, ih]

/-- A turn of site k leaves the request of another site. -/
theorem State.grantTurn_requests_other {j k : SiteNo} (h : j ≠ k) (s : State) :
    look (s.grantTurn k).arbiter.requests j = look s.arbiter.requests j := by
  obtain h' | ⟨g, chopped, -, h'⟩ := State.grantTurn_cases k s
  · rw [h']
  · rw [h', State.grant_requests, look_put_other _ _ _ _ (Ne.symm h)]

/-- Where site k alone waits, a pass is its turn (R94). -/
theorem State.evaluate_of_alone {s : State} {k : SiteNo} (hready : s.supply.granting = true)
    (halone : ∀ j, j ≠ k → look s.arbiter.requests j = none) : s.evaluate = s.grantTurn k := by
  have hfixed : ∀ j, (s.grantTurn k).grantTurn j = s.grantTurn k := fun j => by
    by_cases hj : j = k
    · rw [hj, State.grantTurn_idem]
    · exact State.grantTurn_of_none ((State.grantTurn_requests_other hj s).trans (halone j hj))
  have hturns : ∀ l : List SiteNo, k ∈ l → l.foldl (fun t j => t.grantTurn j) s = s.grantTurn k := by
    intro l
    induction l with
    | nil => exact nofun
    | cons j l ih =>
      intro hmem
      by_cases hj : j = k
      · rw [hj, List.foldl_cons, State.foldl_grantTurn_of_fixed hfixed]
      · rw [List.foldl_cons, State.grantTurn_of_none (halone j hj)]
        exact ih ((List.mem_cons.1 hmem).resolve_left (Ne.symm hj))
  rw [State.evaluate, if_pos hready]
  exact hturns _ (mem_passOrder _ _)

/-! ### The pulse of a grant -/

theorem Supply.granting_iff (p : Supply) : p.granting = true ↔ p.pump = .ready ∧ p.offPending = false := by
  simp [Supply.granting]

theorem State.fits_iff (s : State) (g : Nat) :
    s.fits g = true ↔ s.arbiter.inUse + g * s.supply.params.cellCurrent ≤ s.supply.params.budget := decide_eq_true_iff

@[simp] theorem hasCol_and (m n : ColSet) (c : Col) : hasCol (m &&& n) c = (hasCol m c && hasCol n c) := BitVec.getLsbD_and

@[simp] theorem hasCol_not (m : ColSet) (c : Col) : hasCol (~~~m) c = !hasCol m c := by
  simp [hasCol]

@[simp] theorem hasCol_setOf (l : List Col) (c : Col) : hasCol (setOf l) c = l.contains c := hasCol_colSet _ c

/-- The new cells of a pulse are its columns that no earlier pulse of the row carried (R72). -/
theorem Former.newCells_eq (g : Nat) (f : Former) :
    f.newCells g = allCols.countP fun c => (f.current.take g).contains c && !hasCol f.pulsedCols c := by
  rw [Former.newCells, countCols, colsOf, ← List.countP_eq_length_filter]
  exact List.countP_congr fun c _ => by rw [hasCol_and, hasCol_not, hasCol_setOf]

theorem State.grant_site_same (k : SiteNo) (g : Nat) (chopped : Bool) (s : State) :
    (s.grant k g chopped).site k = (s.site k).issuePulse s.workingRecipe g chopped := look_put_same _ _ _

theorem State.grant_site_other {j k : SiteNo} (h : j ≠ k) (g : Nat) (chopped : Bool) (s : State) :
    (s.grant k g chopped).site j = s.site j := look_put_other _ _ _ _ (Ne.symm h)

/-- The grant rule for a site that alone waits: whole, chopped, or nothing (R94). -/
theorem State.evaluate_of_alone_some {s : State} {k : SiteNo} {n : Nat} (hpump : s.supply.pump = .ready)
    (hoff : s.supply.offPending = false) (hk : look s.arbiter.requests k = some n)
    (halone : ∀ j, j ≠ k → look s.arbiter.requests j = none) :
    s.evaluate = if s.fits n then s.grant k n false
      else if 2 ≤ n ∧ s.fits (chopOf n) = true then s.grant k (chopOf n) true else s := by
  rw [State.evaluate_of_alone ((Supply.granting_iff _).2 ⟨hpump, hoff⟩) halone, State.grantTurn_of_some hk]

/-- Settles O45: the one turn of a pass by the grant rule, and the pulse it issues. -/
theorem budgetGrantAppliesTheGrantRule : Obligations.BudgetGrantAppliesTheGrantRule := by
  intro k n g row s
  have hexec : exec .budgetGrant s = .next s.evaluate := rfl
  rw [hexec]
  refine ⟨fun hpump hoff hk halone hrow => ⟨fun hgrant => ?_, fun hwaits => ?_⟩, fun hidle => ?_, fun hnone => ?_⟩
  · have heval : s.evaluate
        = s.grant k g (s.arbiter.inUse + n * s.supply.params.cellCurrent > s.supply.params.budget : Bool) := by
      rw [State.evaluate_of_alone_some hpump hoff hk halone]
      obtain ⟨hfits, rfl⟩ | ⟨hover, htwo, rfl, hfits⟩ := hgrant
      · rw [if_pos ((State.fits_iff _ _).2 hfits), decide_eq_false (by omega)]
      · rw [if_neg (fun h => absurd ((State.fits_iff _ _).1 h) (by omega)),
          if_pos ⟨htwo, (State.fits_iff _ _).2 hfits⟩, decide_eq_true hover, chopOf]
    refine ⟨_, congrArg _ heval, rfl, fun j hj => State.grant_site_other hj _ _ _, ?_⟩
    rw [State.grant_site_same]
    refine ⟨?_, rfl, fun c => ?_, rfl, ⟨setOf ((s.site k).former.current.take g), ?_, hasCol_setOf _⟩, rfl⟩
    · rw [← Former.newCells_eq]
      rfl
    · simp only [Site.issuePulse, Former.takeGrant, hasCol_or, hasCol_setOf]
    · simp only [Site.issuePulse, hrow, Option.map_some]
  · rw [State.evaluate_of_alone_some hpump hoff hk halone, if_neg, if_neg]
    · rw [State.fits_iff, chopOf]
      omega
    · rw [State.fits_iff]
      omega
  · rw [State.evaluate_of_not_granting]
    rw [Bool.eq_false_iff, Ne, Supply.granting_iff]
    rintro ⟨hpump, hoff⟩
    simp [hpump, hoff] at hidle
  · rw [State.evaluate_of_noRequest hnone]

end Sys2Proof.Machine

/-!
PROOF. A verify of a row that is being burned: the retry and the row loop of the BURN phase (R43, R45 to R47): O51 and O52.
-/

namespace Sys2Proof.Machine

/-! ### The retry of a row -/

/-- No expected-blown cell fails exactly if each of them is BLOWN (R23). -/
theorem failingSet_eq_zero_iff (image : ColSet) (v : RowVerify) :
    failingSet image v = 0 ↔ ∀ c, hasCol image c = true → look v.cells c = .blown := by
  rw [failingSet, colSet_eq_zero_iff]
  simp

/-- A verify in VERIFY without a disturbed cell, at a site that no stop keeps from going on, leads to the next attempt or finds the row
done (R45, R46). -/
theorem State.Verifying.exec_burn {s : State} {k : SiteNo} {row : Row} {codes : LaneCodes} {v : RowVerify}
    (h : s.Verifying k row codes v) (hstate : (s.site k).seq.state = .verify)
    (hintact : ∀ c, hasCol (planImage (s.site k).seq.plan row) c = false → look v.cells c = .intact) (hgo : s.RunsOn k) :
    exec (.verifyCompletion k codes) s = .next (State.settle (
      if failingSet (planImage (s.site k).seq.plan row) v ≠ 0 ∧ (s.site k).seq.attempt + 1 < s.workingRecipe.attemptLimit then
        (s.verifyRecorded k row v).beginAttempt k row ((s.site k).seq.attempt + 1) (failingSet (planImage (s.site k).seq.plan row) v)
      else (s.verifyRecorded k row v).rowDone k row)) := by
  have hdue : ((s.verifyRecorded k row v).site k).seq.stopDue = false := by
    rw [State.verifyRecorded_site_same]
    exact hgo.stopDue_eq
  rw [h.exec_eq (by rw [hstate]; rfl), State.afterVerify, State.burnVerified, State.unlessStopped_eq _ hdue]
  simp only [State.verifyRecorded_site_same, State.verifyRecorded_workingRecipe, hstate, (disturbSet_eq_zero_iff _ _).2 hintact,
    ne_eq, not_true_eq_false, if_false]

/-- Settles O51: the failing set is the pending set of the attempt that follows. -/
theorem failingCellsAreBurnedAgain : Obligations.FailingCellsAreBurnedAgain := by
  intro k row codes v s hv hstate hgo hback hintact hfails hleft
  have hfailing : failingSet (planImage (s.site k).seq.plan row) v ≠ 0 := by
    rw [Ne, failingSet_eq_zero_iff]
    obtain ⟨c, hc, hblown⟩ := hfails
    exact fun h => hblown (h c hc)
  rw [hv.exec_burn hstate hintact hgo, if_pos ⟨hfailing, hleft⟩,
    (hback.of_sched (State.beginAttempt_supplyWork k row _ _ (s.verifyRecorded k row v)).sched_eq).settle_eq]
  exact ⟨_, _, rfl, hasCol_colSet _, State.beginAttempt_attemptBegins k row _ _ (s.verifyRecorded k row v)⟩

/-! ### The row loop -/

/-- In an ascending list the first element that a test holds for is the least one. -/
theorem find?_eq_some_of_least {α : Type} [LinearOrder α] {p : α → Bool} {l : List α} {x : α} (hl : l.Pairwise (· < ·)) (hx : x ∈ l)
    (hp : p x = true) (hleast : ∀ y ∈ l, y < x → p y = false) : l.find? p = some x := by
  induction l with
  | nil => cases hx
  | cons a l ih =>
    obtain ⟨hhead, htail⟩ := List.pairwise_cons.1 hl
    obtain rfl | hx := List.mem_cons.1 hx
    · exact List.find?_cons_of_pos hp
    · have ha : p a = false := hleast a List.mem_cons_self (hhead x hx)
      rw [List.find?_cons_of_neg (by simp [ha])]
      exact ih htail hx fun y hy => hleast y (List.mem_cons_of_mem _ hy)

theorem KeyLength.mem_rows (len : KeyLength) (r : Row) : r ∈ len.rows ↔ r ≤ len.lockRow := by
  simp [KeyLength.rows]

theorem KeyLength.rows_ascending (len : KeyLength) : len.rows.Pairwise (· < ·) :=
  (List.pairwise_lt_finRange 19).filter _

/-- The rows below the lock row are those up to the check row (R3). -/
theorem KeyLength.le_checkRow_iff (len : KeyLength) (r : Row) : r ≤ len.checkRow ↔ r ≤ len.lockRow ∧ r ≠ len.lockRow := by
  revert r
  cases len <;> decide

/-- Whether a row is to be burned in the BURN phase, from a row up (R43). -/
def KeyLength.burns (len : KeyLength) (plan : List PlanRow) (lo r : Row) : Bool :=
  decide (lo ≤ r) && r != len.lockRow && planImage plan r != 0

/-- The first row of a row plan that is to be burned is the first row whose image in the plan is not empty (R43). -/
theorem firstBurnRow_rowPlan (len : KeyLength) (key : List Byte) (tag : BitVec 16) (lo : Row) :
    firstBurnRow len (rowPlan len key tag) lo = (len.rows.find? (len.burns (rowPlan len key tag) lo)).map fun r =>
      { row := r, image := planImage (rowPlan len key tag) r } := by
  have himage : ∀ r ∈ len.rows, planImage (rowPlan len key tag) r = rowImage (rowBits len key tag r) := fun r hr =>
    planImage_rowPlan len key tag ((len.mem_rows r).1 hr)
  have hfind : ∀ l : List Row, (∀ r ∈ l, planImage (rowPlan len key tag) r = rowImage (rowBits len key tag r)) →
      (l.map fun r => ({ row := r, image := rowImage (rowBits len key tag r) } : PlanRow)).find?
          (fun e => decide (lo ≤ e.row) && e.row != len.lockRow && e.image != 0)
        = (l.find? (len.burns (rowPlan len key tag) lo)).map fun r =>
          { row := r, image := planImage (rowPlan len key tag) r } := by
    intro l
    induction l with
    | nil => exact fun _ => rfl
    | cons a l ih =>
      intro hl
      obtain ⟨ha, hl⟩ := List.forall_mem_cons.1 hl
      rw [List.map_cons, List.find?_cons, List.find?_cons, ih hl, ← ha]
      show (match len.burns _ lo a with | true => _ | false => _) = _
      cases len.burns (rowPlan len key tag) lo a <;> rfl
  exact hfind _ himage

/-- The first row with a cell to blow is the one that is burned (R43). -/
theorem firstBurnRow_eq_some {len : KeyLength} {key : List Byte} {tag : BitVec 16} {lo next : Row} (hlo : lo ≤ next)
    (hnext : next ≤ len.checkRow) (himage : planImage (rowPlan len key tag) next ≠ 0)
    (hfirst : ∀ r, lo ≤ r → r < next → planImage (rowPlan len key tag) r = 0) :
    firstBurnRow len (rowPlan len key tag) lo
      = some { row := next, image := planImage (rowPlan len key tag) next } := by
  obtain ⟨hlock, hne⟩ := (len.le_checkRow_iff next).1 hnext
  rw [firstBurnRow_rowPlan, find?_eq_some_of_least (x := next) len.rows_ascending ((len.mem_rows _).2 hlock)]
  · rfl
  · simpa [KeyLength.burns, hlo, hne] using himage
  · intro r _ hr
    by_cases hle : lo ≤ r
    · simp [KeyLength.burns, hfirst r hle hr]
    · simp [KeyLength.burns, hle]

/-- With no cell to blow in any row up to the check row, none is left to burn (R43). -/
theorem firstBurnRow_eq_none {len : KeyLength} {key : List Byte} {tag : BitVec 16} {lo : Row}
    (hempty : ∀ r, lo ≤ r → r ≤ len.checkRow → planImage (rowPlan len key tag) r = 0) :
    firstBurnRow len (rowPlan len key tag) lo = none := by
  rw [firstBurnRow_rowPlan, Option.map_eq_none_iff, List.find?_eq_none]
  intro r hr hburns
  simp only [KeyLength.burns, Bool.and_eq_true, decide_eq_true_eq, bne_iff_ne, ne_eq] at hburns
  obtain ⟨⟨hle, hne⟩, himage⟩ := hburns
  exact himage (hempty r hle ((len.le_checkRow_iff r).2 ⟨(len.mem_rows r).1 hr, hne⟩))

theorem State.beginRow_of_some {s : State} {k : SiteNo} {row : Row} {e : PlanRow}
    (h : firstBurnRow s.workingRecipe.keyLength (s.site k).seq.plan row = some e) :
    s.beginRow k row = s.beginAttempt k e.row 0 e.image := by
  simp only [State.beginRow, h]

theorem State.beginRow_of_none {s : State} {k : SiteNo} {row : Row}
    (h : firstBurnRow s.workingRecipe.keyLength (s.site k).seq.plan row = none) : s.beginRow k row = s.enterFinal k := by
  simp only [State.beginRow, h]

/-- A row of the BURN phase becomes current as R43, R46 and R47 say. -/
theorem State.beginRow_rowBegins {s : State} {k : SiteNo} {key : List Byte} {tag : BitVec 16} {row : Row}
    (hplan : (s.site k).seq.plan = rowPlan s.workingRecipe.keyLength key tag) : s.RowBegins (s.beginRow k row) k row.val := by
  refine ⟨fun next hlo hnext himage hfirst => ?_, fun hempty => ?_⟩
  · rw [State.beginRow_of_some (e := { row := next, image := planImage (s.site k).seq.plan next })]
    · exact State.beginAttempt_attemptBegins k next 0 _ s
    · rw [hplan] at himage hfirst ⊢
      exact firstBurnRow_eq_some hlo hnext himage hfirst
  · rw [State.beginRow_of_none]
    · simp only [State.enterFinal, State.issueVerify, State.issueOp_eq, State.onSeq_eq, State.onSite_onSite]
      rfl
    · rw [hplan] at hempty ⊢
      exact firstBurnRow_eq_none hempty

theorem State.rowLeft_eq (s : State) (k : SiteNo) :
    s.rowLeft k = s.onSite k fun x =>
      { x with
        seq := { x.seq with pendingSet := 0 }
        former := { x.former with state := .idle, row := none, attempt := 0, pulsedCols := 0 } } := rfl

@[simp] theorem State.rowLeft_site_same (s : State) (k : SiteNo) :
    (s.rowLeft k).site k = { s.site k with
      seq := { (s.site k).seq with pendingSet := 0 }
      former := { (s.site k).former with state := .idle, row := none, attempt := 0, pulsedCols := 0 } } := look_put_same _ _ _

/-- A done row of the BURN phase leads a site that no stop keeps from going on to its next row (R46). -/
theorem State.rowDone_burn {s : State} {k : SiteNo} {row : Row} (hphase : (s.site k).seq.phase = .burn) (hgo : s.RunsOn k) :
    s.rowDone k row = (s.rowLeft k).beginRow k (nextRow row) := by
  have hleft : (s.onSeq k fun q => { q with pendingSet := 0 }).onFormer k Former.rowDone = s.rowLeft k := by
    rw [State.onSeq_eq, State.onFormer, State.onSite_onSite]
    rfl
  have hdue : ((s.rowLeft k).site k).seq.stopDue = false := by
    rw [State.rowLeft_site_same]
    exact hgo.stopDue_eq
  simp only [State.rowDone, hleft, State.rowLeft_site_same, hphase, State.unlessStopped_eq _ hdue]

theorem nextRow_val {len : KeyLength} {row : Row} (h : row ≤ len.checkRow) : (nextRow row).val = row.val + 1 := by
  have hlast : len.checkRow ≤ 17 := by cases len <;> decide
  have hrow : row.val ≤ 17 := h.trans hlast
  simp only [nextRow, Fin.val_ofNat]
  omega

/-- Settles O52: the row is done, and the row loop finds the next row of the plan or none. -/
theorem doneRowLeadsToTheNextRowOrFinal : Obligations.DoneRowLeadsToTheNextRowOrFinal := by
  intro k row codes v key tag s hv hstate hphase hgo hback hplan hrow hintact hdone
  set u := s.verifyRecorded k row v with hu
  have husite : u.site k = _ := State.verifyRecorded_site_same s k row v
  have hnotAgain : ¬ (failingSet (planImage (s.site k).seq.plan row) v ≠ 0
      ∧ (s.site k).seq.attempt + 1 < s.workingRecipe.attemptLimit) := by
    rintro ⟨hfails, hleft⟩
    obtain hblown | hlimit := hdone
    · exact hfails ((failingSet_eq_zero_iff _ _).2 hblown)
    · omega
  have hrowDone : u.rowDone k row = (u.rowLeft k).beginRow k (nextRow row) :=
    State.rowDone_burn (by rw [husite]; exact hphase) (by unfold State.RunsOn; rw [husite]; exact hgo)
  have hbegins := State.beginRow_rowBegins (s := u.rowLeft k) (k := k) (key := key) (tag := tag) (row := nextRow row)
    (by rw [State.rowLeft_site_same, husite]; exact hplan)
  rw [hv.exec_burn hstate hintact hgo, if_neg hnotAgain, ← hu, hrowDone,
    (hback.of_sched (State.beginRow_supplyWork k (nextRow row) (u.rowLeft k)).sched_eq).settle_eq]
  refine ⟨_, rfl, ?_⟩
  generalize (u.rowLeft k).beginRow k (nextRow row) = t at hbegins ⊢
  rw [nextRow_val hrow, State.rowLeft_eq, hu, State.verifyRecorded_eq, State.onSite_onSite] at hbegins
  exact hbegins

end Sys2Proof.Machine

/-!
PROOF. The release of a grant, and the pulse that ends well (R30, R44, R68, R69, R93, R95): O47.
-/

namespace Sys2Proof.Machine

/-! ### What a release does -/

theorem Arbiter.noRequest_iff (a : Arbiter) : a.noRequest = true ↔ ∀ k, look a.requests k = none := by
  simp [Arbiter.noRequest]

theorem Arbiter.noGrant_iff (a : Arbiter) : a.noGrant = true ↔ ∀ k, look a.grants k = none := by
  simp [Arbiter.noGrant]

/-- The idle timer starts exactly as `State.idleIfQuiet` says (R84, R85, R95, R96). -/
theorem State.startIdleIfQuiet_eq (s : State) : s.startIdleIfQuiet = { s with supply := s.idleIfQuiet } := by
  have hquiet : (s.supply.granting && s.arbiter.noRequest && s.arbiter.noGrant && s.supply.params.idleTime != 0) = true
      ↔ s.supply.pump = .ready ∧ s.supply.offPending = false ∧ (∀ k, look s.arbiter.requests k = none)
        ∧ (∀ k, look s.arbiter.grants k = none) ∧ s.supply.params.idleTime ≠ 0 := by
    simp only [Bool.and_eq_true, Supply.granting_iff, Arbiter.noRequest_iff, Arbiter.noGrant_iff, bne_iff_ne, ne_eq, and_assoc]
  unfold State.startIdleIfQuiet State.idleIfQuiet
  by_cases h : (s.supply.granting && s.arbiter.noRequest && s.arbiter.noGrant && s.supply.params.idleTime != 0) = true
  · rw [if_pos h, if_pos (hquiet.1 h)]
    rfl
  · rw [if_neg h, if_neg (fun h' => h (hquiet.2 h'))]

/-- The current in use falls by a grant, and off pending may complete (R90, R95). -/
theorem State.lowerInUse_eq (k : SiteNo) (g : Nat) (s : State) :
    s.lowerInUse k g = { s with
      arbiter := { s.arbiter with
        grants := put s.arbiter.grants k none, inUse := s.arbiter.inUse - g * s.supply.params.cellCurrent }
      supply := if s.supply.offPending = true ∧ s.arbiter.inUse ≤ g * s.supply.params.cellCurrent then
          { s.supply with
            pump := .off, offPending := false, settleTimer := none, wakeTimer := none, idleTimer := none, holdTimer := none }
        else s.supply } := by
  unfold State.lowerInUse State.completeOffPending
  dsimp only
  have hdue : (s.supply.offPending && s.arbiter.inUse - g * s.supply.params.cellCurrent == 0) = true
      ↔ s.supply.offPending = true ∧ s.arbiter.inUse ≤ g * s.supply.params.cellCurrent := by
    rw [Bool.and_eq_true, beq_iff_eq, Nat.sub_eq_zero_iff_le]
  simp only [hdue]
  split <;> rfl

/-- The grant of a site is released as R90, R93 and R95 say. -/
theorem State.release_releasesTo {s : State} {k : SiteNo} {g : Nat} (h : look s.arbiter.grants k = some g) :
    s.ReleasesTo (s.release k) k g := by
  refine ⟨s.evaluate, (s.evaluate.lowerInUse k g).evaluate, rfl, ?_, ?_⟩
  · rw [← State.lowerInUse_eq]
    rfl
  · simp only [State.release, h]
    exact State.startIdleIfQuiet_eq _

/-! ### A release at the site that is released -/

/-- A pass leaves a site that does not wait: the site, its request and its grant (R94). -/
structure State.PassesBy (k : SiteNo) (s t : State) : Prop where
  site : t.site k = s.site k
  request : look t.arbiter.requests k = none
  grant : look t.arbiter.grants k = look s.arbiter.grants k

theorem State.grantTurn_passesBy {s : State} {k : SiteNo} (h : look s.arbiter.requests k = none) (j : SiteNo) :
    State.PassesBy k s (s.grantTurn j) := by
  obtain hsame | ⟨g, chopped, hwaits, hgrant⟩ := State.grantTurn_cases j s
  · rw [hsame]
    exact ⟨rfl, h, rfl⟩
  · have hj : j ≠ k := fun hjk => hwaits (hjk ▸ h)
    rw [hgrant]
    exact ⟨State.grant_site_other hj.symm g chopped s, by rw [State.grant_requests, look_put_other _ _ _ _ hj, h],
      look_put_other _ _ _ _ hj⟩

theorem State.grantTurns_passesBy {s : State} {k : SiteNo} (h : look s.arbiter.requests k = none) (l : List SiteNo) :
    State.PassesBy k s (l.foldl (fun t j => t.grantTurn j) s) := by
  induction l generalizing s with
  | nil => exact ⟨rfl, h, rfl⟩
  | cons j l ih =>
    have hturn := State.grantTurn_passesBy h j
    have hrest := ih hturn.request
    exact ⟨hrest.site.trans hturn.site, hrest.request, hrest.grant.trans hturn.grant⟩

/-- An evaluation leaves a site that does not wait (R94). -/
theorem State.evaluate_passesBy {s : State} {k : SiteNo} (h : look s.arbiter.requests k = none) : State.PassesBy k s s.evaluate := by
  unfold State.evaluate
  split
  · exact State.grantTurns_passesBy h _
  · exact ⟨rfl, h, rfl⟩

/-- A release leaves the site that is released, which does not wait, without a grant (R95). -/
theorem State.release_passesBy {s : State} {k : SiteNo} {g : Nat} (hgrant : look s.arbiter.grants k = some g)
    (hreq : look s.arbiter.requests k = none) :
    (s.release k).site k = s.site k ∧ look (s.release k).arbiter.requests k = none
      ∧ look (s.release k).arbiter.grants k = none := by
  have hfirst := State.evaluate_passesBy hreq
  have hlower : ((s.evaluate).lowerInUse k g).site k = s.site k ∧ look ((s.evaluate).lowerInUse k g).arbiter.requests k = none
      ∧ look ((s.evaluate).lowerInUse k g).arbiter.grants k = none := by
    rw [State.lowerInUse_eq]
    exact ⟨hfirst.site, hfirst.request, look_put_same _ _ _⟩
  obtain ⟨hsite, hreq', hnone⟩ := hlower
  have hlast := State.evaluate_passesBy hreq'
  have hrelease : s.release k = ((s.evaluate.lowerInUse k g).evaluate).startIdleIfQuiet := by simp only [State.release, hgrant]
  rw [hrelease, State.startIdleIfQuiet_eq]
  exact ⟨hlast.site.trans hsite, hlast.request, hlast.grant.trans hnone⟩

/-! ### The end of a pulse -/

theorem State.pulsing_iff (s : State) (k : SiteNo) : s.pulsing k = true ↔ ∃ w, s.opOf k = some (.pulse w) := by
  unfold State.pulsing Port.lineOn State.opOf
  rcases (s.site k).port.op with _ | _ | _ | _ | _ <;> simp

@[simp] theorem State.pulseDone_site_same (s : State) (k : SiteNo) (truncated : Bool) :
    (s.pulseDone k truncated).site k = { s.site k with
      port := { (s.site k).port with op := none }
      monitor := { (s.site k).monitor with
        phase := .noPulse, limits := none, sample := none, truncated := (s.site k).monitor.truncated || truncated } } :=
  look_put_same _ _ _

theorem State.completePulse_eq (k : SiteNo) (s : State) : s.completePulse k = (s.pulseDone k false).release k := by
  have hdone : (s.endOp k).onMonitor k Monitor.pulseOver = s.pulseDone k false := by
    rw [State.endOp_eq, State.onMonitor, State.onSite_onSite]
    simp only [State.onSite, State.pulseDone, Monitor.pulseOver, Bool.or_false]
  rw [State.completePulse, hdone]

theorem State.truncatePulse_eq (k : SiteNo) (s : State) : s.truncatePulse k = (s.pulseDone k true).release k := by
  have hdone : ((s.endOp k).onMonitor k fun m => { m.pulseOver with truncated := true }) = s.pulseDone k true := by
    rw [State.endOp_eq, State.onMonitor, State.onSite_onSite]
    simp only [State.onSite, State.pulseDone, Monitor.pulseOver, Bool.or_true]
  rw [State.truncatePulse, hdone]

/-- The pulse of a site with no request waiting is over, and its grant is released: the site as the end of the pulse left it (R10, R95). -/
theorem State.pulseDone_release {s : State} {k : SiteNo} {g : Nat} (hgrant : look s.arbiter.grants k = some g)
    (hreq : look s.arbiter.requests k = none) (truncated : Bool) :
    s.PulseEnds ((s.pulseDone k truncated).release k) k g truncated
      ∧ ((s.pulseDone k truncated).release k).site k = (s.pulseDone k truncated).site k
      ∧ look ((s.pulseDone k truncated).release k).arbiter.requests k = none
      ∧ look ((s.pulseDone k truncated).release k).arbiter.grants k = none :=
  ⟨State.release_releasesTo (s := s.pulseDone k truncated) hgrant,
    State.release_passesBy (s := s.pulseDone k truncated) hgrant hreq⟩

theorem State.pulseDone_supplyWork (s : State) (k : SiteNo) (truncated : Bool) : s.SupplyWork (s.pulseDone k truncated) :=
  ⟨s.supply, s.arbiter, _, rfl⟩

theorem State.pulseDone_release_supplyWork (s : State) (k : SiteNo) (truncated : Bool) :
    s.SupplyWork ((s.pulseDone k truncated).release k) :=
  .trans (s.pulseDone_supplyWork k truncated) (State.release_supplyWork k _)

/-- A pulse reaches its full width: it is over, its grant is released, and the site takes its sort (R30). -/
theorem exec_pulseCompletion {s : State} {k : SiteNo} {w : Nat} (sample : Nat) (hop : s.opOf k = some (.pulse w)) :
    exec (.pulseCompletion k sample) s
      = .next (((s.pulseDone k false).release k).takeSort k (s.sortOf k sample)).settle := by
  show execPulseCompletion k sample s = _
  rw [execPulseCompletion, if_pos ((s.pulsing_iff k).2 ⟨w, hop⟩), State.completePulse_eq]

/-! ### The sort of a pulse -/

section SortOf

variable {s : State} {k : SiteNo} {l : PulseLimits} {sample : Nat}

theorem State.sortOf_eq (hl : (s.site k).monitor.limits = some l) :
    s.sortOf k sample = sortCompletion l (min sample 2000) ((s.site k).monitor.holdTouched || s.supply.pump == .hold) := by
  simp only [State.sortOf, hl]
  rfl

theorem State.sortOf_overcurrent (hl : (s.site k).monitor.limits = some l) (h : l.overLimit < min sample 2000) :
    s.sortOf k sample = .overcurrent := by
  rw [State.sortOf_eq hl, sortCompletion, if_pos h]

theorem State.sortOf_opened (hl : (s.site k).monitor.limits = some l) (hover : min sample 2000 ≤ l.overLimit)
    (hopen : min sample 2000 < l.openLimit) (hheld : (s.site k).monitor.holdTouched = false) (hpump : s.supply.pump ≠ .hold) :
    s.sortOf k sample = .opened := by
  rw [State.sortOf_eq hl, sortCompletion, if_neg (Nat.not_lt.2 hover), if_pos]
  simp only [hheld, Bool.false_or, Bool.and_eq_true, Bool.not_eq_true', beq_eq_false_iff_ne, decide_eq_true_eq]
  exact ⟨hpump, hopen⟩

theorem State.sortOf_good (hl : (s.site k).monitor.limits = some l) (hover : min sample 2000 ≤ l.overLimit)
    (hopen : l.openLimit ≤ min sample 2000 ∨ (s.site k).monitor.holdTouched = true ∨ s.supply.pump = .hold) :
    s.sortOf k sample = .good := by
  rw [State.sortOf_eq hl, sortCompletion, if_neg (Nat.not_lt.2 hover), if_neg]
  simp only [Bool.and_eq_true, Bool.not_eq_true', Bool.or_eq_false_iff, beq_eq_false_iff_ne, decide_eq_true_eq]
  rintro ⟨⟨hheld, hpump⟩, hlow⟩
  obtain h | h | h := hopen
  · omega
  · rw [hheld] at h
    cases h
  · exact hpump h

end SortOf

/-! ### After a good pulse -/

section AfterGood

variable (e : Nat) {f : Former}

theorem Former.afterGood_of_exhausted (hheld : f.held = []) (hfirst : f.first = []) (hsecond : f.second = []) :
    f.afterGood e = { f with state := .exhausted, current := [] } := by
  simp [Former.afterGood, hheld, hfirst, hsecond]

theorem Former.afterGood_of_held (hheld : f.held ≠ []) :
    f.afterGood e = { f with state := .requesting, current := f.held, held := [] } := by
  simp [Former.afterGood, hheld]

theorem Former.afterGood_of_list (hheld : f.held = []) (hlists : f.first ≠ [] ∨ f.second ≠ []) :
    f.afterGood e = { f with
      state := .requesting
      current := if f.first = [] then f.second.take e else f.first.take e
      first := f.first.drop e
      second := if f.first = [] then f.second.drop e else f.second } := by
  have hcut : f.afterGood e = f.cut e := by
    unfold Former.afterGood
    rw [if_neg (by simp [hheld]), if_pos (by simpa [imp_iff_not_or] using hlists)]
  rw [hcut, Former.cut]
  by_cases hfirst : f.first = []
  · simp [hfirst]
  · simp [hfirst]

end AfterGood

/-- With no cell left to carry, the verify of the current row is issued (R44, R68). -/
theorem State.afterGoodPulse_of_exhausted {u : State} {k : SiteNo} {row : Row} {former : Former}
    (hafter : (u.site k).former.afterGood (u.burstSize k) = former) (hstate : former.state = .exhausted)
    (hrow : (u.site k).seq.row = some row) :
    u.afterGoodPulse k = u.onSite k fun x =>
      { x with
        seq := { x.seq with state := .verify }
        former := former
        port := { x.port with op := some (.rowRead row .nominal) } } := by
  have hformer : (u.onFormer k (Former.afterGood (u.burstSize k))).site k = { u.site k with former := former } := by
    rw [State.onFormer_site_same, hafter]
  have hgoes : u.afterGoodPulse k
      = ((u.onFormer k (Former.afterGood (u.burstSize k))).onSeq k fun q => { q with state := .verify }).issueVerify k row := by
    simp only [State.afterGoodPulse, hformer, hstate, if_true, hrow]
  rw [hgoes, State.issueVerify, State.issueOp_eq, State.onSeq_eq, State.onFormer, State.onSite_onSite, State.onSite_onSite,
    State.onSite, State.onSite, hafter]

/-- With a burst to carry, its request arrives (R44, R68, R93). -/
theorem State.afterGoodPulse_requestArrives {u : State} {k : SiteNo} {former : Former}
    (hafter : (u.site k).former.afterGood (u.burstSize k) = former) (hstate : former.state = .requesting) :
    u.RequestArrives (u.afterGoodPulse k) k { u.site k with seq := { (u.site k).seq with state := .burnWait }, former := former } := by
  have hformer : (u.onFormer k (Former.afterGood (u.burstSize k))).site k = { u.site k with former := former } := by
    rw [State.onFormer_site_same, hafter]
  have hgoes : u.afterGoodPulse k = (u.onFormer k (Former.afterGood (u.burstSize k))).requestCurrent k := by
    simp only [State.afterGoodPulse, hformer, hstate, reduceCtorEq, if_false]
  rw [hgoes, State.requestCurrent, hformer]
  refine ⟨State.pumpTakesRequest_of_onRequest rfl, ?_⟩
  rw [State.onSeq_eq, State.onFormer, State.onSite_onSite, State.onSite, hafter]
  rfl

/-- Settles O47: the release first, then the three tests of R68. -/
theorem goodPulseLeadsToTheNextBurstOrTheVerify : Obligations.GoodPulseLeadsToTheNextBurstOrTheVerify := by
  intro k w g sample e row l s
  refine ⟨fun hop hl hgrant hreq hgo hback hrow hover hopen he => ?_, fun hno => ?_⟩
  · obtain ⟨hends, hsite, -, -⟩ := State.pulseDone_release hgrant hreq false
    have hwork := s.pulseDone_release_supplyWork k false
    rw [exec_pulseCompletion sample hop, State.sortOf_good hl hover hopen]
    generalize (s.pulseDone k false).release k = u at hends hsite hwork ⊢
    rw [State.pulseDone_site_same, Bool.or_false] at hsite
    have hdue : (u.site k).seq.stopDue = false := by rw [hsite]; exact hgo.stopDue_eq
    have hsize : u.burstSize k = e := by
      rw [State.burstSize, hwork.siteWork.workingRecipe, hsite, he]
      rfl
    have hsettle : (u.afterGoodPulse k).settle = u.afterGoodPulse k :=
      (hback.of_sched ((State.afterGoodPulse_supplyWork k u).sched_eq.trans hwork.sched_eq)).settle_eq
    have hformer : (u.site k).former = (s.site k).former := by rw [hsite]
    have hseq : (u.site k).seq = (s.site k).seq := by rw [hsite]
    simp only [State.takeSort, State.unlessStopped_eq _ hdue, hsettle]
    refine ⟨u, hends, hsite, fun hheld hfirst hsecond => ?_, fun hheld => ?_, fun hheld hlists => ?_⟩
    · rw [State.afterGoodPulse_of_exhausted
        ((congrArg _ hformer).trans (Former.afterGood_of_exhausted (u.burstSize k) hheld hfirst hsecond)) rfl (hseq ▸ hrow),
        State.onSite, hsite]
    · rw [← hseq]
      exact ⟨_, rfl, State.afterGoodPulse_requestArrives
        ((congrArg _ hformer).trans (Former.afterGood_of_held (u.burstSize k) hheld)) rfl⟩
    · rw [← hseq, ← hsize]
      exact ⟨_, rfl, State.afterGoodPulse_requestArrives
        ((congrArg _ hformer).trans (Former.afterGood_of_list (u.burstSize k) hheld hlists)) rfl⟩
  · have hidle : s.pulsing k = false := by
      rw [Bool.eq_false_iff, Ne, State.pulsing_iff]
      rintro ⟨w, hop⟩
      exact hno w hop
    show execPulseCompletion k sample s = _
    rw [execPulseCompletion, hidle]
    rfl

end Sys2Proof.Machine

/-!
PROOF. The end of a site whose key is spent, and the pulse that ends badly (R29 to R31, R52, R53, R127, R129): O48.
-/

namespace Sys2Proof.Machine

/-! ### The disposition of a key -/

theorem Memory.read_writeBytes_inside (m : Memory) (a : Nat) {bs : List Byte} {i : Nat} (h : i < bs.length) :
    Memory.read (Memory.writeBytes m a bs) (a + i) = bs.getD i 0 := by
  rw [Memory.read_writeBytes, if_pos (by omega), Nat.add_sub_cancel_left]

/-- The wafer, die and frame fields of a disposition (R129, 10.5). -/
def State.dispositionBytes (s : State) (k : SiteNo) : List Byte :=
  bytes32 s.waferId ++ int16 (s.site k).seq.dieX ++ int16 (s.site k).seq.dieY ++ bytes32 s.runningSeq

theorem State.length_dispositionBytes (s : State) (k : SiteNo) : (s.dispositionBytes k).length = 12 := rfl

/-- Exchange memory with the disposition fields of slot i written (R129, 10.5). -/
def State.dispositionMem (s : State) (k : SiteNo) (i : SlotNo) : Memory :=
  Memory.writeBytes (Memory.writeBytes (Memory.writeBytes s.mem (slotBase i + 0x0C) [nat8 k.val]) (slotBase i + 0x0E)
    (bytes16 (s.site k).seq.fingerprint)) (slotBase i + 0x10) (s.dispositionBytes k)

theorem State.writeDisposition_eq (s : State) (k : SiteNo) (i : SlotNo) :
    s.writeDisposition k i = { s with mem := s.dispositionMem k i } := rfl

/-- The disposition fields of slot i show site k, its fingerprint, the wafer, the die position and the running frame (R129). -/
theorem State.dispositionMem_shows (s : State) (k : SiteNo) (i : SlotNo) :
    Memory.read (s.dispositionMem k i) (slotBase i + 0x0C) = nat8 k.val
      ∧ Memory.read16 (s.dispositionMem k i) (slotBase i + 0x0E) = (s.site k).seq.fingerprint
      ∧ Memory.read32 (s.dispositionMem k i) (slotBase i + 0x10) = s.waferId
      ∧ Memory.read16 (s.dispositionMem k i) (slotBase i + 0x14) = BitVec.ofInt 16 (s.site k).seq.dieX
      ∧ Memory.read16 (s.dispositionMem k i) (slotBase i + 0x16) = BitVec.ofInt 16 (s.site k).seq.dieY
      ∧ Memory.read32 (s.dispositionMem k i) (slotBase i + 0x18) = s.runningSeq := by
  rw [State.dispositionMem]
  have hlen := s.length_dispositionBytes k
  have hprint : ∀ j < 2, Memory.read (Memory.writeBytes (Memory.writeBytes (Memory.writeBytes s.mem (slotBase i + 0x0C) [nat8 k.val])
      (slotBase i + 0x0E) (bytes16 (s.site k).seq.fingerprint)) (slotBase i + 0x10) (s.dispositionBytes k)) (slotBase i + 0x0E + j)
        = (bytes16 (s.site k).seq.fingerprint).getD j 0 := fun j hj => by
    rw [Memory.read_writeBytes_outside _ _ (by omega), Memory.read_writeBytes_inside _ _ hj]
  have hplace := fun (m : Memory) (j : Nat) (hj : j < 12) =>
    Memory.read_writeBytes_inside m (slotBase i + 0x10) (bs := s.dispositionBytes k) (i := j) (by omega)
  simp only [State.dispositionBytes, int16, bytes32, bytes16, List.cons_append, List.nil_append] at hprint hplace hlen ⊢
  refine ⟨?_, Memory.read16_of_bytes (hprint 0 (by decide)) (hprint 1 (by decide)),
    Memory.read32_of_bytes (hplace _ 0 (by decide)) (hplace _ 1 (by decide)) (hplace _ 2 (by decide)) (hplace _ 3 (by decide)),
    Memory.read16_of_bytes (hplace _ 4 (by decide)) (hplace _ 5 (by decide)),
    Memory.read16_of_bytes (hplace _ 6 (by decide)) (hplace _ 7 (by decide)),
    Memory.read32_of_bytes (hplace _ 8 (by decide)) (hplace _ 9 (by decide)) (hplace _ 10 (by decide)) (hplace _ 11 (by decide))⟩
  rw [Memory.read_writeBytes_outside _ _ (by omega), Memory.read_writeBytes_outside _ _ (by omega)]
  exact Memory.read_writeBytes_inside s.mem (slotBase i + 0x0C) (bs := [nat8 k.val]) (i := 0) Nat.one_pos

/-- A disposition touches no byte but those of its fields (R129). -/
theorem State.read_dispositionMem_other (s : State) (k : SiteNo) (i : SlotNo) {a : Nat}
    (h : a < slotBase i + 0x0C ∨ slotBase i + 0x1C ≤ a) :
    Memory.read (s.dispositionMem k i) a = Memory.read s.mem a := by
  have hlen := s.length_dispositionBytes k
  have hprint : (bytes16 (s.site k).seq.fingerprint).length = 2 := rfl
  rw [State.dispositionMem, Memory.read_writeBytes_outside _ _ (by omega), Memory.read_writeBytes_outside _ _ (by omega),
    Memory.read_writeBytes_outside _ _ (by rw [List.length_singleton]; omega)]

/-- Slot i is bound or voided from site k: its state, its tally and its disposition (R129). -/
def State.spendSlot (k : SiteNo) (i : SlotNo) (bound : Bool) (s : State) : State :=
  { s with
    mem := s.dispositionMem k i
    pool := { s.pool with
      slots := put s.pool.slots i (if bound then .bound else .voided)
      bound := if bound then sat16 (s.pool.bound + 1) else s.pool.bound
      voided := if bound then s.pool.voided else sat16 (s.pool.voided + 1) } }

theorem State.bindSlot_eq (k : SiteNo) (i : SlotNo) (s : State) : s.bindSlot k i = s.spendSlot k i true := by
  rw [State.bindSlot, State.writeDisposition_eq]
  rfl

theorem State.voidSlot_eq (k : SiteNo) (i : SlotNo) (s : State) : s.voidSlot k i = s.spendSlot k i false := by
  rw [State.voidSlot, State.writeDisposition_eq]
  rfl

/-- A slot is spent alike before and after a change of the site that leaves what a disposition shows of it. -/
theorem State.spendSlot_onSite {k : SiteNo} {s : State} {g : Site → Site} (i : SlotNo) (bound : Bool)
    (hprint : (g (s.site k)).seq.fingerprint = (s.site k).seq.fingerprint) (hx : (g (s.site k)).seq.dieX = (s.site k).seq.dieX)
    (hy : (g (s.site k)).seq.dieY = (s.site k).seq.dieY) :
    (s.onSite k g).spendSlot k i bound = (s.spendSlot k i bound).onSite k g := by
  simp only [State.spendSlot, State.dispositionMem, State.dispositionBytes, State.onSite_site_same, hprint, hx, hy]
  rfl

/-! ### The end of a site whose key is spent -/

/-- Site k stands in END with outcome o, and the key of slot i is bound or voided; record and map code are still to be written (R51, R127,
R129). -/
def State.keySpent (s : State) (k : SiteNo) (o : SiteOutcome) (i : SlotNo) (bound : Bool) : State :=
  ((s.withdrawDraw k).spendSlot k i bound).onSite k (Site.asEnded o)

section KeySpent

variable {s : State} {k : SiteNo} {o : SiteOutcome} {h : KeyHeld} {bound : Bool}

/-- The settlement of a key by an end that binds it, or that voids it because a pulse was issued with it (R127). -/
theorem State.settleKey_spent (hkey : (s.site k).seq.key = some h)
    (hspent : if bound then o = .keyed else o ≠ .keyed ∧ (s.site k).seq.pulsed = true) :
    s.settleKey k o = (s.spendSlot k h.slot bound, if bound then .bound else .voided, []) := by
  cases bound with
  | true => simp only [State.settleKey, hkey, if_pos (show o = .keyed from hspent), State.bindSlot_eq, if_true]
  | false =>
    obtain ⟨ho, hpulsed⟩ : o ≠ .keyed ∧ (s.site k).seq.pulsed = true := hspent
    simp only [State.settleKey, hkey, if_neg ho, if_pos hpulsed, State.voidSlot_eq, Bool.false_eq_true, if_false]

/-- A running site that has no burst request waiting ends with its key spent: it withdraws its draw request, enters END, the key is bound
or voided, and record and map code are written (R51, R52, R127). -/
theorem State.endSite_spent (hrun : (s.site k).seq.state.isRunning = true) (hkey : (s.site k).seq.key = some h)
    (hreq : look s.arbiter.requests k = none)
    (hspent : if bound then o = .keyed else o ≠ .keyed ∧ (s.site k).seq.pulsed = true) :
    s.endSite k o = State.fileEnd k o (if bound then .bound else .voided) h.serial (s.keySpent k o h.slot bound) := by
  have hburst : (s.withdrawDraw k).withdrawBurst k = s.withdrawDraw k := by
    simp [State.withdrawBurst, hreq]
  set u := (s.withdrawDraw k).onSite k (Site.enterEnd o) with hu
  have husite : u.site k = (s.site k).enterEnd o := State.onSite_site_same _ _ _
  have hwith : s.endSiteWith k o = u.endActions k o := by
    rw [State.endSiteWith, if_pos hrun, hburst]
  have hsettle : u.settleKey k o = (u.spendSlot k h.slot bound, if bound then .bound else .voided, []) :=
    State.settleKey_spent (by rw [husite]; exact hkey) (by rw [husite]; exact hspent)
  have hgrants : (u.endActions k o).2 = [] := by simp [State.endActions, hsettle]
  have hserial : (u.site k).seq.heldSerial = h.serial := by
    rw [husite]
    simp only [Sequencer.heldSerial, Site.enterEnd, hkey]
  have hspend : u.spendSlot k h.slot bound = ((s.withdrawDraw k).spendSlot k h.slot bound).onSite k (Site.enterEnd o) :=
    State.spendSlot_onSite h.slot bound rfl rfl rfl
  rw [State.endSite, hwith, hgrants, State.deliver, List.foldl_nil, State.endActions_fst, hsettle, hserial, hspend, State.keySpent]
  simp only [State.onSeq_eq, State.onSite_onSite, Site.enterEnd_without_key]

/-- The end of a site whose key is spent changes exchange memory, the pool, the site and the set of sites ended. -/
theorem State.keySpent_fileEnd_frame {f : FrameNo} (hf : s.sched.running = some f) (d : Disposition) (serial : Word) :
    (s.keySpent k o h.slot bound).fileEnd k o d serial = { s with
      mem := ((s.keySpent k o h.slot bound).fileEnd k o d serial).mem
      pool := (s.keySpent k o h.slot bound).pool
      sites := put s.sites k ((s.site k).asEnded o)
      sched := { s.sched with ended := put s.sched.ended k true } } := by
  have hframe := State.fileEnd_frame (s := s.keySpent k o h.slot bound) (f := f) (k := k) (o := o) (d := d) (serial := serial) hf
  generalize (s.keySpent k o h.slot bound).fileEnd k o d serial = t at hframe ⊢
  rw [hframe]
  rfl

/-- No byte of a slot is one of a site record or of the map (R163). -/
theorem State.slot_outside_record_and_map (s : State) (i : SlotNo) (f : FrameNo) (k : SiteNo) {j : Nat} (hj : j < 0x40) :
    siteRecordBase f k + 38 ≤ slotBase i + j ∧ slotBase i + j ≠ s.mapEntryOf k := by
  unfold siteRecordBase frameBase slotBase State.mapEntryOf mapBase
  omega

theorem Memory.read16_congr {m n : Memory} {a : Nat} (h₀ : Memory.read m a = Memory.read n a)
    (h₁ : Memory.read m (a + 1) = Memory.read n (a + 1)) : Memory.read16 m a = Memory.read16 n a := by
  rw [Memory.read16, Memory.read16, h₀, h₁]

theorem Memory.read32_congr {m n : Memory} {a : Nat} (h : ∀ j < 4, Memory.read m (a + j) = Memory.read n (a + j)) :
    Memory.read32 m a = Memory.read32 n a := by
  rw [Memory.read32, Memory.read32, show Memory.read m a = Memory.read n a from h 0 (by decide), h 1 (by decide), h 2 (by decide),
    h 3 (by decide)]

/-- A running site that has no burst request waiting ends with its key spent as R51 to R53, R127 and R129 say. -/
theorem State.endSite_endsSpent {f : FrameNo} (hf : s.sched.running = some f) (hrun : (s.site k).seq.state.isRunning = true)
    (hkey : (s.site k).seq.key = some h) (hreq : look s.arbiter.requests k = none)
    (hspent : if bound then o = .keyed else o ≠ .keyed ∧ (s.site k).seq.pulsed = true)
    (hcode : mapCodeOf o (s.site k).seq.pulsed = some (if bound then 2 else 4)) :
    s.EndsSpent (s.endSite k o) f k o h bound := by
  rw [State.endSite_spent hrun hkey hreq hspent]
  set d : Disposition := if bound then .bound else .voided with hd
  set v := s.keySpent k o h.slot bound with hv
  have hfv : v.sched.running = some f := hf
  have hvsite : v.site k = (s.site k).asEnded o := State.onSite_site_same _ _ _
  have hvcode : mapCodeOf o (v.site k).seq.pulsed = some (if bound then 2 else 4) := by rw [hvsite]; exact hcode
  have hentry : v.mapEntryOf k = s.mapEntryOf k := by rw [State.mapEntryOf, hvsite]; rfl
  have htsite : (v.fileEnd k o d h.serial).site k = (s.site k).asEnded o := by rw [State.fileEnd_site hfv, hvsite]
  have hframe := State.keySpent_fileEnd_frame (o := o) (h := h) (bound := bound) (k := k) hf d h.serial
  have hother := fun (a : Nat) => State.fileEnd_read_other (k := k) (o := o) (d := d) (serial := h.serial) hfv hvcode (a := a)
  have hmap := State.fileEnd_map (k := k) (o := o) (d := d) (serial := h.serial) hfv hvcode
  have hrecord := State.fileEnd_recordShows (k := k) (o := o) (d := d) (serial := h.serial) hfv hvcode
  rw [← hv] at hframe
  rw [hentry] at hother hmap
  generalize v.fileEnd k o d h.serial = t at htsite hframe hother hmap hrecord ⊢
  have hbytes : ∀ j < 0x40, Memory.read t.mem (slotBase h.slot + j)
      = Memory.read ((s.withdrawDraw k).dispositionMem k h.slot) (slotBase h.slot + j) := fun j hj =>
    have hfree := s.slot_outside_record_and_map h.slot f k hj
    hother _ (.inr hfree.1) hfree.2
  obtain ⟨hplace, hprint, hwafer, hx, hy, hseq⟩ := (s.withdrawDraw k).dispositionMem_shows k h.slot
  have hrunning : (s.withdrawDraw k).runningSeq = s.frameSeq f := by
    simp only [State.runningSeq, State.withdrawDraw_sched, hf]
    rfl
  exact {
    ended := {
      state := by rw [htsite]; rfl
      outcome := by rw [htsite]; rfl
      key := by rw [htsite]; rfl
      timers := by rw [htsite]; exact ⟨rfl, rfl⟩
      plan := by rw [htsite]; rfl
      former := by rw [htsite]; exact ⟨rfl, rfl, rfl, rfl, rfl⟩
      noDraw := by rw [hframe]; exact look_put_same _ _ _
      noRequest := by rw [hframe]; exact hreq
      reported := by rw [hframe]; exact look_put_same _ _ _ }
    record := by
      have hdcode : d.code = if bound then 1 else 2 := by rw [hd]; cases bound <;> rfl
      exact hdcode ▸ hrecord
    site := htsite
    map := fun hon => hmap (by rw [hvsite]; exact hon)
    slot := by rw [hframe]; exact look_put_same _ _ _
    disposition := ⟨(hbytes 0x0C (by decide)).trans hplace,
      (Memory.read16_congr (hbytes 0x0E (by decide)) (hbytes 0x0F (by decide))).trans hprint,
      (Memory.read32_congr fun j hj => by rw [Nat.add_assoc]; exact hbytes (0x10 + j) (by omega)).trans hwafer,
      (Memory.read16_congr (hbytes 0x14 (by decide)) (hbytes 0x15 (by decide))).trans hx,
      (Memory.read16_congr (hbytes 0x16 (by decide)) (hbytes 0x17 (by decide))).trans hy,
      ((Memory.read32_congr fun j hj => by rw [Nat.add_assoc]; exact hbytes (0x18 + j) (by omega)).trans hseq).trans hrunning⟩
    otherSlots := fun i hi => by rw [hframe]; exact look_put_other _ _ _ _ (Ne.symm hi)
    tallies := by rw [hframe]; exact ⟨rfl, rfl, rfl, rfl, rfl⟩
    memory := fun a ha hslot hentry' => (hother a ha hentry').trans (State.read_dispositionMem_other _ k h.slot hslot)
    kept := by rw [hframe]; exact ⟨rfl, rfl, rfl, rfl, rfl⟩ }

end KeySpent

/-- The end of a site asks no hand-back while another site of the frame has not reported END (R146). -/
theorem State.EndsSpent.settle_eq {s t : State} {f : FrameNo} {k j : SiteNo} {o : SiteOutcome} {h : KeyHeld} {bound : Bool}
    (hends : s.EndsSpent t f k o h bound) (hj : j ≠ k) (hended : look s.sched.ended j = false) : t.settle = t := by
  obtain ⟨-, -, -, -, hsched⟩ := hends.kept
  refine State.settle_of_not_ended (k := j) ?_
  rw [hsched]
  simpa [look_put, Ne.symm hj] using hended

/-- Grants and releases at other sites before the end of a site are no part of what its end leaves. -/
theorem State.EndsSpent.of_supplyWork {s u t : State} {f : FrameNo} {k : SiteNo} {o : SiteOutcome} {h : KeyHeld} {bound : Bool}
    (hends : u.EndsSpent t f k o h bound) (hwork : s.SupplyWork u) (hsite : u.site k = s.site k) : s.EndsSpent t f k o h bound := by
  have hentry : u.mapEntryOf k = s.mapEntryOf k := by rw [State.mapEntryOf, hsite]; rfl
  have htsite := hends.site
  have hmap := hends.map
  have hdisposition := hends.disposition
  have hmemory := hends.memory
  rw [hsite] at htsite hmap hdisposition
  rw [hentry] at hmap hmemory
  obtain ⟨p, a, xs, rfl⟩ := hwork
  exact {
    ended := hends.ended
    record := hends.record
    site := htsite
    map := hmap
    slot := hends.slot
    disposition := hdisposition
    otherSlots := hends.otherSlots
    tallies := hends.tallies
    memory := hmemory
    kept := hends.kept }

/-! ### A pulse that ends its site -/

/-- A pulse ends with an outcome that voids the key, while another site of the frame still runs: the grant is released first, and the end
of the site is all that follows (R30, R31, R95, R127). -/
theorem State.EndsAlone.pulse_endsSpent {s : State} {f : FrameNo} {k : SiteNo} {g : Nat} {h : KeyHeld} {o : SiteOutcome}
    (halone : s.EndsAlone f k) (hgrant : look s.arbiter.grants k = some g) (hstate : (s.site k).seq.state = .pulse)
    (hkey : (s.site k).seq.key = some h) (hpulsed : (s.site k).seq.pulsed = true) (ho : o ≠ .keyed)
    (hcode : mapCodeOf o true = some 4) (truncated : Bool) :
    ∃ t, (((s.pulseDone k truncated).release k).endSite k o).settle = t ∧ (s.pulseDone k truncated).EndsSpent t f k o h false
      ∧ look t.arbiter.grants k = none
      ∧ ∃ u, s.PulseEnds u k g truncated ∧ t.arbiter = u.arbiter ∧ t.supply = u.supply ∧ ∀ j, j ≠ k → t.site j = u.site j := by
  obtain ⟨hf, hreq, j, hj, hended⟩ := halone
  obtain ⟨hends, hsite, hnoRequest, hnoGrant⟩ := State.pulseDone_release hgrant hreq truncated
  have hwork : (s.pulseDone k truncated).SupplyWork ((s.pulseDone k truncated).release k) := State.release_supplyWork k _
  generalize (s.pulseDone k truncated).release k = u at hends hsite hnoRequest hnoGrant hwork ⊢
  have hseq : (u.site k).seq = (s.site k).seq := by rw [hsite, State.pulseDone_site_same]
  have hfu : u.sched.running = some f := by rw [hwork.sched_eq]; exact hf
  have hrun : (u.site k).seq.state.isRunning = true := by rw [hseq, hstate]; rfl
  have hspent : o ≠ .keyed ∧ (u.site k).seq.pulsed = true := ⟨ho, by rw [hseq]; exact hpulsed⟩
  have hspends : (s.pulseDone k truncated).EndsSpent (u.endSite k o) f k o h false :=
    (State.endSite_endsSpent (bound := false) hfu hrun (by rw [hseq]; exact hkey) hnoRequest hspent
      (by rw [hseq, hpulsed]; exact hcode)).of_supplyWork hwork hsite
  have hframe : ∃ m p e, u.endSite k o
      = { u with mem := m, pool := p, sites := put u.sites k ((u.site k).asEnded o), sched := e } := by
    rw [State.endSite_spent (bound := false) hrun (by rw [hseq]; exact hkey) hnoRequest hspent]
    exact ⟨_, _, _, State.keySpent_fileEnd_frame hfu _ _⟩
  refine ⟨_, hspends.settle_eq hj hended, hspends, ?_⟩
  obtain ⟨m, p, e, ht⟩ := hframe
  rw [ht]
  exact ⟨hnoGrant, u, hends, rfl, rfl, fun j hj => look_put_other _ _ _ _ (Ne.symm hj)⟩

/-- A sample above the overcurrent limit truncates the pulse in flight, and the site ends OVERCURRENT (R29, R31). -/
theorem exec_overcurrentEvent_above {s : State} {k : SiteNo} {w sample : Nat} {l : PulseLimits} (hop : s.opOf k = some (.pulse w))
    (hl : (s.site k).monitor.limits = some l) (hover : l.overLimit < min sample 2000) :
    exec (.overcurrentEvent k sample) s = .next (((s.pulseDone k true).release k).endSite k .overcurrent).settle := by
  have habove : s.overLimit k sample = true := by
    simp only [State.overLimit, hl]
    exact decide_eq_true hover
  show execOvercurrentEvent k sample s = _
  rw [execOvercurrentEvent, if_pos ((s.pulsing_iff k).2 ⟨w, hop⟩), if_pos habove, State.truncatePulse_eq]

/-- A sample within the overcurrent limit is stored as the latest one (R104; log 23). -/
theorem exec_overcurrentEvent_within {s : State} {k : SiteNo} {w sample : Nat} {l : PulseLimits} (hop : s.opOf k = some (.pulse w))
    (hl : (s.site k).monitor.limits = some l) (hover : min sample 2000 ≤ l.overLimit) :
    exec (.overcurrentEvent k sample) s = .next (s.onMonitor k fun m => { m with sample := some (min sample 2000) }) := by
  have hwithin : s.overLimit k sample = false := by
    simp only [State.overLimit, hl]
    exact decide_eq_false (Nat.not_lt.2 hover)
  show execOvercurrentEvent k sample s = _
  rw [execOvercurrentEvent, if_pos ((s.pulsing_iff k).2 ⟨w, hop⟩), hwithin]
  rfl

/-- What a pulse's end leaves of the truncation flag stays at the end of the site (R111). -/
theorem State.EndsSpent.truncated {s t : State} {f : FrameNo} {k : SiteNo} {o : SiteOutcome} {h : KeyHeld} {bound truncated : Bool}
    (hends : (s.pulseDone k truncated).EndsSpent t f k o h bound) :
    (t.site k).monitor.truncated = ((s.site k).monitor.truncated || truncated) := by
  rw [hends.site, State.pulseDone_site_same]
  rfl

/-- Settles O48: the sort or the truncation ends the site, and the end voids the key. -/
theorem badPulseEndsTheSiteAndSpendsTheKey : Obligations.BadPulseEndsTheSiteAndSpendsTheKey := by
  intro k f h w g sample l s hop hl hgrant halone hstate hkey hpulsed
  refine ⟨fun hover => ?_, fun hover hopen hheld hpump => ?_, fun hover => ?_, fun hover => ?_⟩
  · obtain ⟨t, ht, hspent, hnone, hends⟩ :=
      halone.pulse_endsSpent hgrant hstate hkey hpulsed (o := .overcurrent) nofun rfl false
    rw [exec_pulseCompletion sample hop, State.sortOf_overcurrent hl hover, State.takeSort, ht]
    exact ⟨t, rfl, hspent, hnone, hspent.truncated.trans (Bool.or_false _), hends⟩
  · obtain ⟨t, ht, hspent, hnone, hends⟩ :=
      halone.pulse_endsSpent hgrant hstate hkey hpulsed (o := .contactLost) nofun rfl false
    rw [exec_pulseCompletion sample hop, State.sortOf_opened hl hover hopen hheld hpump, State.takeSort, ht]
    exact ⟨t, rfl, hspent, hnone, hends⟩
  · obtain ⟨t, ht, hspent, hnone, hends⟩ :=
      halone.pulse_endsSpent hgrant hstate hkey hpulsed (o := .overcurrent) nofun rfl true
    rw [exec_overcurrentEvent_above hop hl hover, ht]
    exact ⟨t, rfl, hspent, hnone, hspent.truncated.trans (Bool.or_true _), hends⟩
  · exact exec_overcurrentEvent_within hop hl hover

end Sys2Proof.Machine

/-!
PROOF. Pulse widths (R26, R27): every operation of the part keeps every PULSE in flight within 4..800 ticks, and so does every step: O60.
-/

namespace Sys2Proof.Machine

/-! ### The width issued -/

/-- The width issued lies in 4..800 ticks (R27). -/
theorem pulseTicks_bounds (r : Recipe) (n : Nat) : 4 ≤ pulseTicks r n ∧ pulseTicks r n ≤ 800 := by
  unfold pulseTicks
  omega

/-- A width that the clamp acts on is 800, now and at every later attempt (R27). -/
theorem pulseTicks_of_above {r : Recipe} {n m : Nat} (hm : n ≤ m) (h : 800 < (r.baseWidth * (8 + n * r.escalation) + 1) / 2) :
    pulseTicks r m = 800 := by
  have hgrow : r.baseWidth * (8 + n * r.escalation) ≤ r.baseWidth * (8 + m * r.escalation) :=
    Nat.mul_le_mul_left _ (Nat.add_le_add_left (Nat.mul_le_mul_right _ hm) _)
  unfold pulseTicks
  omega

/-- With a base width of at least 1 the width is never below 4 before the clamp (R27). -/
theorem four_le_width {w : Nat} (hw : 1 ≤ w) (x : Nat) : 4 ≤ (w * (8 + x) + 1) / 2 := by
  have : 1 * (8 + x) ≤ w * (8 + x) := Nat.mul_le_mul_right _ hw
  omega

/-! ### The pulses in flight -/

/-- A PULSE in flight at the port has a width of 4..800 ticks (R27). -/
def Port.WidthInRange (p : Port) : Prop := ∀ w, p.op = some (.pulse w) → 4 ≤ w ∧ w ≤ 800

/-- Every PULSE in flight has a width of 4..800 ticks (R27). -/
def State.WidthsInRange (s : State) : Prop := ∀ k, (s.site k).port.WidthInRange

theorem State.widthsInRange_iff (s : State) :
    s.WidthsInRange ↔ ∀ k w, s.opOf k = some (.pulse w) → 4 ≤ w ∧ w ≤ 800 := Iff.rfl

theorem Port.widthInRange_of_none {p : Port} (h : p.op = none) : p.WidthInRange := fun w hw => by
  rw [h] at hw
  cases hw

theorem Port.widthInRange_of_op {p : Port} {op : PortOp} (h : p.op = some op) (hop : ∀ w, op ≠ .pulse w) : p.WidthInRange :=
  fun w hw => absurd (Option.some.inj (h.symm.trans hw)) (hop w)

namespace State.WidthsInRange

variable {s : State}

/-! ### Updates of a state -/

/-- What leaves the sites leaves the pulses. -/
theorem of_sites {t : State} (h : s.WidthsInRange) (ht : t.sites = s.sites) : t.WidthsInRange := fun k => by
  rw [State.site, ht]
  exact h k

theorem onSite (h : s.WidthsInRange) {k : SiteNo} {f : Site → Site} (hf : (f (s.site k)).port.WidthInRange) :
    (s.onSite k f).WidthsInRange := fun j => by
  rw [State.onSite_site]
  split
  · exact hf
  · exact h j

theorem onSeq (h : s.WidthsInRange) (k : SiteNo) (f : Sequencer → Sequencer) : (s.onSeq k f).WidthsInRange := h.onSite (h k)

theorem onFormer (h : s.WidthsInRange) (k : SiteNo) (f : Former → Former) : (s.onFormer k f).WidthsInRange := h.onSite (h k)

theorem onMonitor (h : s.WidthsInRange) (k : SiteNo) (f : Monitor → Monitor) : (s.onMonitor k f).WidthsInRange := h.onSite (h k)

theorem issueOp (h : s.WidthsInRange) (k : SiteNo) {op : PortOp} (hop : ∀ w, op ≠ .pulse w) : (s.issueOp k op).WidthsInRange :=
  h.onSite (Port.widthInRange_of_op rfl hop)

theorem endOp (h : s.WidthsInRange) (k : SiteNo) : (s.endOp k).WidthsInRange := h.onSite (Port.widthInRange_of_none rfl)

theorem dropOp (h : s.WidthsInRange) (k : SiteNo) : (s.dropOp k).WidthsInRange := h.onSite (Port.widthInRange_of_none rfl)

theorem onEverySite (h : s.WidthsInRange) {f : Site → Site} (hf : ∀ x, (f x).port = x.port) : (s.onEverySite f).WidthsInRange :=
  fun k => by
    rw [State.onEverySite_site, hf]
    exact h k

/-- Operations that keep the widths keep them one after the other. -/
theorem foldl {α : Type} {act : α → State → State} (hact : ∀ a {t : State}, t.WidthsInRange → (act a t).WidthsInRange)
    (h : s.WidthsInRange) (l : List α) : (l.foldl (fun t a => act a t) s).WidthsInRange := by
  induction l generalizing s with
  | nil => exact h
  | cons a l ih => exact ih (hact a h)

/-! ### The supply unit and the arbiter -/

/-- A grant issues a PULSE within the range. -/
theorem grant (h : s.WidthsInRange) (k : SiteNo) (g : Nat) (chopped : Bool) : (s.grant k g chopped).WidthsInRange :=
  State.WidthsInRange.onSite (h.of_sites (t := { s with
      arbiter := { requests := put s.arbiter.requests k none, grants := put s.arbiter.grants k (some g),
                   inUse := s.arbiter.inUse + g * s.supply.params.cellCurrent, lastGranted := k } }) rfl)
    fun w hw => by
      obtain rfl : pulseTicks s.workingRecipe (s.site k).former.attempt = w := PortOp.pulse.inj (Option.some.inj hw)
      exact pulseTicks_bounds _ _

theorem grantTurn (h : s.WidthsInRange) (k : SiteNo) : (s.grantTurn k).WidthsInRange := by
  obtain hsame | ⟨g, chopped, -, hgrant⟩ := State.grantTurn_cases k s
  · rw [hsame]
    exact h
  · rw [hgrant]
    exact h.grant k g chopped

theorem evaluate (h : s.WidthsInRange) : s.evaluate.WidthsInRange := by
  unfold State.evaluate
  split
  · exact h.foldl (act := fun k t => t.grantTurn k) (fun k _ ht => ht.grantTurn k) _
  · exact h

theorem startIdleIfQuiet (h : s.WidthsInRange) : s.startIdleIfQuiet.WidthsInRange := by
  rw [State.startIdleIfQuiet_eq]
  exact h.of_sites rfl

theorem completeOffPending (h : s.WidthsInRange) : s.completeOffPending.WidthsInRange := by
  obtain ⟨p, hp⟩ := s.completeOffPending_frame
  rw [hp]
  exact h.of_sites rfl

theorem supplyRunSet (h : s.WidthsInRange) : s.supplyRunSet.WidthsInRange := by
  obtain ⟨p, hp⟩ := s.supplyRunSet_frame
  rw [hp]
  exact h.of_sites rfl

theorem supplyRunClear (h : s.WidthsInRange) : s.supplyRunClear.WidthsInRange := by
  obtain ⟨p, hp⟩ := s.supplyRunClear_frame
  rw [hp]
  exact h.of_sites rfl

theorem lowerInUse (h : s.WidthsInRange) (k : SiteNo) (g : Nat) : (s.lowerInUse k g).WidthsInRange := by
  rw [State.lowerInUse_eq]
  exact h.of_sites rfl

theorem release (h : s.WidthsInRange) (k : SiteNo) : (s.release k).WidthsInRange := by
  unfold State.release
  split
  · exact h
  · exact ((h.evaluate.lowerInUse k _).evaluate).startIdleIfQuiet

theorem enterReady (h : s.WidthsInRange) : s.enterReady.WidthsInRange :=
  ((h.of_sites (t := s.onSupply Supply.toReady) rfl).evaluate).startIdleIfQuiet

theorem withdrawBurst (h : s.WidthsInRange) (k : SiteNo) : (s.withdrawBurst k).WidthsInRange := by
  unfold State.withdrawBurst
  split
  · exact h
  · exact State.WidthsInRange.startIdleIfQuiet (h.of_sites rfl)

theorem enterHold (h : s.WidthsInRange) : s.enterHold.WidthsInRange :=
  State.WidthsInRange.onEverySite (s := (s.onSupply Supply.toHold).raise .supplyHold) (h.of_sites rfl) fun _ => rfl

/-! ### A site's way through its rows -/

theorem requestCurrent (h : s.WidthsInRange) (k : SiteNo) : (s.requestCurrent k).WidthsInRange :=
  (h.onSeq k fun q => { q with state := .burnWait }).of_sites (State.requestBurst_sites k _ _)

theorem beginAttempt (h : s.WidthsInRange) (k : SiteNo) (row : Row) (n : Nat) (pending : ColSet) :
    (s.beginAttempt k row n pending).WidthsInRange := ((h.onSeq k _).onFormer k _).requestCurrent k

theorem issueVerify (h : s.WidthsInRange) (k : SiteNo) (row : Row) : (s.issueVerify k row).WidthsInRange := h.issueOp k nofun

theorem enterFinal (h : s.WidthsInRange) (k : SiteNo) : (s.enterFinal k).WidthsInRange := (h.onSeq k _).issueVerify k 0

theorem beginRow (h : s.WidthsInRange) (k : SiteNo) (row : Row) : (s.beginRow k row).WidthsInRange := by
  unfold State.beginRow
  split
  · exact h.beginAttempt k _ _ _
  · exact h.enterFinal k

theorem beginLocking (h : s.WidthsInRange) (k : SiteNo) : (s.beginLocking k).WidthsInRange := (h.onSeq k _).beginAttempt k _ _ _

theorem afterGoodPulse (h : s.WidthsInRange) (k : SiteNo) : (s.afterGoodPulse k).WidthsInRange := by
  unfold State.afterGoodPulse
  dsimp only
  split
  · split
    · exact ((h.onFormer k _).onSeq k _).issueVerify k _
    · exact h.onFormer k _
  · exact (h.onFormer k _).requestCurrent k

/-! ### The key pool unit -/

theorem takeKeyGrant (h : s.WidthsInRange) (g : KeyGrant) : (s.takeKeyGrant g).WidthsInRange := (h.onSeq g.site _).beginRow g.site 0

theorem deliver (h : s.WidthsInRange) (gs : List KeyGrant) : (s.deliver gs).WidthsInRange :=
  h.foldl (act := State.takeKeyGrant) (fun g _ ht => ht.takeKeyGrant g) gs

end State.WidthsInRange

theorem State.lowerLoaded_sites (s : State) : s.lowerLoaded.sites = s.sites := by
  unfold State.lowerLoaded
  dsimp only
  split <;> rfl

theorem State.drawSlot_sites (k : SiteNo) (i : SlotNo) (p : Pool) (s : State) : (s.drawSlot k i p).sites = s.sites := by
  rw [State.drawSlot, State.lowerLoaded_sites, State.store_sites]

/-- A draw leaves the sites: the key grant is still to be taken. -/
theorem State.draw_sites {k : SiteNo} {len : KeyLength} {s t : State} {g : KeyGrant} (h : s.draw k len = some (t, g)) :
    t.sites = s.sites := by
  unfold State.draw at h
  split at h
  · cases h
  · cases h
    exact State.drawSlot_sites _ _ _ _

theorem drawTurn_sites (acc : State × List KeyGrant) (k : SiteNo) : (drawTurn acc k).1.sites = acc.1.sites := by
  unfold drawTurn
  split
  · rfl
  · split
    · rfl
    · exact State.draw_sites ‹_›

theorem foldl_drawTurn_sites (l : List SiteNo) (acc : State × List KeyGrant) : (l.foldl drawTurn acc).1.sites = acc.1.sites := by
  induction l generalizing acc with
  | nil => rfl
  | cons k l ih => exact (ih _).trans (drawTurn_sites acc k)

theorem State.evaluateDraws_sites (s : State) : s.evaluateDraws.1.sites = s.sites := by
  rw [State.evaluateDraws, foldl_drawTurn_sites]

theorem State.spendSlot_sites (k : SiteNo) (i : SlotNo) (bound : Bool) (s : State) : (s.spendSlot k i bound).sites = s.sites := rfl

theorem State.returnSlot_sites (i : SlotNo) (buffer : List Byte) (s : State) : (s.returnSlot i buffer).sites = s.sites := by
  rw [State.returnSlot, State.store_sites, State.onPool_sites, State.setSlot_sites]

/-- The settlement of a key leaves the sites: the key grants of a return are still to be taken. -/
theorem State.settleKey_sites (k : SiteNo) (o : SiteOutcome) (s : State) : (s.settleKey k o).1.sites = s.sites := by
  unfold State.settleKey
  split
  · rfl
  · split
    · rw [State.bindSlot_eq, State.spendSlot_sites]
    · split
      · rw [State.voidSlot_eq, State.spendSlot_sites]
      · dsimp only
        rw [State.evaluateDraws_sites, State.returnSlot_sites]

theorem State.writeRecord_sites (k : SiteNo) (o : SiteOutcome) (d : Disposition) (serial : Word) (s : State) :
    (s.writeRecord k o d serial).sites = s.sites := by
  unfold State.writeRecord
  split
  · exact State.store_sites _ _ _
  · rfl

theorem State.fileEnd_sites (k : SiteNo) (o : SiteOutcome) (d : Disposition) (serial : Word) (s : State) :
    (s.fileEnd k o d serial).sites = s.sites := by
  rw [State.fileEnd, State.report_sites, State.writeMap_frame]
  exact State.writeRecord_sites k o d serial s

theorem Port.atEnd_widthInRange {p : Port} (h : p.WidthInRange) : p.atEnd.WidthInRange := by
  unfold Port.atEnd
  split
  · exact Port.widthInRange_of_none rfl
  · split
    · exact h
    · exact Port.widthInRange_of_none rfl

namespace State.WidthsInRange

variable {s : State}

theorem draw (h : s.WidthsInRange) {k : SiteNo} {len : KeyLength} {t : State} {g : KeyGrant} (hdraw : s.draw k len = some (t, g)) :
    t.WidthsInRange := h.of_sites (State.draw_sites hdraw)

theorem evaluatePool (h : s.WidthsInRange) : s.evaluatePool.WidthsInRange := (h.of_sites s.evaluateDraws_sites).deliver _

/-! ### The end of a site -/

theorem endActions (h : s.WidthsInRange) (k : SiteNo) (o : SiteOutcome) : (s.endActions k o).1.WidthsInRange := by
  rw [State.endActions_fst]
  exact ((h.of_sites (State.settleKey_sites k o s)).onSeq k _).of_sites (State.fileEnd_sites _ _ _ _ _)

theorem endSiteWith (h : s.WidthsInRange) (k : SiteNo) (o : SiteOutcome) : (s.endSiteWith k o).1.WidthsInRange := by
  have hwithdrawn : ((s.withdrawDraw k).withdrawBurst k).WidthsInRange := (h.of_sites (t := s.withdrawDraw k) rfl).withdrawBurst k
  unfold State.endSiteWith
  split
  · exact (hwithdrawn.onSite (Port.atEnd_widthInRange (hwithdrawn k))).endActions k o
  · exact h

theorem endSite (h : s.WidthsInRange) (k : SiteNo) (o : SiteOutcome) : (s.endSite k o).WidthsInRange := (h.endSiteWith k o).deliver _

theorem unlessStopped (h : s.WidthsInRange) (k : SiteNo) {go : State → State} (hgo : (go s).WidthsInRange) :
    (s.unlessStopped k go).WidthsInRange := by
  unfold State.unlessStopped
  split
  · exact h.endSite k _
  · exact hgo

theorem enterKeywait (h : s.WidthsInRange) (k : SiteNo) : (s.enterKeywait k).WidthsInRange := by
  have hkeywait : (s.onSite k (Site.asKeywait s.workingRecipe)).WidthsInRange := h.onSite (h k)
  have hdry := hkeywait.of_sites (State.raise_sites _ .poolDry)
  rw [State.enterKeywait_eq]
  split
  · exact (hkeywait.draw ‹_›).takeKeyGrant _
  · split
    · exact hdry.endSite k _
    · exact hdry.of_sites rfl

theorem truncatePulse (h : s.WidthsInRange) (k : SiteNo) : (s.truncatePulse k).WidthsInRange :=
  ((h.endOp k).onMonitor k _).release k

theorem completePulse (h : s.WidthsInRange) (k : SiteNo) : (s.completePulse k).WidthsInRange :=
  ((h.endOp k).onMonitor k _).release k

theorem thermalEvent (h : s.WidthsInRange) (k : SiteNo) : (s.thermalEvent k).WidthsInRange := by
  unfold State.thermalEvent
  split
  · exact (h.truncatePulse k).endSite k _
  · exact h.endSite k _

theorem takeHard (h : s.WidthsInRange) (k : SiteNo) : (s.takeHard k).WidthsInRange := by
  unfold State.takeHard
  dsimp only
  split
  · split
    · exact (h.onSeq k _).endSite k _
    · exact h.onSeq k _
  · exact h

theorem takeSoft (h : s.WidthsInRange) (k : SiteNo) : (s.takeSoft k).WidthsInRange := by
  unfold State.takeSoft
  dsimp only
  split
  · split
    · exact (h.onSeq k _).endSite k _
    · exact h.onSeq k _
  · exact h

theorem takeReset (h : s.WidthsInRange) (k : SiteNo) : (s.takeReset k).WidthsInRange := by
  unfold State.takeReset
  split
  · refine State.WidthsInRange.endSite ?_ k _
    split
    · exact h.truncatePulse k
    · exact h.endOp k
  · exact h

theorem everyRunning (h : s.WidthsInRange) {act : SiteNo → State → State}
    (hact : ∀ k {t : State}, t.WidthsInRange → (act k t).WidthsInRange) : (s.everyRunning act).WidthsInRange :=
  State.WidthsInRange.foldl hact (h.of_sites (t := s.chosen) rfl) _

/-! ### The wafer unit and the frame scheduler -/

theorem idleReport (h : s.WidthsInRange) : s.idleReport.WidthsInRange := fun k => by
  rw [State.idleReport_site]
  exact h k

theorem takeOpen (h : s.WidthsInRange) : s.takeOpen.WidthsInRange := by
  unfold State.takeOpen
  split
  · exact h.of_sites rfl
  · exact h.of_sites (by simp only [State.raise_sites, State.store_sites])

theorem takeClose (h : s.WidthsInRange) : s.takeClose.WidthsInRange := by
  unfold State.takeClose
  split
  · split
    · exact h.of_sites (by simp only [State.completeClose, State.raise_sites, State.store_sites])
    · exact h.of_sites (by simp only [State.store_sites])
  · exact h

theorem skipSite (h : s.WidthsInRange) (k : SiteNo) (why : SkipReason) (x y : Int) : (s.skipSite k why x y).WidthsInRange := by
  refine State.WidthsInRange.of_sites (h.onSeq k fun q =>
    { q with state := .ended, dieX := x, dieY := y, skip := why, outcome := some .skipped }) ?_
  rw [State.skipSite, State.report_sites, State.writeRecord_sites]

theorem runSite (h : s.WidthsInRange) (k : SiteNo) (r : Recipe) (x y : Int) : (s.runSite k r x y).WidthsInRange := by
  have hcontact : (s.onSite k (Site.enterContact r s.lotTag s.supply.pump x y)).WidthsInRange :=
    h.onSite (Port.widthInRange_of_op rfl nofun)
  unfold State.runSite
  dsimp only
  split
  · exact hcontact.endSite k _
  · exact hcontact

theorem handSite (h : s.WidthsInRange) (f : FrameNo) (r : Recipe) (at_ : State) (k : SiteNo) :
    (State.handSite f r at_ k s).WidthsInRange := by
  unfold State.handSite
  split
  · exact h.runSite k _ _ _
  · exact h.skipSite k _ _ _

theorem loadFrame (h : s.WidthsInRange) (f : FrameNo) (rest : List FrameNo) : (s.loadFrame f rest).WidthsInRange := fun k => by
  have hport : ((s.loadFrame f rest).site k).port = (s.site k).port := by
    unfold State.loadFrame
    dsimp only
    rw [State.onPool_site, State.onEverySite_site]
    rfl
  rw [hport]
  exact h k

theorem startFrame (h : s.WidthsInRange) (f : FrameNo) (rest : List FrameNo) : (s.startFrame f rest).WidthsInRange :=
  State.WidthsInRange.foldl (fun k _ ht => ht.handSite f _ _ k) (h.loadFrame f rest) allSites

theorem startIfDue (h : s.WidthsInRange) : s.startIfDue.WidthsInRange := by
  unfold State.startIfDue
  split
  · split
    · exact h.startFrame _ _
    · exact h
  · exact h

theorem handBackFrame (h : s.WidthsInRange) (f : FrameNo) (kind : Nat) : (s.handBackFrame f kind).WidthsInRange := by
  have hclosed : (s.closeFrame f kind).WidthsInRange :=
    h.of_sites (by simp only [State.closeFrame, State.raise_sites, State.store_sites])
  exact (hclosed.onEverySite (f := Site.returnToIdle) fun _ => rfl).of_sites (State.store_sites _ _ _)

theorem afterHandBack (h : s.WidthsInRange) : s.afterHandBack.WidthsInRange := by
  unfold State.afterHandBack
  split
  · exact h.idleReport
  · exact h.startIfDue

theorem handBackIfDue (h : s.WidthsInRange) : s.handBackIfDue.WidthsInRange := by
  unfold State.handBackIfDue
  split
  · split
    · exact (h.handBackFrame _ _).afterHandBack
    · exact h
  · exact h

theorem settleFrames (h : s.WidthsInRange) (n : Nat) : (s.settleFrames n).WidthsInRange := by
  induction n generalizing s with
  | zero => exact h
  | succ n ih =>
    unfold State.settleFrames
    split
    · exact ih h.handBackIfDue
    · exact h

theorem settle (h : s.WidthsInRange) : s.settle.WidthsInRange := h.settleFrames _

theorem takePost (h : s.WidthsInRange) (f : FrameNo) : (s.takePost f).WidthsInRange := by
  unfold State.takePost
  dsimp only
  have haccept : ∀ t : State, t.sites = s.sites → (t.acceptPost f (rawRecipe t.mem)).WidthsInRange := fun t ht =>
    h.of_sites (by simp only [State.acceptPost, State.writeHeader, State.store_sites, ht])
  split
  · exact h.of_sites (by simp only [State.rejectPost, State.writeHeader, State.raise_sites, State.setFrame_sites, State.store_sites])
  · exact (haccept _ (State.store_sites _ _ _)).startIfDue

theorem reportIfIdle (h : s.WidthsInRange) : s.reportIfIdle.WidthsInRange := by
  unfold State.reportIfIdle
  split
  · exact h.idleReport
  · exact h

theorem softStopFrame (h : s.WidthsInRange) (f : FrameNo) : (s.softStopFrame f).WidthsInRange := by
  unfold State.softStopFrame
  split
  · have hstop : (s.setStop f .soft).WidthsInRange := h.of_sites rfl
    exact hstop.everyRunning fun k _ ht => ht.takeSoft k
  · exact h

theorem hardStopFrame (h : s.WidthsInRange) (f : FrameNo) : (s.hardStopFrame f).WidthsInRange := by
  unfold State.hardStopFrame
  split
  · have hstop : (s.setStop f .hard).WidthsInRange := h.of_sites rfl
    exact hstop.everyRunning fun k _ ht => ht.takeHard k
  · exact h

theorem writeStopWord (h : s.WidthsInRange) (f : FrameNo) (v : Word) : (s.writeStopWord f v).WidthsInRange := by
  have hstop : (if v = softValue then s.softStopFrame f else if v = hardValue then s.hardStopFrame f else s).WidthsInRange := by
    split
    · exact h.softStopFrame f
    · split
      · exact h.hardStopFrame f
      · exact h
  unfold State.writeStopWord
  split
  · split
    · have hcancel : ((s.store (frameBase f + 0x004) (bytes32 v)).cancelFrame f).WidthsInRange :=
        h.of_sites (by simp only [State.cancelFrame, State.raise_sites, State.store_sites])
      exact hcancel.reportIfIdle
    · exact h.of_sites (State.store_sites _ _ _)
  · exact hstop.of_sites (State.store_sites _ _ _)
  · exact hstop.of_sites (State.store_sites _ _ _)
  · exact h.of_sites (State.store_sites _ _ _)

theorem takeRunClear (h : s.WidthsInRange) : s.takeRunClear.WidthsInRange := by
  unfold State.takeRunClear
  split
  · exact h.supplyRunClear
  · rename_i f _
    have hstop : (s.setStop f .runCleared).chosen.WidthsInRange := h.of_sites rfl
    have htake : ∀ k {t : State}, t.WidthsInRange → (t.takeHard k).WidthsInRange := fun k _ ht => ht.takeHard k
    exact ((hstop.foldl htake _).supplyRunClear).foldl htake _

/-- A soft reset leaves every port at its reset values, whatever was in flight (R8, R58). -/
theorem beginSoftReset (s : State) : s.beginSoftReset.WidthsInRange := fun k => by
  have hport : (s.beginSoftReset.site k).port = Port.reset := by
    show (look (Vector.replicate 16 Site.reset) k).port = _
    rw [look_replicate]
    rfl
  rw [hport]
  exact Port.widthInRange_of_none rfl

/-! ### Completed reads -/

theorem takeSample (h : s.WidthsInRange) (k : SiteNo) (code : SenseCode) : (s.takeSample k code).WidthsInRange := by
  unfold State.takeSample
  dsimp only
  split
  · exact ((h.onSeq k _).onSeq k _).issueOp k nofun
  · exact h.onSeq k _

theorem afterRefs (h : s.WidthsInRange) (k : SiteNo) (o b : SenseCode) : (s.afterRefs k o b).WidthsInRange := by
  unfold State.afterRefs
  split
  · exact h.unlessStopped k ((h.onSeq k _).issueVerify k 0)
  · exact h.endSite k _

theorem blankVerified (h : s.WidthsInRange) (k : SiteNo) (row : Row) : (s.blankVerified k row).WidthsInRange := by
  unfold State.blankVerified
  dsimp only
  split
  · split
    · exact h.endSite k _
    · exact h.endSite k _
    · exact h.unlessStopped k (h.enterKeywait k)
  · exact h.unlessStopped k (h.issueVerify k _)

theorem rowDone (h : s.WidthsInRange) (k : SiteNo) (row : Row) : (s.rowDone k row).WidthsInRange := by
  have hleft := (h.onSeq k fun q => { q with pendingSet := 0 }).onFormer k Former.rowDone
  unfold State.rowDone
  dsimp only
  split
  · exact hleft.endSite k _
  · exact hleft.unlessStopped k (hleft.beginRow k _)

theorem burnVerified (h : s.WidthsInRange) (k : SiteNo) (row : Row) (v : RowVerify) : (s.burnVerified k row v).WidthsInRange := by
  unfold State.burnVerified
  dsimp only
  split
  · exact h.endSite k _
  · split
    · exact h.unlessStopped k (h.beginAttempt k _ _ _)
    · exact h.rowDone k row

theorem finalVerified (h : s.WidthsInRange) (k : SiteNo) (row : Row) (v : RowVerify) : (s.finalVerified k row v).WidthsInRange := by
  have hfold : (s.foldFinal k (planImage (s.site k).seq.plan row) v).WidthsInRange := h.onSeq k _
  unfold State.finalVerified
  dsimp only
  split
  · exact hfold.endSite k _
  · split
    · split
      · exact hfold.unlessStopped k (hfold.beginLocking k)
      · exact hfold.endSite k _
    · exact hfold.unlessStopped k ((hfold.onSeq k _).issueVerify k _)

theorem afterVerify (h : s.WidthsInRange) (k : SiteNo) (row : Row) (v : RowVerify) : (s.afterVerify k row v).WidthsInRange := by
  unfold State.afterVerify
  split
  · exact h.blankVerified k row
  · exact h.burnVerified k row v
  · exact h.finalVerified k row v
  · exact h

theorem takeSort (h : s.WidthsInRange) (k : SiteNo) (sort : PulseSort) : (s.takeSort k sort).WidthsInRange := by
  unfold State.takeSort
  split
  · exact h.endSite k _
  · exact h.endSite k _
  · exact h.unlessStopped k (h.afterGoodPulse k)

theorem loseAll (h : s.WidthsInRange) : s.loseAll.1.WidthsInRange := by
  have hlose : ∀ (l : List SiteNo) (acc : State × List KeyGrant), acc.1.WidthsInRange → (l.foldl loseSupply acc).1.WidthsInRange := by
    intro l
    induction l with
    | nil => exact fun _ hacc => hacc
    | cons k l ih => exact fun acc hacc => ih _ (hacc.endSiteWith k _)
  exact hlose _ _ (h.of_sites s.chosen_sites)

theorem expireHold (h : s.WidthsInRange) : s.expireHold.WidthsInRange := by
  have hoff : ((s.loseAll.1.onSupply Supply.toOff).raise .supplyLost).WidthsInRange := h.loseAll.of_sites rfl
  exact hoff.deliver _

/-! ### Tester writes -/

theorem takeLoad (h : s.WidthsInRange) (i : SlotNo) : (s.takeLoad i).WidthsInRange := by
  have haccept : (s.acceptLoad i).WidthsInRange :=
    h.of_sites (by simp only [State.acceptLoad, State.clearDisposition, State.onPool_sites, State.store_sites, State.setSlot_sites])
  unfold State.takeLoad
  split
  · exact h.of_sites (by simp only [State.refuseLoad, State.clearDisposition, State.raise_sites, State.onPool_sites,
      State.store_sites, State.setSlot_sites])
  · exact haccept.evaluatePool

theorem writeSlotState (h : s.WidthsInRange) (i : SlotNo) (v : Word) : (s.writeSlotState i v).WidthsInRange := by
  unfold State.writeSlotState
  split
  · exact h.takeLoad i
  · exact h.of_sites (by simp only [State.takeReclaim, State.store_sites, State.setSlot_sites])
  · exact h.of_sites (by simp only [State.takeWithdraw, State.lowerLoaded_sites, State.onPool_sites, State.store_sites,
      State.setSlot_sites])
  · exact h
  · exact h.of_sites rfl

theorem writeFrameState (h : s.WidthsInRange) (f : FrameNo) (v : Word) : (s.writeFrameState f v).WidthsInRange := by
  unfold State.writeFrameState
  split
  · exact h.of_sites rfl
  · split
    · exact (h.takePost f).settle
    · split
      · exact h.of_sites rfl
      · exact h

theorem writeWaferState (h : s.WidthsInRange) (v : Word) : (s.writeWaferState v).WidthsInRange := by
  unfold State.writeWaferState
  split
  · exact h.of_sites rfl
  · split
    · exact h.takeOpen
    · exact h

theorem writeWaferRequest (h : s.WidthsInRange) (w : WordNo) (v : Word) : (s.writeWaferRequest w v).WidthsInRange := by
  unfold State.writeWaferRequest
  split
  · exact h.of_sites (State.store_sites _ _ _)
  · refine State.WidthsInRange.of_sites (s := if v = closeValue then s.takeClose else s) ?_ (State.store_sites _ _ _)
    split
    · exact h.takeClose
    · exact h

theorem writeData (h : s.WidthsInRange) (partOwned : Bool) (w : WordNo) (v : Word) : (s.writeData partOwned w v).WidthsInRange := by
  unfold State.writeData
  split
  · exact h.of_sites rfl
  · exact h.of_sites (State.store_sites _ _ _)

theorem testerWrite (h : s.WidthsInRange) (w : WordNo) (lanes : Lanes) (data : Word) : (s.testerWrite w lanes data).WidthsInRange := by
  unfold State.testerWrite
  split
  · exact h
  · unfold State.takeWrite
    split
    · exact h.of_sites rfl
    · exact h.writeWaferState _
    · exact h.writeWaferRequest _ _
    · exact h.writeData _ _ _
    · exact h.of_sites rfl
    · exact h.writeFrameState _ _
    · exact (h.writeStopWord _ _).settle
    · exact h.writeData _ _ _
    · exact h.writeSlotState _ _
    · exact h.writeData _ _ _
    · exact h.writeData _ _ _
    · exact h

theorem registerWrite (h : s.WidthsInRange) (w : WordNo) (value : Word) : (s.registerWrite w value).WidthsInRange := by
  have hrun : (s.writeRunCtrl value).WidthsInRange := by
    unfold State.writeRunCtrl
    split
    · exact h
    · split
      · exact State.WidthsInRange.beginSoftReset s
      · split
        · exact h
        · split
          · have hset : State.WidthsInRange { s with run := true } := h.of_sites rfl
            exact (hset.startIfDue.supplyRunSet).settle
          · have hclear : State.WidthsInRange { s with run := false } := h.of_sites rfl
            exact hclear.takeRunClear.settle
  unfold State.registerWrite
  split
  · exact h
  · split
    · exact hrun
    · split
      · exact h.of_sites rfl
      · split
        · exact h.of_sites rfl
        · exact h

end State.WidthsInRange

/-! ### Commands and steps -/

/-- Where a command leads on, every PULSE in flight has a width of 4..800 ticks. -/
def KeepsWidths (r : Host.Outcome State Fault Refusal) : Prop := ∀ t, r = .next t → t.WidthsInRange

theorem KeepsWidths.next {t : State} (h : t.WidthsInRange) : KeepsWidths (.next t) := fun _ hu => by
  obtain rfl := Host.Outcome.next.inj hu
  exact h

theorem KeepsWidths.ite {p : Prop} [Decidable p] {r r' : Host.Outcome State Fault Refusal} (h : KeepsWidths r)
    (h' : KeepsWidths r') : KeepsWidths (if p then r else r') := by
  split
  · exact h
  · exact h'

section Commands

variable {s : State}

theorem execReadACompletion_keepsWidths (h : s.WidthsInRange) (k : SiteNo) (codes : LaneCodes) :
    KeepsWidths (execReadACompletion k codes s) := by
  unfold execReadACompletion
  split
  · exact .ite (.next ((h.onSeq k _).issueOp k nofun)) (.next (h.dropOp k))
  · exact .next h

theorem execVerifyCompletion_keepsWidths (h : s.WidthsInRange) (k : SiteNo) (codes : LaneCodes) :
    KeepsWidths (execVerifyCompletion k codes s) := by
  unfold execVerifyCompletion
  split
  · exact .ite (.next ((((h.onSeq k _).endOp k).afterVerify k _ _).settle)) (.next (h.dropOp k))
  · exact .next h

theorem execKeyDraw_keepsWidths (h : s.WidthsInRange) : KeepsWidths (execKeyDraw s) := by
  unfold execKeyDraw
  split
  · exact .next h
  · split
    · exact .next h
    · exact .next ((h.draw ‹_›).takeKeyGrant _)

theorem execThermalReading_keepsWidths (h : s.WidthsInRange) (k : SiteNo) (celsius : Int) :
    KeepsWidths (execThermalReading k celsius s) := by
  have hreading : (s.takeReading k (clampCelsius celsius)).WidthsInRange := h.onMonitor k _
  exact .ite (.next (hreading.thermalEvent k).settle) (.next hreading)

theorem execSoftResetCompletion_keepsWidths (h : s.WidthsInRange) : KeepsWidths (execSoftResetCompletion s) := by
  refine .ite (.next fun k => ?_) (.next h)
  rw [State.completeReset_site]
  exact h k

theorem execPowerOnReset_keepsWidths (s : State) : KeepsWidths (execPowerOnReset s) :=
  .next fun k => by
    have hport : (State.site { State.reset with choices := s.choices, pending := s.pending } k).port = Port.reset := by
      show (look (Vector.replicate 16 Site.reset) k).port = _
      rw [look_replicate]
      rfl
    rw [hport]
    exact Port.widthInRange_of_none rfl

/-- Every command keeps every PULSE in flight within 4..800 ticks (R27). -/
theorem exec_keepsWidths (c : Instr) (h : s.WidthsInRange) : KeepsWidths (exec c s) := by
  cases c with
  | powerOnReset => exact execPowerOnReset_keepsWidths s
  | initialisationEnd => exact .ite (.next (h.of_sites rfl)) (.next h)
  | runSet value | runClear value | softReset value | attnWrite value | attnEnWrite value | registerWriteOther _ value =>
    exact .next (h.registerWrite _ value)
  | softResetCompletion => exact execSoftResetCompletion_keepsWidths h
  | post _ lanes | release _ lanes | softStop _ lanes | hardStop _ lanes | load _ lanes | reclaim _ lanes | withdraw _ lanes
  | openWafer lanes | closeWafer lanes | watchedWordNoRequest _ lanes _ | dataWordWrite _ lanes _
  | droppedWatchedWordWrite _ lanes _ => exact .next (h.testerWrite _ lanes _)
  | frameStart => exact .next h.startIfDue.settle
  | handBack => exact .next h.settle
  | closeCompletion => exact .ite (.next h.idleReport) (.next h)
  | contactSample k code => exact .ite (.next (h.takeSample k code)) (.next h)
  | contactTimerExpiry k => exact .ite (.next (h.endSite k _).settle) (.next h)
  | referenceReadCompletion k o b =>
    exact .ite (.ite (.next (((h.onSeq k _).endOp k).afterRefs k o b).settle) (.next (h.dropOp k))) (.next h)
  | readACompletion k codes => exact execReadACompletion_keepsWidths h k codes
  | verifyCompletion k codes => exact execVerifyCompletion_keepsWidths h k codes
  | keyWaitExpiry k => exact .ite (.next (h.endSite k _).settle) (.next h)
  | keyDraw => exact execKeyDraw_keepsWidths h
  | budgetGrant => exact .next h.evaluate
  | pulseCompletion k sample => exact .ite (.next ((h.completePulse k).takeSort k _).settle) (.next h)
  | overcurrentEvent k sample =>
    exact .ite (.ite (.next ((h.truncatePulse k).endSite k _).settle) (.next (h.onMonitor k _))) (.next h)
  | thermalReading k celsius => exact execThermalReading_keepsWidths h k celsius
  | settleTimerExpiry | wakeTimerExpiry => exact .ite (.next h.enterReady) (.next h)
  | idleTimerExpiry | supplyGoodEvent => exact .ite (.next (h.of_sites rfl)) (.next h)
  | undervoltageEvent => exact .ite (.next h.enterHold) (.next h)
  | holdExpiry => exact .ite (.next h.expireHold.settle) (.next h)
  | offPendingCompletion => exact .next h.completeOffPending

/-- Every step keeps every PULSE in flight within 4..800 ticks (R27). -/
theorem step_keepsWidths (h : s.WidthsInRange) : KeepsWidths (step s) := by
  unfold step
  split
  · exact .next h
  · exact exec_keepsWidths _ (h.of_sites rfl)

end Commands

/-- Settles O60: the arithmetic of the width, and the widths kept by every operation. -/
theorem pulseWidthsStayInTheirRange : Obligations.PulseWidthsStayInTheirRange := by
  refine ⟨fun r n raw hrange hraw => ?_, fun s t hs hstep => ?_⟩
  · obtain ⟨-, -, ⟨hlow, hhigh⟩, -⟩ := hrange
    have hfour := four_le_width hlow (n * r.escalation)
    have hticks : pulseTicks r n = max 4 (min 800 raw) := by rw [hraw, pulseTicks]
    refine ⟨by omega, by omega, by omega, by omega, fun habove m hm => ?_, fun hflat => ?_, fun s k g chopped hr hn => ?_⟩
    · exact pulseTicks_of_above hm (hraw ▸ habove)
    · rw [hticks, hraw, hflat, Nat.mul_zero]
      omega
    · rw [State.opOf, State.grant_site_same, hr, ← hn]
      rfl
  · exact t.widthsInRange_iff.1 (step_keepsWidths (s.widthsInRange_iff.2 hs) t hstep)

end Sys2Proof.Machine

/-!
PROOF. The two timers that end a site without a key: O38 and O39.
-/

namespace Sys2Proof.Machine

/-- A sample is short exactly above the short limit, where it is not open as well (R36). -/
theorem contactClass_eq_short_iff (r : Recipe) (code : SenseCode) :
    contactClass r code = .short ↔ r.contactOpenMax ≤ code.val ∧ r.contactShortMin < code.val := by
  unfold contactClass
  split
  · rename_i hopened
    exact iff_of_false nofun fun ⟨hlow, _⟩ => absurd hopened (by omega)
  · split
    · rename_i hshort
      exact iff_of_true rfl ⟨by omega, hshort⟩
    · rename_i hshort
      exact iff_of_false nofun fun ⟨_, h⟩ => hshort h

theorem timeoutOutcome_eq (r : Recipe) (last : SenseCode) :
    timeoutOutcome r last
      = if r.contactOpenMax ≤ last.val ∧ r.contactShortMin < last.val then .padShort else .noContact := by
  simp only [timeoutOutcome, contactClass_eq_short_iff]

/-- Neither outcome of a contact timeout looks at the pulsed flag: both write RETRY (R53). -/
theorem mapCodeOf_timeoutOutcome (r : Recipe) (last : SenseCode) (pulsed : Bool) :
    mapCodeOf (timeoutOutcome r last) pulsed = some 5 := by
  unfold timeoutOutcome
  split <;> rfl

/-- Settles O38: the outcome by the last sample, and the end of a keyless site. -/
theorem contactTimeoutEndsTheSite : Obligations.ContactTimeoutEndsTheSite := by
  intro f k s halone hstate htimer hop hkey
  obtain ⟨hsettle, hends⟩ := halone.endSite_settle (o := timeoutOutcome s.workingRecipe (s.site k).seq.lastSample)
    (by rw [hstate]; rfl) hkey (mapCodeOf_timeoutOutcome _ _ _)
  have hexec : exec (.contactTimerExpiry k) s
      = .next (s.endSite k (timeoutOutcome s.workingRecipe (s.site k).seq.lastSample)).settle :=
    if_pos ⟨hstate, Option.isSome_iff_ne_none.2 htimer⟩
  rw [hexec, hsettle]
  refine ⟨_, rfl, ?_, timeoutOutcome_eq _ _ ▸ hends⟩
  have hport : (s.site k).port.op = some .contactSample := hop
  rw [hends.site]
  simp only [Site.asEnded, hport, or_true, if_true]

/-- Settles O39: the end of a keyless site withdraws its draw request (R51). -/
theorem keyWaitExpiryEndsKeyStarved : Obligations.KeyWaitExpiryEndsKeyStarved := by
  intro f k s halone hstate htimer hkey
  obtain ⟨hsettle, hends⟩ := halone.endSite_settle (o := .keyStarved) (by rw [hstate]; rfl) hkey rfl
  have hexec : exec (.keyWaitExpiry k) s = .next (s.endSite k .keyStarved).settle :=
    if_pos ⟨hstate, Option.isSome_iff_ne_none.2 htimer⟩
  rw [hexec, hsettle]
  exact ⟨_, rfl, hends.ended.noDraw, hends⟩

end Sys2Proof.Machine

/-!
PROOF. The values of power-on reset as the tester reads them (R163, R169, R170, R174): O12.
-/

namespace Sys2Proof.Machine

/-- A code of 0 reads as zero in every byte of its word. -/
theorem codeByte_zero (i : Nat) : codeByte 0 i = 0 := by
  unfold codeByte
  split <;> rfl

/-- The header right after power-on reset: the next frame sequence 1 in its lowest byte at 14h, every other byte 0 (R169, R174; log 9). -/
theorem headerBytes_reset (o : Nat) : State.reset.headerBytes.getD o 0 = if o = 0x14 then 1 else 0 := by
  by_cases h : o < 0x34
  · revert o
    decide +kernel
  · have hlen : State.reset.headerBytes.length = 0x34 := by decide +kernel
    rw [List.getD_eq_default _ _ (by omega), if_neg (by omega)]

theorem kindAt_of_header {o : Nat} (h : o < 0x100) : kindAt o = .header := if_pos h

/-- The words of the header are those of the first 100h bytes (R163). -/
theorem kindAt_ne_header {o : Nat} (h : ¬ o < 0x100) : kindAt o ≠ .header := by
  unfold kindAt
  rw [if_neg h]
  dsimp only
  repeat' split
  all_goals simp only [ne_eq, reduceCtorEq, not_false_eq_true]

theorem State.readByte_header (s : State) {o : Nat} (h : o < 0x100) : s.readByte o = s.headerBytes.getD o 0 := by
  have hkind : kindAt (4 * (o / 4)) = .header := kindAt_of_header (by omega)
  simp only [State.readByte, hkind]

/-- With memory all zero, the wafer CLOSED, every frame FREE and every slot EMPTY, each byte outside the header reads 0. -/
theorem State.readByte_of_blank {s : State} {o : Nat} (h : ¬ o < 0x100) (hmem : s.mem = []) (hwafer : s.wafer = .closed)
    (hframes : ∀ f, s.frameState f = .free) (hslots : ∀ i, s.slotState i = .empty) : s.readByte o = 0 := by
  have hother : kindAt (4 * (o / 4)) ≠ .header := kindAt_ne_header (by omega)
  cases hkind : kindAt (4 * (o / 4)) with
  | header => exact absurd hkind hother
  | waferState => simp only [State.readByte, hkind, hwafer, WaferState.code, codeByte_zero]
  | frameState f => simp only [State.readByte, hkind, hframes, FrameState.code, codeByte_zero]
  | slotState i => simp only [State.readByte, hkind, hslots, SlotState.code, codeByte_zero]
  | unmapped => simp only [State.readByte, hkind]
  | waferRequest | waferData | recipe | frameStop f | frameData f | slotData i | map =>
    simp only [State.readByte, hkind, hmem, Memory.read_nil]

/-- Every byte of exchange memory right after power-on reset (R174; log 9). -/
theorem readByte_reset (o : Nat) : State.reset.readByte o = if o = 0x14 then 1 else 0 := by
  by_cases h : o < 0x100
  · rw [State.readByte_header _ h, headerBytes_reset]
  · rw [State.readByte_of_blank h rfl rfl (look_replicate _) (look_replicate _), if_neg (by omega)]

theorem readRegister_reset (w : WordNo) : State.reset.readRegister w = if w = 0 then 0x4E160110 else 0 := by
  unfold State.readRegister
  split
  · rfl
  · have hrun : ((if State.reset.run then 1 else 0) ||| (if State.reset.softReset then 2 else 0) : Word) = 0 := by decide
    rw [hrun]
    repeat' split
    all_goals rfl

theorem attentionLine_reset : State.reset.attentionLine = false := by decide

/-- What the tester reads does not depend on the queue and the number of the next choice, which are the model's own. -/
theorem State.readByte_own (s : State) (c : Nat) (q : List Instr) (o : Nat) :
    State.readByte { s with choices := c, pending := q } o = s.readByte o := rfl

/-- The bit of RESET_DONE in ATTN (R172, 10.5). -/
theorem resetDone_bit (x : BitVec 11) : ∀ i < 11, (x ||| Cause.resetDone.mask).getLsbD i = (x.getLsbD i || i == 10) := by
  intro i hi
  rw [BitVec.getLsbD_or]
  congr 1
  revert i
  decide

/-- Settles O12: the header byte by byte, the other regions by their owners' codes, and the blocks by their reset columns. -/
theorem powerOnResetGivesTheResetValues : Obligations.PowerOnResetGivesTheResetValues := by
  refine ⟨fun s => ⟨_, rfl, fun o => (State.readByte_own _ _ _ o).trans (readByte_reset o), readRegister_reset, attentionLine_reset, rfl, fun f => ?_,
    fun i => ?_, rfl, fun k => ?_, rfl, rfl, rfl, rfl, rfl, rfl, rfl⟩, fun s => ⟨fun h => ?_, fun h => ?_⟩⟩
  · show (look (Vector.replicate 4 FrameState.free) f).partOwned = false
    rw [look_replicate]
    rfl
  · show (look (Vector.replicate 256 SlotState.empty) i).partOwned = false
    rw [look_replicate]
    rfl
  · show (look (Vector.replicate 16 Site.reset) k).port.lineOn = false ∧ look (Vector.replicate 16 Site.reset) k = _
    rw [look_replicate]
    exact ⟨rfl, rfl⟩
  · exact ⟨_, if_pos h, rfl, resetDone_bit s.attn⟩
  · exact if_neg (by simp [h])

end Sys2Proof.Machine

/-!
PROOF. A draw and the key grant it leads to (R40, R42, R121 to R123, R126): O44.
-/

namespace Sys2Proof.Machine

/-- The lowest waiting site is the one served next (R121). -/
theorem Pool.nextWaiting_of_lowest {p : Pool} {k : SiteNo} {len : KeyLength} (hk : look p.waiting k = some len)
    (hlow : ∀ j, j < k → look p.waiting j = none) : p.nextWaiting = some (k, len) := by
  have hfirst : ∀ l : List SiteNo, l.Pairwise (· < ·) → k ∈ l →
      (l.findSome? fun j => (look p.waiting j).map fun len => (j, len)) = some (k, len) := by
    intro l
    induction l with
    | nil => exact fun _ => nofun
    | cons a l ih =>
      intro hl hmem
      obtain ⟨hhead, htail⟩ := List.pairwise_cons.1 hl
      obtain rfl | hmem := List.mem_cons.1 hmem
      · simp [hk]
      · rw [List.findSome?_cons, hlow a (hhead k hmem)]
        exact ih htail hmem
  exact hfirst allSites (List.pairwise_lt_finRange 16) (mem_allSites k)

/-- The slot that R122 names is chosen, and the redraw list or the cursor moves past it. -/
theorem Pool.choose_eq_some {p : Pool} {i : SlotNo}
    (h : p.redraw.head? = some i ∨ (p.redraw = [] ∧ look p.slots i = .loaded ∧ ∃ n < 256, i = Fin.ofNat 256 (p.cursor.val + n)
      ∧ ∀ m < n, look p.slots (Fin.ofNat 256 (p.cursor.val + m)) ≠ .loaded)) :
    p.choose = some (i, { p with
      redraw := p.redraw.tail, cursor := if p.redraw = [] then Fin.ofNat 256 (i.val + 1) else p.cursor }) := by
  obtain hhead | ⟨hempty, hloaded, n, hn, rfl, hfirst⟩ := h
  · obtain ⟨rest, hrest⟩ := List.head?_eq_some_iff.1 hhead
    simp only [Pool.choose, hrest, List.tail_cons, reduceCtorEq, if_false]
  · have hfind : (scanOrder p.cursor).find? (fun i => look p.slots i == .loaded) = some (Fin.ofNat 256 (p.cursor.val + n)) := by
      rw [scanOrder, List.find?_map, find?_eq_some_of_least (x := n) List.pairwise_lt_range (List.mem_range.2 hn)]
      · rfl
      · simpa using hloaded
      · intro m _ hm
        simpa using hfirst m hm
    simp only [Pool.choose, hempty, hfind, List.tail_nil, if_true]

/-- A fall of loaded_count raises POOL_LOW exactly when it stood at the watermark (R126). -/
theorem State.lowerLoaded_eq {s : State} (h : 1 ≤ s.pool.loadedCount) :
    s.lowerLoaded = { s with
      attn := if s.pool.loadedCount = s.pool.watermark then s.attn ||| 0x020#11 else s.attn
      pool := { s.pool with loadedCount := s.pool.loadedCount - 1 } } := by
  have hcross : (s.pool.watermark ≤ s.pool.loadedCount ∧ s.pool.loadedCount - 1 < s.pool.watermark)
      ↔ s.pool.loadedCount = s.pool.watermark := by omega
  unfold State.lowerLoaded
  simp only [hcross]
  split <;> rfl

/-- The site holds its key grant, with fingerprint and row plan, before it begins its first row (R40, R42). -/
def Site.keyed (len : KeyLength) (g : KeyGrant) (x : Site) : Site :=
  { x with seq := { x.seq with
      keyTimer := none, key := some { slot := g.slot, serial := g.serial, buffer := g.buffer }
      fingerprint := checkValue g.buffer, plan := rowPlan len g.buffer x.seq.lotTag, pulsed := false } }

theorem State.takeKeyGrant_eq (g : KeyGrant) (s : State) :
    s.takeKeyGrant g = (s.onSite g.site (Site.keyed s.workingRecipe.keyLength g)).beginRow g.site 0 := rfl

/-- The site takes its key grant and begins the first row of its plan (R40, R43). -/
theorem State.takeKeyGrant_rowBegins (g : KeyGrant) (s : State) :
    (s.onSite g.site (Site.keyed s.workingRecipe.keyLength g)).RowBegins (s.takeKeyGrant g) g.site 0 := by
  rw [State.takeKeyGrant_eq]
  exact State.beginRow_rowBegins (key := g.buffer) (tag := (s.site g.site).seq.lotTag) (row := 0)
    (by rw [State.onSite_site_same]; rfl)

/-- A draw of the slot chosen, as a whole (R121, R123, R126). -/
theorem State.drawSlot_eq {s : State} (k : SiteNo) (i : SlotNo) {p : Pool} (h : 1 ≤ p.loadedCount) :
    s.drawSlot k i p = { s with
      mem := Memory.writeBytes s.mem (slotBase i + 0x20) (List.replicate 32 0)
      attn := if p.loadedCount = p.watermark then s.attn ||| 0x020#11 else s.attn
      pool := { p with
        slots := put p.slots i .drawn, waiting := put p.waiting k none, draws := sat16 (p.draws + 1)
        loadedCount := p.loadedCount - 1 } } := by
  unfold State.drawSlot
  generalize List.replicate 32 (0 : Byte) = zeros
  rw [State.lowerLoaded_eq (by exact h)]
  rfl

/-- A draw wipes the 32 key bytes of its slot (R123). -/
theorem State.drawSlot_mem (k : SiteNo) (i : SlotNo) (p : Pool) (s : State) :
    (s.drawSlot k i p).mem = Memory.writeBytes s.mem (slotBase i + 0x20) (List.replicate 32 0) := by
  unfold State.drawSlot
  generalize List.replicate 32 (0 : Byte) = zeros
  unfold State.lowerLoaded
  dsimp only
  split <;> rfl

/-- Zeros written read as zeros. -/
theorem Memory.read_writeBytes_zeros (m : Memory) (a n : Nat) {j : Nat} (hj : j < n) :
    Memory.read (Memory.writeBytes m a (List.replicate n 0)) (a + j) = 0 := by
  rw [Memory.read_writeBytes_inside _ _ (by simpa using hj)]
  simp [List.getD_eq_getElem?_getD, hj]

/-- Settles O44: the choice of the slot, the draw, and the grant at the site. -/
theorem keyDrawServesTheLowestWaitingSite : Obligations.KeyDrawServesTheLowestWaitingSite := by
  intro k i len buffer s hk hlow hcount hbuffer hslot
  have hnext : s.pool.nextWaiting = some (k, len) := Pool.nextWaiting_of_lowest hk hlow
  have hchoose := Pool.choose_eq_some hslot
  set p : Pool := { s.pool with
    redraw := s.pool.redraw.tail, cursor := if s.pool.redraw = [] then Fin.ofNat 256 (i.val + 1) else s.pool.cursor } with hp
  set g : KeyGrant := { site := k, slot := i, serial := s.slotSerial i, buffer := s.slotKey i len.keyBytes } with hg
  have hdraw : s.draw k len = some (s.drawSlot k i p, g) := by simp only [State.draw, hchoose, hg]
  have hexec : exec .keyDraw s = .next ((s.drawSlot k i p).takeKeyGrant g) := by
    show execKeyDraw s = _
    simp only [execKeyDraw, hnext, hdraw]
  have hbuf : buffer = s.slotKey i len.keyBytes := by
    rw [hbuffer, State.slotKey]
    cases len <;> rfl
  have hslotEq := State.drawSlot_eq (s := s) k i (p := p) hcount
  refine ⟨_, _, hexec, (s.drawSlot k i p).takeKeyGrant_rowBegins g, ?_, fun j hj => ?_, fun a ha => ?_⟩
  · rw [hslotEq, hbuf]
    generalize Memory.writeBytes s.mem _ _ = m
    rfl
  · rw [State.onSite_mem, State.drawSlot_mem]
    exact Memory.read_writeBytes_zeros _ _ _ hj
  · rw [State.onSite_mem, State.drawSlot_mem]
    exact Memory.read_writeBytes_outside _ _ (by simpa [Nat.add_assoc] using ha)

end Sys2Proof.Machine

/-!
PROOF. Verifies and pulses that end their site at a boundary: the lock judgement, the failures of a burned field and the stops taken
(R45 to R50, R55, R56): O54 and O56.
-/

namespace Sys2Proof.Machine

/-! ### Ends and stops at a boundary -/

/-- The end of a site with its key spent, in a frame in which another site still runs, is all that follows (R51 to R53, R146). -/
theorem State.EndsAlone.endSite_spends {s : State} {f : FrameNo} {k : SiteNo} {o : SiteOutcome} {h : KeyHeld} {bound : Bool}
    (halone : s.EndsAlone f k) (hrun : (s.site k).seq.state.isRunning = true) (hkey : (s.site k).seq.key = some h)
    (hpulsed : (s.site k).seq.pulsed = true) (hspent : if bound then o = .keyed else o ≠ .keyed)
    (hcode : mapCodeOf o true = some (if bound then 2 else 4)) :
    (s.endSite k o).settle = s.endSite k o ∧ s.EndsSpent (s.endSite k o) f k o h bound := by
  obtain ⟨hf, hreq, j, hj, hended⟩ := halone
  have hspent' : if bound then o = .keyed else o ≠ .keyed ∧ (s.site k).seq.pulsed = true := by
    cases bound with
    | true => exact hspent
    | false => exact ⟨hspent, hpulsed⟩
  have hends := State.endSite_endsSpent hf hrun hkey hreq hspent' (by rw [hpulsed]; exact hcode)
  exact ⟨hends.settle_eq hj hended, hends⟩

/-- A HARD stop is due at every boundary (R55). -/
theorem Sequencer.stopDue_of_hard {q : Sequencer} (h : q.stopTaken = .hard) : q.stopDue = true := by
  simp [Sequencer.stopDue, h]

/-- Either stop is due at a boundary of a site that holds no key (R55, R56). -/
theorem Sequencer.stopDue_of_keyless {q : Sequencer} (h : q.stopTaken = .hard ∨ q.stopTaken = .soft) (hkey : q.key = none) :
    q.stopDue = true := by
  obtain h | h := h
  · exact Sequencer.stopDue_of_hard h
  · simp [Sequencer.stopDue, Sequencer.holdsPulsedKey, h, hkey]

/-- A site with a stop due ends ABORTED at its boundary. -/
theorem State.unlessStopped_of_due {s : State} {k : SiteNo} (go : State → State) (h : (s.site k).seq.stopDue = true) :
    s.unlessStopped k go = s.endSite k .aborted := if_pos h

/-! ### Verifies of a burned row and of the final verify -/

section Verifies

variable {s : State} {k : SiteNo} {row : Row} {codes : LaneCodes} {v : RowVerify}

theorem disturbSet_ne_zero_iff (image : ColSet) (v : RowVerify) :
    disturbSet image v ≠ 0 ↔ ∃ c, hasCol image c = false ∧ look v.cells c ≠ .intact := by
  rw [Ne, disturbSet_eq_zero_iff]
  push Not
  rfl

theorem failingSet_ne_zero_iff (image : ColSet) (v : RowVerify) :
    failingSet image v ≠ 0 ↔ ∃ c, hasCol image c = true ∧ look v.cells c ≠ .blown := by
  rw [Ne, failingSet_eq_zero_iff]
  push Not
  rfl

/-- A verify in VERIFY: disturb, retry or row done (R45, R46). -/
theorem State.Verifying.exec_verify (h : s.Verifying k row codes v) (hstate : (s.site k).seq.state = .verify) :
    exec (.verifyCompletion k codes) s = .next (State.settle (
      if disturbSet (planImage (s.site k).seq.plan row) v ≠ 0 then (s.verifyRecorded k row v).endSite k .burnFail
      else if failingSet (planImage (s.site k).seq.plan row) v ≠ 0 ∧ (s.site k).seq.attempt + 1 < s.workingRecipe.attemptLimit then
        (s.verifyRecorded k row v).unlessStopped k
          (State.beginAttempt k row ((s.site k).seq.attempt + 1) (failingSet (planImage (s.site k).seq.plan row) v))
      else (s.verifyRecorded k row v).rowDone k row)) := by
  rw [h.exec_eq (by rw [hstate]; rfl), State.afterVerify, State.verifyRecorded_site_same, hstate]
  simp only [State.burnVerified, State.verifyRecorded_site_same, State.verifyRecorded_workingRecipe]

/-- A verify in FINAL: the row is folded, then disturb, the tests of R48, or the next row (R25, R47). -/
theorem State.Verifying.exec_fold (h : s.Verifying k row codes v) (hstate : (s.site k).seq.state = .final) :
    exec (.verifyCompletion k codes) s = .next (State.settle (
      if disturbSet (planImage (s.site k).seq.plan row) v ≠ 0 then
        (s.onSite k fun _ => (s.site k).folded row v).endSite k .burnFail
      else if row = s.workingRecipe.keyLength.checkRow then
        if (s.onSite k fun _ => (s.site k).folded row v).finalPasses k then
          (s.onSite k fun _ => (s.site k).folded row v).unlessStopped k (State.beginLocking k)
        else (s.onSite k fun _ => (s.site k).folded row v).endSite k .burnFail
      else (s.onSite k fun _ => (s.site k).folded row v).unlessStopped k fun u =>
        State.issueVerify k (nextRow row) (u.onSeq k fun q => { q with row := some (nextRow row) }))) := by
  have hplan : ((s.verifyRecorded k row v).site k).seq.plan = (s.site k).seq.plan := by rw [State.verifyRecorded_site_same]
  have hrecipe : (s.onSite k fun _ => (s.site k).folded row v).workingRecipe = s.workingRecipe := rfl
  rw [h.exec_eq (by rw [hstate]; rfl), State.afterVerify, State.verifyRecorded_site_same, hstate]
  simp only [State.finalVerified, hplan, State.foldFinal_verifyRecorded, hrecipe]

/-- The folded row as R25 and R47 give it. -/
theorem State.folded_foldsFinal (s : State) (k : SiteNo) (row : Row) (v : RowVerify) :
    s.FoldsFinal (s.onSite k fun _ => (s.site k).folded row v) k row v
      ((s.site k).seq.degraded + degradedPairs (planImage (s.site k).seq.plan row) v.cells) :=
  ⟨_, _, le_foldBlown_iff _ _ _ _, le_foldIntact_iff _ _ _ _, rfl⟩

/-- The two tests of R48 on the folded check row. -/
theorem State.finalPasses_folded {h : KeyHeld} (hkey : (s.site k).seq.key = some h) :
    (s.onSite k fun _ => (s.site k).folded row v).finalPasses k = true
      ↔ readbackMatches s.workingRecipe.keyLength h.buffer (s.site k).seq.lotTag (put (s.site k).seq.verified row (some v)) = true
        ∧ (s.site k).seq.degraded + degradedPairs (planImage (s.site k).seq.plan row) v.cells ≤ s.workingRecipe.degradedTolerance := by
  rw [State.finalPasses, State.onSite_site_same]
  simp only [Site.folded, hkey, Bool.and_eq_true, decide_eq_true_eq]
  rfl

/-- The row is done: the lock is judged, or the site is at the boundary before its next row (R46, R50). -/
theorem State.rowDone_eq (s : State) (k : SiteNo) (row : Row) :
    s.rowDone k row = match (s.site k).seq.phase with
      | .locking => (s.rowLeft k).endSite k (lockOutcome (lockPairs s.workingRecipe.keyLength (s.site k).seq.verified))
      | .burn => (s.rowLeft k).unlessStopped k (State.beginRow k (nextRow row)) := by
  have hleft : (s.onSeq k fun q => { q with pendingSet := 0 }).onFormer k Former.rowDone = s.rowLeft k := by
    rw [State.onSeq_eq, State.onFormer, State.onSite_onSite]
    rfl
  simp only [State.rowDone, hleft, State.rowLeft_site_same]
  rfl

end Verifies

/-- A running site with a pulsed key ends with its key spent from a state that its command made of s by changing the site (R127). -/
theorem State.EndsAlone.onSite_endSite_spends {s : State} {f : FrameNo} {k : SiteNo} {o : SiteOutcome} {h : KeyHeld} {bound : Bool}
    {g : Site → Site} (halone : s.EndsAlone f k) (hrun : (g (s.site k)).seq.state.isRunning = true)
    (hkey : (g (s.site k)).seq.key = some h) (hpulsed : (g (s.site k)).seq.pulsed = true)
    (hspent : if bound then o = .keyed else o ≠ .keyed) (hcode : mapCodeOf o true = some (if bound then 2 else 4)) :
    ((s.onSite k g).endSite k o).settle = (s.onSite k g).endSite k o
      ∧ (s.onSite k g).EndsSpent ((s.onSite k g).endSite k o) f k o h bound := by
  have halone' : (s.onSite k g).EndsAlone f k := halone
  exact halone'.endSite_spends (by rwa [State.onSite_site_same]) (by rwa [State.onSite_site_same]) (by rwa [State.onSite_site_same])
    hspent hcode

/-- Settles O54: the lock row by its pairs, the disturbs and the failed tests by BURN_FAIL. -/
theorem lockAndFailureSpendTheKey : Obligations.LockAndFailureSpendTheKey := by
  intro k f row codes v h s deg hv halone hkey hpulsed hdeg
  rw [← degradedPairs_eq] at hdeg
  have hfolds := s.folded_foldsFinal k row v
  rw [← hdeg] at hfolds
  have hfinal : (s.site k).seq.state = .final →
      ((s.onSite k fun _ => (s.site k).folded row v).endSite k .burnFail).settle
          = (s.onSite k fun _ => (s.site k).folded row v).endSite k .burnFail
        ∧ (s.onSite k fun _ => (s.site k).folded row v).EndsSpent
            ((s.onSite k fun _ => (s.site k).folded row v).endSite k .burnFail) f k .burnFail h false := fun hstate =>
    halone.onSite_endSite_spends (bound := false) (by simp only [Site.folded, hstate]; rfl) hkey hpulsed nofun rfl
  refine ⟨fun hstate hphase hrow hintact hdone => ?_, fun hdisturb => ⟨fun hstate => ?_, fun hstate => ?_⟩,
    fun hstate hrow hfails => ?_⟩
  · have hnotAgain : ¬ (failingSet (planImage (s.site k).seq.plan row) v ≠ 0
        ∧ (s.site k).seq.attempt + 1 < s.workingRecipe.attemptLimit) := by
      rintro ⟨hfails, hleft⟩
      obtain hblown | hlimit := hdone
      · exact hfails ((failingSet_eq_zero_iff _ _).2 hblown)
      · omega
    have hlast : lockPairs s.workingRecipe.keyLength ((s.verifyRecorded k row v).site k).seq.verified = v.blownPairs :=
      lockPairs_eq ((State.look_verified_verifyRecorded s k row _ v).trans (if_pos hrow))
    have hexec : exec (.verifyCompletion k codes) s
        = .next (((s.verifyRecorded k row v).rowLeft k).endSite k (lockOutcome v.blownPairs)).settle := by
      rw [hv.exec_verify hstate, if_neg (not_not.2 ((disturbSet_eq_zero_iff _ _).2 hintact)), if_neg hnotAgain, State.rowDone_eq,
        State.verifyRecorded_workingRecipe, hlast, State.verifyRecorded_site_same, hphase]
    have hends := fun (o : SiteOutcome) (bound : Bool) =>
      State.EndsAlone.onSite_endSite_spends (s := s.verifyRecorded k row v) (f := f) (k := k) (o := o) (h := h) (bound := bound)
        (g := fun x => { x with
          seq := { x.seq with pendingSet := 0 }, former := { x.former with state := .idle, row := none, attempt := 0, pulsedCols := 0 } })
        halone (by simp only [State.verifyRecorded_site_same, hstate]; rfl) (by rw [State.verifyRecorded_site_same]; exact hkey)
        (by rw [State.verifyRecorded_site_same]; exact hpulsed)
    rw [hexec]
    refine ⟨fun hfull => ?_, fun hfew => ?_⟩
    · obtain ⟨hsettle, hspent⟩ := hends .keyed true rfl rfl
      rw [show lockOutcome v.blownPairs = .keyed from if_pos hfull]
      exact ⟨_, congrArg _ hsettle, hspent⟩
    · obtain ⟨hsettle, hspent⟩ := hends .burnFail false nofun rfl
      rw [show lockOutcome v.blownPairs = .burnFail from if_neg (by omega)]
      exact ⟨_, congrArg _ hsettle, hspent⟩
  · have hset := (disturbSet_ne_zero_iff _ _).2 hdisturb
    obtain ⟨hsettle, hspent⟩ := State.EndsAlone.endSite_spends (s := s.verifyRecorded k row v) (f := f) (k := k) (o := .burnFail)
      (h := h) (bound := false) halone (by rw [State.verifyRecorded_site_same, hstate]; rfl)
      (by rw [State.verifyRecorded_site_same]; exact hkey) (by rw [State.verifyRecorded_site_same]; exact hpulsed) nofun rfl
    rw [hv.exec_verify hstate, if_pos hset, hsettle]
    exact ⟨_, rfl, hspent⟩
  · have hset := (disturbSet_ne_zero_iff _ _).2 hdisturb
    obtain ⟨hsettle, hspent⟩ := hfinal hstate
    rw [hv.exec_fold hstate, if_pos hset, hsettle]
    exact ⟨_, _, rfl, hspent, hfolds⟩
  · obtain ⟨hsettle, hspent⟩ := hfinal hstate
    have hnot : (s.onSite k fun _ => (s.site k).folded row v).finalPasses k ≠ true := by
      rw [Ne, State.finalPasses_folded hkey]
      rintro ⟨hread, htol⟩
      obtain hbad | hover := hfails
      · rw [hread] at hbad
        cases hbad
      · omega
    rw [hv.exec_fold hstate, if_pos hrow, if_neg hnot, ite_self, hsettle]
    refine ⟨_, _, rfl, hspent, hfolds, ?_⟩
    rw [hspent.site, State.onSite_site_same, hdeg]
    rfl

/-! ### Stops at a boundary -/

section Stops

variable {s : State} {f : FrameNo} {k : SiteNo} {g : Site → Site} {go : State → State}

/-- A site without a key that took a stop ends ABORTED at its boundary, with what its operation left (R55, R56). -/
theorem State.EndsAlone.stop_endsKeyless (halone : s.EndsAlone f k) (hrun : (g (s.site k)).seq.state.isRunning = true)
    (hkey : (g (s.site k)).seq.key = none) (hpulsed : (g (s.site k)).seq.pulsed = false)
    (hstop : (g (s.site k)).seq.stopTaken = .hard ∨ (g (s.site k)).seq.stopTaken = .soft) :
    ∃ t, (.next ((s.onSite k g).unlessStopped k go).settle : Host.Outcome State Fault Refusal) = .next t
      ∧ (s.onSite k g).EndsKeyless t f k .aborted 5 := by
  have halone' : (s.onSite k g).EndsAlone f k := halone
  obtain ⟨hsettle, hends⟩ := halone'.endSite_settle (o := .aborted) (code := 5) (by rwa [State.onSite_site_same])
    (by rwa [State.onSite_site_same]) (by rw [State.onSite_site_same, hpulsed]; rfl)
  rw [State.unlessStopped_of_due _ (Sequencer.stopDue_of_keyless (by rwa [State.onSite_site_same]) (by rwa [State.onSite_site_same]))]
  exact ⟨_, congrArg _ hsettle, hends⟩

/-- A site with a pulsed key that took a HARD stop ends ABORTED at its boundary, with what its operation left, and the key is voided
(R55, R127). -/
theorem State.EndsAlone.stop_endsSpent {h : KeyHeld} (halone : s.EndsAlone f k) (hrun : (g (s.site k)).seq.state.isRunning = true)
    (hkey : (g (s.site k)).seq.key = some h) (hpulsed : (g (s.site k)).seq.pulsed = true)
    (hstop : (g (s.site k)).seq.stopTaken = .hard) :
    ∃ t, (.next ((s.onSite k g).unlessStopped k go).settle : Host.Outcome State Fault Refusal) = .next t
      ∧ (s.onSite k g).EndsSpent t f k .aborted h false := by
  rw [State.unlessStopped_of_due _ (Sequencer.stopDue_of_hard (by rwa [State.onSite_site_same]))]
  obtain ⟨hsettle, hspent⟩ := halone.onSite_endSite_spends (bound := false) (o := .aborted) hrun hkey hpulsed nofun rfl
  exact ⟨_, congrArg _ hsettle, hspent⟩

/-- A blank check goes on to its next row or asks for a key only if no stop is due (R39, R55). -/
theorem State.Verifying.blankVerified_eq {row : Row} {v : RowVerify} (s : State)
    (hrow : row < s.workingRecipe.keyLength.lockRow ∨ (row = s.workingRecipe.keyLength.lockRow ∧ (∀ c, look v.cells c = .intact)
      ∧ ∀ r < row, ∃ u, look (s.site k).seq.verified r = some u ∧ ∀ c, look u.cells c = .intact)) :
    ∃ go, (s.verifyRecorded k row v).blankVerified k row = (s.verifyRecorded k row v).unlessStopped k go := by
  obtain hbelow | ⟨hlock, hlast, hrows⟩ := hrow
  · exact ⟨_, by rw [State.blankVerified, State.verifyRecorded_workingRecipe, if_neg (ne_of_lt hbelow)]⟩
  · have hblank : judgeBlank s.workingRecipe.keyLength ((s.verifyRecorded k row v).site k).seq.verified = .blank := by
      have hlook := State.look_verified_verifyRecorded s k row (v := v)
      refine judgeBlank_blank ((hlook _).trans (if_pos hlock)) fun r hr => ?_
      rw [rowIntact_iff, hlook]
      obtain hlt | heq := lt_or_eq_of_le hr
      · rw [if_neg (by rw [hlock]; exact ne_of_gt hlt)]
        exact hrows r (hlock ▸ hlt)
      · exact ⟨v, if_pos (hlock.trans heq.symm), hlast⟩
    refine ⟨State.enterKeywait k, ?_⟩
    rw [State.blankVerified, State.verifyRecorded_workingRecipe, if_pos hlock, hblank]

/-- A hard-stopped site in VERIFY with no disturbed cell ends with the verify of its row, and with the row left when it is done (R46,
R55). -/
theorem State.EndsAlone.stop_verify {row : Row} {codes : LaneCodes} {v : RowVerify} {h : KeyHeld} (halone : s.EndsAlone f k)
    (hv : s.Verifying k row codes v) (hstate : (s.site k).seq.state = .verify) (hkey : (s.site k).seq.key = some h)
    (hpulsed : (s.site k).seq.pulsed = true) (hstop : (s.site k).seq.stopTaken = .hard)
    (hintact : ∀ c, hasCol (planImage (s.site k).seq.plan row) c = false → look v.cells c = .intact)
    (hwhere : (s.site k).seq.phase = .burn ∨ ((∃ c, hasCol (planImage (s.site k).seq.plan row) c = true ∧ look v.cells c ≠ .blown)
      ∧ (s.site k).seq.attempt + 1 < s.workingRecipe.attemptLimit)) :
    ∃ t, exec (.verifyCompletion k codes) s = .next t ∧ State.EndsSpent
      (if (∃ c, hasCol (planImage (s.site k).seq.plan row) c = true ∧ look v.cells c ≠ .blown)
          ∧ (s.site k).seq.attempt + 1 < s.workingRecipe.attemptLimit then s.verifyRecorded k row v
        else (s.verifyRecorded k row v).rowLeft k) t f k .aborted h false := by
  rw [hv.exec_verify hstate, if_neg (not_not.2 ((disturbSet_eq_zero_iff _ _).2 hintact))]
  simp only [failingSet_ne_zero_iff]
  by_cases hagain : (∃ c, hasCol (planImage (s.site k).seq.plan row) c = true ∧ look v.cells c ≠ .blown)
      ∧ (s.site k).seq.attempt + 1 < s.workingRecipe.attemptLimit
  · rw [if_pos hagain, if_pos hagain, State.verifyRecorded_eq]
    exact halone.stop_endsSpent (by simp only [hstate]; rfl) hkey hpulsed hstop
  · have hphase : (s.site k).seq.phase = .burn := hwhere.resolve_right hagain
    rw [if_neg hagain, if_neg hagain, State.rowDone_eq, State.verifyRecorded_site_same, hphase, State.rowLeft_eq,
      State.verifyRecorded_eq, State.onSite_onSite]
    exact halone.stop_endsSpent (by simp only [hstate]; rfl) hkey hpulsed hstop

/-- A hard-stopped site in FINAL with no disturbed cell ends with its row folded, at the check row once both tests are passed (R47, R48,
R55). -/
theorem State.EndsAlone.stop_final {row : Row} {codes : LaneCodes} {v : RowVerify} {h : KeyHeld} (halone : s.EndsAlone f k)
    (hv : s.Verifying k row codes v) (hstate : (s.site k).seq.state = .final) (hkey : (s.site k).seq.key = some h)
    (hpulsed : (s.site k).seq.pulsed = true) (hstop : (s.site k).seq.stopTaken = .hard)
    (hintact : ∀ c, hasCol (planImage (s.site k).seq.plan row) c = false → look v.cells c = .intact)
    (hpasses : row = s.workingRecipe.keyLength.checkRow → (s.onSite k fun _ => (s.site k).folded row v).finalPasses k = true) :
    ∃ t, exec (.verifyCompletion k codes) s = .next t
      ∧ (s.onSite k fun _ => (s.site k).folded row v).EndsSpent t f k .aborted h false := by
  have hrun : ((s.site k).folded row v).seq.state.isRunning = true := by simp only [Site.folded, hstate]; rfl
  rw [hv.exec_fold hstate, if_neg (not_not.2 ((disturbSet_eq_zero_iff _ _).2 hintact))]
  by_cases hrow : row = s.workingRecipe.keyLength.checkRow
  · rw [if_pos hrow, if_pos (hpasses hrow)]
    exact halone.stop_endsSpent hrun hkey hpulsed hstop
  · rw [if_neg hrow]
    exact halone.stop_endsSpent hrun hkey hpulsed hstop

end Stops

/-- Settles O56: the result of each operation is taken, and the stop that is due ends the site. -/
theorem stopTakenEndsTheSiteAtItsBoundary : Obligations.StopTakenEndsTheSiteAtItsBoundary := by
  intro k f s halone
  refine ⟨fun o b hop hstate hkey hpulsed hstop hwindow => ?_, fun row codes v hv hstate hrow hkey hpulsed hstop => ?_,
    fun w g sample l h hop hl hgrant hstate hkey hpulsed hstop hlow hover => ?_,
    fun row codes v h deg hv hkey hpulsed hstop hintact hdeg hwhere => ?_⟩
  · have hpasses := (windowPasses_iff s.workingRecipe.minWindow o b).2 hwindow
    have hle : o.val ≤ b.val := by omega
    rw [exec_referenceReadCompletion o b hop (by rw [hstate]; rfl), State.afterRefs, State.refsRecorded_workingRecipe,
      if_pos hpasses, State.refsRecorded_eq]
    obtain ⟨t, ht, hends⟩ := halone.stop_endsKeyless
      (go := fun t => State.issueVerify k 0 (t.onSeq k fun q => { q with state := .blank }))
      (g := fun x => { x with seq := { x.seq with refs := takeRefs s.workingRecipe o b }, port := { x.port with op := none } })
      (by simp only [hstate]; rfl) hkey hpulsed hstop
    have htrefs : (t.site k).seq.refs = takeRefs s.workingRecipe o b := by
      rw [hends.site, State.onSite_site_same]
      rfl
    refine ⟨t, ht, by rw [htrefs]; exact hends, ?_⟩
    rw [htrefs]
    simp only [takeRefs, if_pos hpasses, threshold_eq hle]
    rfl
  · obtain ⟨go, hgo⟩ := State.Verifying.blankVerified_eq (v := v) s hrow
    rw [hv.exec_blank hstate, hgo, State.verifyRecorded_eq]
    exact halone.stop_endsKeyless (by simp only [hstate]; rfl) hkey hpulsed hstop
  · have hreq : look s.arbiter.requests k = none := by
      obtain ⟨-, hreq, -⟩ := halone
      exact hreq
    obtain ⟨-, hsite, -, -⟩ := State.pulseDone_release hgrant hreq false
    obtain ⟨t, ht, hspent, -⟩ := halone.pulse_endsSpent hgrant hstate hkey hpulsed (o := .aborted) nofun rfl false
    have hdue : (((s.pulseDone k false).release k).site k).seq.stopDue = true :=
      Sequencer.stopDue_of_hard (by rw [hsite, State.pulseDone_site_same]; exact hstop)
    rw [exec_pulseCompletion sample hop, State.sortOf_good hl hover (.inl hlow), State.takeSort, State.unlessStopped_of_due _ hdue, ht]
    exact ⟨t, rfl, hspent⟩
  · rw [← degradedPairs_eq] at hdeg
    obtain ⟨hstate, hwhere⟩ | ⟨hstate, hwhere⟩ := hwhere
    · obtain ⟨t, ht, hspent⟩ := halone.stop_verify hv hstate hkey hpulsed hstop hintact hwhere
      exact ⟨t, _, ht, hspent, fun _ => rfl, fun hfinal => absurd (hstate.symm.trans hfinal) nofun⟩
    · obtain ⟨t, ht, hspent⟩ := halone.stop_final hv hstate hkey hpulsed hstop hintact fun hrow => by
        obtain hbelow | ⟨-, htol, hread⟩ := hwhere
        · exact absurd hrow (ne_of_lt hbelow)
        · exact (State.finalPasses_folded hkey).2 ⟨hread, hdeg ▸ htol⟩
      exact ⟨t, _, ht, hspent, fun hverify => absurd (hstate.symm.trans hverify) nofun, fun _ => hdeg ▸ s.folded_foldsFinal k row v⟩

end Sys2Proof.Machine

/-!
PROOF. A temperature reading, the shutdown event, and the withdrawal of a burst request by an end (R54, R96, R101, R102): O49.
-/

namespace Sys2Proof.Machine

/-! ### What a reading leaves in the monitor -/

theorem clampCelsius_eq (t : Int) : clampCelsius t = max (-40) (min 200 t) := by
  unfold clampCelsius
  split
  · omega
  · split <;> omega

/-- The hysteresis of a thermal test as one formula (R101, R102). -/
theorem thermalTest_eq (threshold t : Int) (was : Bool) :
    thermalTest threshold t was = (decide (threshold ≤ t) || (was && decide (threshold - 10 ≤ t))) := by
  unfold thermalTest
  split
  · simp [*]
  · split
    · have : ¬ threshold - 10 ≤ t := by omega
      simp [*]
    · have : threshold - 10 ≤ t := by omega
      simp [*]

/-- A monitor after a reading: the warning, the latch, and the warning that becomes live while the site runs (R101, R102, R110). -/
theorem Monitor.takeReading_eq (running : Bool) (t : Int) (m : Monitor) :
    m.takeReading running t = { m with
      temperature := some t
      warnLive := decide (m.warnAt ≤ t) || (m.warnLive && decide (m.warnAt - 10 ≤ t))
      shutLatch := decide (m.shutAt ≤ t) || (m.shutLatch && decide (m.shutAt - 10 ≤ t))
      thermalSeen := m.thermalSeen || (running && !m.warnLive && decide (m.warnAt ≤ t)) } := by
  simp only [Monitor.takeReading, thermalTest_eq]
  cases m.warnLive <;> simp

/-- A reading below the shutdown threshold, or one that finds the latch set, is no shutdown event (R102). -/
theorem State.shutsDown_eq_true_iff (s : State) (k : SiteNo) (t : Int) :
    s.shutsDown k t = true ↔ (s.site k).monitor.shutAt ≤ t ∧ (s.site k).monitor.shutLatch = false := by
  rw [State.shutsDown, thermalTest_eq]
  cases (s.site k).monitor.shutLatch <;> simp

/-- The state after a reading whose monitor then stands as m. -/
theorem State.takeReading_eq (s : State) (k : SiteNo) (t : Int) :
    s.takeReading k t = s.onSite k fun x => { x with monitor := x.monitor.takeReading (s.site k).seq.state.isRunning t } := rfl

theorem exec_thermalReading_quiet {s : State} {k : SiteNo} {celsius t : Int} (ht : t = max (-40) (min 200 celsius))
    (h : t < (s.site k).monitor.shutAt ∨ (s.site k).monitor.shutLatch = true) :
    exec (.thermalReading k celsius) s = .next (s.takeReading k t) := by
  have hno : ¬ s.shutsDown k t = true := by
    rw [State.shutsDown_eq_true_iff]
    rintro ⟨hat, hlatch⟩
    obtain h | h := h
    · omega
    · rw [hlatch] at h
      cases h
  rw [ht, ← clampCelsius_eq] at hno ⊢
  exact if_neg hno

/-- A shutdown event is taken after the reading (R54, R102). -/
theorem exec_thermalReading_event {s : State} {k : SiteNo} {celsius t : Int} (ht : t = max (-40) (min 200 celsius))
    (hat : (s.site k).monitor.shutAt ≤ t) (hlatch : (s.site k).monitor.shutLatch = false) :
    exec (.thermalReading k celsius) s = .next ((s.takeReading k t).thermalEvent k).settle := by
  have hyes := (s.shutsDown_eq_true_iff k t).2 ⟨hat, hlatch⟩
  rw [ht, ← clampCelsius_eq] at hyes ⊢
  exact if_pos hyes

/-- With no pulse in flight a shutdown event ends the site THERMAL (R54). -/
theorem State.thermalEvent_of_not_pulsing {s : State} {k : SiteNo} (h : ∀ w, s.opOf k ≠ some (.pulse w)) :
    s.thermalEvent k = s.endSite k .thermal := by
  have hno : ¬ s.pulsing k = true := by
    rw [State.pulsing_iff]
    rintro ⟨w, hw⟩
    exact h w hw
  rw [State.thermalEvent, if_neg hno]

/-- With a pulse in flight a shutdown event truncates it first (R31, R54). -/
theorem State.thermalEvent_of_pulsing {s : State} {k : SiteNo} {w : Nat} (h : s.opOf k = some (.pulse w)) :
    s.thermalEvent k = ((s.pulseDone k true).release k).endSite k .thermal := by
  rw [State.thermalEvent, if_pos ((s.pulsing_iff k).2 ⟨w, h⟩), State.truncatePulse_eq]

/-! ### An end withdraws the burst request first -/

/-- The withdrawal of a burst request, which may start the idle timer (R96). -/
theorem State.withdrawBurst_eq (k : SiteNo) (s : State) :
    s.withdrawBurst k = { s with
      arbiter := { s.arbiter with requests := put s.arbiter.requests k none }
      supply := if look s.arbiter.requests k = none then s.supply
        else State.idleIfQuiet { s with arbiter := { s.arbiter with requests := put s.arbiter.requests k none } } } := by
  unfold State.withdrawBurst
  cases h : look s.arbiter.requests k with
  | none =>
    have hput : put s.arbiter.requests k none = s.arbiter.requests := by rw [← h, put_look]
    simp only [hput, if_true]
  | some n =>
    simp only [State.startIdleIfQuiet_eq, reduceCtorEq, if_false]

theorem State.withdrawBurst_request (k : SiteNo) (s : State) : look (s.withdrawBurst k).arbiter.requests k = none := by
  rw [State.withdrawBurst_eq]
  exact look_put_same _ _ _

theorem State.withdrawBurst_of_none {k : SiteNo} {s : State} (h : look s.arbiter.requests k = none) : s.withdrawBurst k = s := by
  simp only [State.withdrawBurst, h]

/-- An end may as well find the burst request withdrawn (R51, R96). -/
theorem State.endSiteWith_withdrawBurst (k : SiteNo) (o : SiteOutcome) {s : State} (hrun : (s.site k).seq.state.isRunning = true) :
    s.endSiteWith k o = (s.withdrawBurst k).endSiteWith k o := by
  have hsites : (s.withdrawBurst k).site k = s.site k := by rw [State.withdrawBurst_eq]; rfl
  have hswap : ((s.withdrawBurst k).withdrawDraw k).withdrawBurst k = (s.withdrawDraw k).withdrawBurst k := by
    rw [State.withdrawBurst_of_none (s := (s.withdrawBurst k).withdrawDraw k) (s.withdrawBurst_request k), State.withdrawBurst_eq,
      State.withdrawBurst_eq]
    rfl
  rw [State.endSiteWith, State.endSiteWith, hsites, if_pos hrun, if_pos hrun, hswap]

theorem State.endSite_withdrawBurst (k : SiteNo) (o : SiteOutcome) {s : State} (hrun : (s.site k).seq.state.isRunning = true) :
    s.endSite k o = (s.withdrawBurst k).endSite k o := by
  rw [State.endSite, State.endSite, State.endSiteWith_withdrawBurst k o hrun]

/-- A running site whose burst request may still wait ends with its key spent: it withdraws its request, and the rest is the end of a site
without one (R51, R96, R127). -/
theorem State.endSite_withdraws_endsSpent {s : State} {f : FrameNo} {k : SiteNo} {o : SiteOutcome} {h : KeyHeld}
    (hf : s.sched.running = some f) (hrun : (s.site k).seq.state.isRunning = true) (hkey : (s.site k).seq.key = some h)
    (hpulsed : (s.site k).seq.pulsed = true) (ho : o ≠ .keyed) (hcode : mapCodeOf o true = some 4) :
    s.EndsSpent (s.endSite k o) f k o h false ∧ (s.endSite k o).arbiter = (s.withdrawBurst k).arbiter
      ∧ (s.endSite k o).supply = (s.withdrawBurst k).supply ∧ ∀ j, j ≠ k → (s.endSite k o).site j = s.site j := by
  have hsites : ∀ j, (s.withdrawBurst k).site j = s.site j := fun j => by rw [State.withdrawBurst_eq]; rfl
  have hfu : (s.withdrawBurst k).sched.running = some f := by rw [State.withdrawBurst_eq]; exact hf
  have hwork := State.withdrawBurst_supplyWork k s
  have hreq := s.withdrawBurst_request k
  rw [State.endSite_withdrawBurst k o hrun]
  generalize s.withdrawBurst k = u at hsites hfu hwork hreq ⊢
  rw [← hsites k] at hrun hkey hpulsed
  have hspends := State.endSite_endsSpent (bound := false) hfu hrun hkey hreq ⟨ho, hpulsed⟩ (by rw [hpulsed]; exact hcode)
  refine ⟨hspends.of_supplyWork hwork (hsites k), ?_⟩
  rw [State.endSite_spent (bound := false) hrun hkey hreq ⟨ho, hpulsed⟩, State.keySpent_fileEnd_frame hfu]
  exact ⟨rfl, rfl, fun j hj => (look_put_other _ _ _ _ (Ne.symm hj)).trans (hsites j)⟩

/-- Settles O49: the tests of the reading, then the shutdown event by what the site is doing. -/
theorem thermalReadingTestsTheThresholds : Obligations.ThermalReadingTestsTheThresholds := by
  intro k celsius T s m hT hm
  rw [← Monitor.takeReading_eq] at hm
  have hreading : s.takeReading k T = { s with sites := put s.sites k { s.site k with monitor := m } } := by
    rw [State.takeReading_eq, hm]
    rfl
  refine ⟨fun hquiet => ?_, fun hat hlatch => ?_⟩
  · rw [exec_thermalReading_quiet hT hquiet, hreading]
  rw [exec_thermalReading_event hT hat hlatch, hreading]
  set u : State := { s with sites := put s.sites k { s.site k with monitor := m } } with hu
  have husite : u.site k = { s.site k with monitor := m } := look_put_same _ _ _
  have huother : ∀ j, j ≠ k → u.site j = s.site j := fun j hj => look_put_other _ _ _ _ (Ne.symm hj)
  have hop : u.opOf k = s.opOf k := by rw [State.opOf, husite]; rfl
  refine ⟨fun hidle hno hback => ?_, fun f halone hrun hkey hno => ?_, fun f h w g halone hstate hkey hpulsed hop' hgrant => ?_,
    fun f h hf hother hstate hkey hpulsed hno => ?_⟩
  · rw [State.thermalEvent_of_not_pulsing (by rwa [hop]), State.endSite_of_not_running (by rw [husite]; exact hidle),
      (hback.of_sched (t := u) rfl).settle_eq]
  · have halone' : u.EndsAlone f k := halone
    obtain ⟨hsettle, hends⟩ := halone'.endSite_settle (o := .thermal) (code := if (s.site k).seq.pulsed then 4 else 5)
      (by rw [husite]; exact hrun) (by rw [husite]; exact hkey) (by rw [husite]; cases (s.site k).seq.pulsed <;> rfl)
    rw [State.thermalEvent_of_not_pulsing (by rwa [hop]), hsettle]
    exact ⟨_, rfl, by rw [hends.site, husite]; rfl, hends⟩
  · have halone' : u.EndsAlone f k := halone
    obtain ⟨t, ht, hspent, hnone, v, hends, harb, hsup, hsites⟩ := halone'.pulse_endsSpent (o := .thermal) (h := h) (g := g) hgrant
      (by rw [husite]; exact hstate) (by rw [husite]; exact hkey) (by rw [husite]; exact hpulsed) nofun rfl true
    rw [State.thermalEvent_of_pulsing (by rwa [hop]), ht]
    refine ⟨t, rfl, hspent, hnone, ?_, v, hends, harb, hsup, hsites⟩
    rw [hspent.site, State.pulseDone_site_same, husite]
    simp only [Site.asEnded, Bool.or_true]
  · have hrun : (u.site k).seq.state.isRunning = true := by
      rw [husite]
      obtain h | h | h := hstate <;> rw [h] <;> rfl
    obtain ⟨hspent, harb, hsup, hsites⟩ := State.endSite_withdraws_endsSpent (s := u) (o := .thermal) (h := h) hf hrun
      (by rw [husite]; exact hkey) (by rw [husite]; exact hpulsed) nofun rfl
    obtain ⟨j, hj, hended⟩ := hother
    rw [State.thermalEvent_of_not_pulsing (by rwa [hop]), hspent.settle_eq hj hended]
    rw [State.withdrawBurst_eq] at harb hsup
    exact ⟨_, _, rfl, hspent, by rw [hspent.site, husite]; rfl, rfl, harb, hsup, fun j hj => (hsites j hj).trans (huother j hj)⟩

end Sys2Proof.Machine

/-!
PROOF. The hand-back of a frame, the completion of a close, and the start that may follow (R141, R146, R153, R155, R157): O36.
-/

namespace Sys2Proof.Machine

/-! ### Numbers in memory fields -/

theorem nat8_toNat {n : Nat} (h : n < 256) : (nat8 n).toNat = n := by
  rw [nat8, BitVec.toNat_ofNat, Nat.mod_eq_of_lt h]

theorem nat8_eq_iff (x : Byte) {n : Nat} (h : n < 256) : x = nat8 n ↔ x.toNat = n := by
  rw [← BitVec.toNat_inj, nat8_toNat h]

/-- A saturated count fits its 32-bit field (R153). -/
theorem toNat_sat32 (n : Nat) : (BitVec.ofNat 32 (sat32 n)).toNat = min n 0xFFFFFFFF := by
  rw [BitVec.toNat_ofNat, sat32, Nat.mod_eq_of_lt (by omega)]

theorem toNat_ofNat16 {n : Nat} (h : n < 0x10000) : (BitVec.ofNat 16 n).toNat = n := by
  rw [BitVec.toNat_ofNat, Nat.mod_eq_of_lt h]

/-! ### Counting a list by the values of a function -/

/-- A value is one of 0 to 5, or at least 6. -/
theorem indicators_below_six (n : Nat) :
    ((List.range 6).map fun i => if (n == i) = true then 1 else 0).sum + (if decide (6 ≤ n) = true then 1 else 0) = 1 := by
  by_cases h : n < 6
  · interval_cases n <;> rfl
  · have hne : ∀ i ∈ List.range 6, (if (n == i) = true then 1 else 0) = 0 := fun i hi => by
      have := List.mem_range.1 hi
      exact if_neg (by simpa using by omega)
    rw [List.map_congr_left hne, if_pos (by simpa using by omega)]
    rfl

/-- The elements with a value below 6, counted by value, and those with a value of at least 6 are all elements (R157). -/
theorem countP_below_six {α : Type} (v : α → Nat) (l : List α) :
    ((List.range 6).map fun i => l.countP fun a => v a == i).sum + l.countP (fun a => decide (6 ≤ v a)) = l.length := by
  induction l with
  | nil => rfl
  | cons a l ih =>
    have hone := indicators_below_six (v a)
    simp only [List.countP_cons, List.length_cons, List.sum_map_add]
    omega

/-! ### The close of a wafer -/

/-- Number of map entries that a test of the code's number holds for. -/
theorem State.countMap_eq (s : State) (p : Byte → Bool) :
    s.countMap p = (List.range 16384).countP fun j => p (Memory.read s.mem (0xC000 + j)) := rfl

theorem State.countMap_code (s : State) {i : Nat} (h : i < 256) :
    s.countMap (· == nat8 i) = (List.range 16384).countP fun j => (Memory.read s.mem (0xC000 + j)).toNat == i := by
  rw [State.countMap_eq]
  refine List.countP_congr fun j _ => ?_
  rw [beq_iff_eq, beq_iff_eq, nat8_eq_iff _ h]

theorem State.countMap_lt (s : State) (p : Byte → Bool) : s.countMap p < 0x10000 := by
  have h : s.countMap p ≤ (List.range 16384).length := List.countP_le_length
  rw [List.length_range] at h
  omega

/-- Exchange memory after the completion of a close: the summary and request word 0 (R155). -/
def State.closeMem (s : State) : Memory :=
  Memory.writeBytes (Memory.writeBytes s.mem 0x110 (summaryBytes s.summary)) 0x104 (bytes32 0)

theorem State.completeClose_eq (s : State) :
    s.completeClose = { s with mem := s.closeMem, attn := s.attn ||| 0x008#11, wafer := .closed } := rfl

theorem State.length_summaryBytes (s : State) : (summaryBytes s.summary).length = 14 := rfl

/-- A close writes the summary and the request word (R155). -/
theorem State.read_closeMem_other (s : State) {a : Nat} (h : a < 0x104 ∨ (0x108 ≤ a ∧ a < 0x110) ∨ 0x11E ≤ a) :
    Memory.read s.closeMem a = Memory.read s.mem a := by
  have hlen := s.length_summaryBytes
  rw [State.closeMem, Memory.read_writeBytes_outside _ _ (by simp only [bytes32, List.length_cons, List.length_nil]; omega),
    Memory.read_writeBytes_outside _ _ (by omega)]

/-- The number of the codes that summary field i counts (R157). -/
def State.summaryCount (s : State) (i : Nat) : Nat :=
  if i < 6 then s.countMap (· == nat8 i) else s.countMap fun b => decide (6 ≤ b.toNat)

theorem State.summary_eq (s : State) : s.summary = (List.range 7).map s.summaryCount := by
  have hrange : List.range 7 = [0, 1, 2, 3, 4, 5, 6] := rfl
  simp only [hrange, List.map_cons, List.map_nil, State.summaryCount, Nat.reduceLT, if_true, if_false, Nat.lt_irrefl, nat8]
  unfold State.summary
  rfl

/-- The seven fields of the summary (R157, 10.5). -/
theorem State.read16_closeMem (s : State) : ∀ i < 7, Memory.read16 s.closeMem (0x110 + 2 * i) = BitVec.ofNat 16 (s.summaryCount i) := by
  have hlen := s.length_summaryBytes
  have hbytes : summaryBytes s.summary = ((List.range 7).map s.summaryCount).flatMap nat16 := congrArg _ s.summary_eq
  have hbyte : ∀ j < 14, Memory.read s.closeMem (0x110 + j) = (summaryBytes s.summary).getD j 0 := fun j hj => by
    rw [State.closeMem, Memory.read_writeBytes_outside _ _ (by simp only [bytes32, List.length_cons, List.length_nil]; omega),
      Memory.read_writeBytes_inside _ _ (by omega)]
  intro i hi
  have h₀ := hbyte (2 * i) (by omega)
  have h₁ := hbyte (2 * i + 1) (by omega)
  rw [hbytes] at h₀ h₁
  generalize s.summaryCount = c at h₀ h₁ ⊢
  refine Memory.read16_of_bytes ?_ ?_
  · rw [h₀]
    interval_cases i <;> rfl
  · rw [Nat.add_assoc, h₁]
    interval_cases i <;> rfl

/-- The completion of a close shows the summary of the map (R155, R157). -/
theorem State.completeClose_showsSummary (s : State) : s.ShowsSummary s.completeClose := by
  have hfield : ∀ i < 7, (Memory.read16 s.completeClose.mem (0x110 + 2 * i)).toNat = s.summaryCount i := fun i hi => by
    rw [State.completeClose_eq, s.read16_closeMem i hi, toNat_ofNat16]
    unfold State.summaryCount
    split
    · exact s.countMap_lt _
    · exact s.countMap_lt _
  have hcode : ∀ i < 6, s.summaryCount i = (List.range 16384).countP fun j => (Memory.read s.mem (0xC000 + j)).toNat == i :=
    fun i hi => (if_pos hi).trans (s.countMap_code (by omega))
  have hother : s.summaryCount 6 = (List.range 16384).countP fun j => decide (6 ≤ (Memory.read s.mem (0xC000 + j)).toNat) :=
    if_neg (by decide)
  refine ⟨fun i hi => (hfield i (by omega)).trans (hcode i hi), (hfield 6 (by decide)).trans hother, ?_, ?_⟩
  · have hsum := countP_below_six (fun j => (Memory.read s.mem (0xC000 + j)).toNat) (List.range 16384)
    rw [List.length_range, ← hother] at hsum
    rw [List.range_succ, List.map_append, List.sum_append, List.map_congr_left (fun i hi => hfield i (by
      have := List.mem_range.1 hi; omega)), List.map_congr_left (fun i hi => hcode i (List.mem_range.1 hi)), List.map_singleton,
      List.sum_singleton, hfield 6 (by decide), hsum]
  · rw [State.completeClose_eq]
    have hbyte : ∀ j < 4, Memory.read s.closeMem (0x104 + j) = (bytes32 0).getD j 0 := fun j hj =>
      Memory.read_writeBytes_inside _ _ hj
    exact Memory.read32_of_bytes (hbyte 0 (by decide)) (hbyte 1 (by decide)) (hbyte 2 (by decide)) (hbyte 3 (by decide))

/-- A summary shown of one map is shown of every memory that holds the same map. -/
theorem State.ShowsSummary.of_map {s u t : State} (h : u.ShowsSummary t)
    (hmap : ∀ a, 0xC000 ≤ a → Memory.read u.mem a = Memory.read s.mem a) : s.ShowsSummary t := by
  have hentry : ∀ j, Memory.read u.mem (0xC000 + j) = Memory.read s.mem (0xC000 + j) := fun j => hmap _ (Nat.le_add_right _ _)
  simpa only [State.ShowsSummary, hentry] using h

/-! ### What a hand-back leaves -/

/-- Exchange memory after the hand-back of frame f: completion kind and counts in its header, frames run and keys bound in the wafer
record (R146, R153). -/
def State.handBackMem (s : State) (f : FrameNo) (kind : Nat) : Memory :=
  Memory.writeBytes (Memory.writeBytes (Memory.writeBytes s.mem (frameBase f + 0x012) [nat8 kind]) (frameBase f + 0x019)
    [nat8 (s.countDisposition f .bound), nat8 (s.countDisposition f .voided), nat8 (s.countDisposition f .returned)]) 0x120
    (nat32 (sat32 (s.framesRun.toNat + 1)) ++ nat32 (sat32 (s.keysBound.toNat + s.countDisposition f .bound)))

theorem le_frameBase (f : FrameNo) : 0x800 ≤ frameBase f := by
  unfold frameBase
  omega

theorem frameBase_le (f : FrameNo) : frameBase f + 0x800 ≤ 0x2800 := by
  unfold frameBase
  omega

section HandBackMem

variable (s : State) (f : FrameNo) (kind : Nat)

theorem State.read_handBackMem_other {a : Nat} (hkind : a ≠ frameBase f + 0x12)
    (hcounts : a < frameBase f + 0x19 ∨ frameBase f + 0x1C ≤ a) (hwafer : a < 0x120 ∨ 0x128 ≤ a) :
    Memory.read (s.handBackMem f kind) a = Memory.read s.mem a := by
  rw [State.handBackMem,
    Memory.read_writeBytes_outside _ _ (by simp only [nat32, bytes32, List.length_append, List.length_cons, List.length_nil]; omega),
    Memory.read_writeBytes_outside _ _ (by simp only [List.length_cons, List.length_nil]; omega),
    Memory.read_writeBytes_outside _ _ (by simp only [List.length_cons, List.length_nil]; omega)]

theorem State.read_handBackMem_kind : Memory.read (s.handBackMem f kind) (frameBase f + 0x12) = nat8 kind := by
  have := le_frameBase f
  rw [State.handBackMem,
    Memory.read_writeBytes_outside _ _ (by simp only [nat32, bytes32, List.length_append, List.length_cons, List.length_nil]; omega),
    Memory.read_writeBytes_outside _ _ (by omega)]
  exact Memory.read_writeBytes_inside s.mem (frameBase f + 0x12) (bs := [nat8 kind]) (i := 0) Nat.one_pos

theorem State.countDisposition_eq (e : Disposition) :
    s.countDisposition f e = allSites.countP fun k => (Memory.read s.mem (siteRecordBase f k + 0x10)).toNat == e.code := by
  refine List.countP_congr fun k _ => ?_
  rw [beq_iff_eq, beq_iff_eq, nat8_eq_iff _ (by cases e <;> decide)]
  rfl

/-- The three counts of a hand-back (R146). -/
theorem State.read_handBackMem_counts (d : Nat) (hd : d < 3) :
    (Memory.read (s.handBackMem f kind) (frameBase f + 0x19 + d)).toNat
      = allSites.countP fun k => (Memory.read s.mem (siteRecordBase f k + 0x10)).toNat == d + 1 := by
  have := le_frameBase f
  have hbound : ∀ p : SiteNo → Bool, allSites.countP p < 256 := fun p => by
    have : allSites.countP p ≤ allSites.length := List.countP_le_length
    have : allSites.length = 16 := List.length_finRange
    omega
  rw [State.handBackMem,
    Memory.read_writeBytes_outside _ _ (by simp only [nat32, bytes32, List.length_append, List.length_cons, List.length_nil]; omega),
    Memory.read_writeBytes_inside _ _ (by simp only [List.length_cons, List.length_nil]; omega)]
  obtain rfl | rfl | rfl : d = 0 ∨ d = 1 ∨ d = 2 := by omega
  · exact (nat8_toNat (hbound _)).trans (s.countDisposition_eq f .bound)
  · exact (nat8_toNat (hbound _)).trans (s.countDisposition_eq f .voided)
  · exact (nat8_toNat (hbound _)).trans (s.countDisposition_eq f .returned)

/-- Frames run and keys bound after a hand-back (R153). -/
theorem State.read32_handBackMem :
    (Memory.read32 (s.handBackMem f kind) 0x120).toNat = min ((Memory.read32 s.mem 0x120).toNat + 1) 0xFFFFFFFF
      ∧ (Memory.read32 (s.handBackMem f kind) 0x124).toNat
        = min ((Memory.read32 s.mem 0x124).toNat + s.countDisposition f .bound) 0xFFFFFFFF := by
  have hbyte : ∀ j < 8, Memory.read (s.handBackMem f kind) (0x120 + j)
      = (nat32 (sat32 (s.framesRun.toNat + 1)) ++ nat32 (sat32 (s.keysBound.toNat + s.countDisposition f .bound))).getD j 0 :=
    fun j hj => Memory.read_writeBytes_inside _ _ (by simpa [nat32, bytes32] using hj)
  refine ⟨?_, ?_⟩
  · rw [Memory.read32_of_bytes (hbyte 0 (by decide)) (hbyte 1 (by decide)) (hbyte 2 (by decide)) (hbyte 3 (by decide)),
      toNat_sat32]
    rfl
  · rw [Memory.read32_of_bytes (a := 0x124) (hbyte 4 (by decide)) (hbyte 5 (by decide)) (hbyte 6 (by decide)) (hbyte 7 (by decide)),
      toNat_sat32]
    rfl

end HandBackMem

/-- The state after a hand-back, before what follows it (R59, R146, steps 1 to 6). -/
theorem State.handBackFrame_eq (f : FrameNo) (kind : Nat) (s : State) :
    s.handBackFrame f kind = { s with
      mem := s.handBackMem f kind
      attn := s.attn ||| 0x001#11
      sites := Vector.ofFn fun k => (s.site k).returnToIdle
      sched := { s.sched with
        frames := put s.sched.frames f .done, running := none, recipes := put s.sched.recipes f none
        ended := Vector.replicate 16 false, framesEnded := sat16 (s.sched.framesEnded + 1) } } := by
  have hlow := le_frameBase f
  have hwafer : ∀ a, a < 0x800 → Memory.read (s.closeFrame f kind).mem a = Memory.read s.mem a := fun a ha => by
    show Memory.read (Memory.writeBytes (Memory.writeBytes s.mem _ _) _ _) a = _
    rw [Memory.read_writeBytes_outside _ _ (by omega), Memory.read_writeBytes_outside _ _ (by omega)]
  have hrun : State.framesRun ((s.closeFrame f kind).onEverySite Site.returnToIdle) = s.framesRun :=
    Memory.read32_congr fun j hj => hwafer _ (by unfold waferBase; omega)
  have hkeys : State.keysBound ((s.closeFrame f kind).onEverySite Site.returnToIdle) = s.keysBound :=
    Memory.read32_congr fun j hj => hwafer _ (by unfold waferBase; omega)
  rw [State.handBackFrame, State.countFrame, hrun, hkeys]
  rfl

/-! ### What follows a hand-back -/

theorem Scheduler.allEnded_iff (c : Scheduler) : c.allEnded = true ↔ ∀ k, look c.ended k = true := by
  simp [Scheduler.allEnded]

/-- With no frame running no further hand-back follows. -/
theorem State.settleFrames_of_no_frame {s : State} (h : s.sched.running = none) (n : Nat) : s.settleFrames n = s := by
  cases n with
  | zero => rfl
  | succ n => simp [State.settleFrames, h]

/-- A hand-back that is due, and what follows it (R146). -/
theorem State.settle_of_due {s : State} {f : FrameNo} (hf : s.sched.running = some f) (hall : ∀ k, look s.sched.ended k = true) :
    s.settle = ((s.handBackFrame f s.sched.stop.completionKind).afterHandBack).settleFrames s.sched.postList.length := by
  have hdue := (Scheduler.allEnded_iff _).2 hall
  simp only [State.settle, State.settleFrames, State.handBackIfDue, hf, hdue, Option.isSome_some, Bool.and_self, if_true]

@[simp] theorem State.handBackFrame_sched (f : FrameNo) (kind : Nat) (s : State) :
    (s.handBackFrame f kind).sched = { s.sched with
      frames := put s.sched.frames f .done, running := none, recipes := put s.sched.recipes f none
      ended := Vector.replicate 16 false, framesEnded := sat16 (s.sched.framesEnded + 1) } := by
  rw [State.handBackFrame_eq]

/-- No head starts while RUN is 0 (R141). -/
theorem State.startIfDue_of_stopped {s : State} (h : s.run = false) : s.startIfDue = s := by
  unfold State.startIfDue
  split
  · rw [h]
    rfl
  · rfl

/-- A hand-back with no frame to start after it: the state it leaves, or that of the close that waited for it (R146, R155). -/
theorem State.settle_quiet {s : State} {f : FrameNo} (hf : s.sched.running = some f) (hall : ∀ k, look s.sched.ended k = true)
    (hquiet : s.sched.postList = [] ∨ s.run = false) :
    s.settle = if s.wafer = .closing ∧ s.sched.postList = [] then (s.handBackFrame f s.sched.stop.completionKind).completeClose
      else s.handBackFrame f s.sched.stop.completionKind := by
  have hafter : (s.handBackFrame f s.sched.stop.completionKind).afterHandBack
      = if s.wafer = .closing ∧ s.sched.postList = [] then (s.handBackFrame f s.sched.stop.completionKind).completeClose
        else s.handBackFrame f s.sched.stop.completionKind := by
    have hwafer : (s.handBackFrame f s.sched.stop.completionKind).wafer = s.wafer := by rw [State.handBackFrame_eq]
    have hlist : (s.handBackFrame f s.sched.stop.completionKind).sched.postList = s.sched.postList := by
      rw [State.handBackFrame_sched]
    by_cases hempty : s.sched.postList = []
    · rw [State.afterHandBack, hlist, hempty, if_pos (by rfl), State.idleReport, hwafer]
      simp only [and_true]
    · have hrun : (s.handBackFrame f s.sched.stop.completionKind).run = false := by
        rw [State.handBackFrame_eq]
        exact hquiet.resolve_left hempty
      rw [State.afterHandBack, hlist, if_neg (by simpa using hempty), State.startIfDue_of_stopped hrun, if_neg (fun h => hempty h.2)]
  rw [State.settle_of_due hf hall, hafter, State.settleFrames_of_no_frame]
  split
  · rw [State.completeClose_eq, State.handBackFrame_sched]
  · rw [State.handBackFrame_sched]

/-- A start leaves the rest of the post list to wait (R142). -/
theorem State.startFrame_sched (f : FrameNo) (rest : List FrameNo) (s : State) :
    (s.startFrame f rest).sched.postList = rest ∧ (s.startFrame f rest).sched.running = some f
      ∧ (s.startFrame f rest).sched.frames = put s.sched.frames f .running ∧ (s.startFrame f rest).sched.stop = .none
      ∧ (s.startFrame f rest).sched.recipes = s.sched.recipes := by
  have hwork : (s.loadFrame f rest).SiteWork (s.startFrame f rest) :=
    State.foldl_siteWork (act := State.handSite f (s.loadFrame f rest).workingRecipe (s.loadFrame f rest))
      (State.handSite_siteWork f _ _) allSites _
  obtain ⟨hframes, hlist, hrunning, hstop, hrecipes, -, -⟩ := hwork.sched_kept
  exact ⟨hlist, hrunning, hframes, hstop, hrecipes⟩

theorem State.startIfDue_of_head {s : State} {f : FrameNo} {rest : List FrameNo} (hrun : s.run = true) (hnone : s.sched.running = none)
    (hlist : s.sched.postList = f :: rest) : s.startIfDue = s.startFrame f rest := by
  simp only [State.startIfDue, hnone, hlist, hrun, if_true]

/-- A hand-back with a head to start answers what the start of that head answers after it (R141, R146, step 7). -/
theorem State.settle_starts {s : State} {f g : FrameNo} {rest : List FrameNo} (hf : s.sched.running = some f)
    (hall : ∀ k, look s.sched.ended k = true) (hrun : s.run = true) (hlist : s.sched.postList = g :: rest) :
    s.settle = (s.handBackFrame f s.sched.stop.completionKind).startIfDue.settle := by
  rw [State.settle_of_due hf hall, hlist]
  set h := s.handBackFrame f s.sched.stop.completionKind with hh
  have hhrun : h.run = true := by rw [hh, State.handBackFrame_eq]; exact hrun
  have hhlist : h.sched.postList = g :: rest := by rw [hh, State.handBackFrame_sched]; exact hlist
  have hhnone : h.sched.running = none := by rw [hh, State.handBackFrame_sched]
  obtain ⟨hrest, -⟩ := h.startFrame_sched g rest
  rw [State.afterHandBack, hhlist, State.startIfDue_of_head hhrun hhnone hhlist, State.settle, hrest]
  rfl

theorem FrameStop.completionKind_eq (stop : FrameStop) :
    (nat8 stop.completionKind).toNat = match stop with | .none => 1 | .soft => 2 | .hard => 3 | .runCleared => 4 := by
  cases stop <;> rfl

/-- Settles O36: the hand-back, the close that may complete with it, and the head that may start after it. -/
theorem handBackEndsTheFrame : Obligations.HandBackEndsTheFrame := by
  intro f s hf
  set kind := s.sched.stop.completionKind with hkind
  set h := s.handBackFrame f kind with hh
  have hheq := State.handBackFrame_eq f kind s
  rw [← hh] at hheq
  have hexec : exec .handBack s = .next s.settle := rfl
  refine ⟨fun hall hquiet => ?_, fun hall hlist hrun => ?_, fun ⟨k, hk⟩ => ?_⟩
  · have hsettle := State.settle_quiet hf hall hquiet
    rw [← hkind, ← hh] at hsettle
    have hlow := le_frameBase f
    obtain ⟨hframes, hkeys⟩ := s.read32_handBackMem f kind
    have hlate : ∀ a, 0x11E ≤ a → Memory.read s.settle.mem a = Memory.read (s.handBackMem f kind) a := fun a ha => by
      rw [hsettle]
      split
      · rw [State.completeClose_eq, hheq]
        exact State.read_closeMem_other _ (.inr (.inr ha))
      · rw [hheq]
    have hshared : s.settle.sched = h.sched ∧ s.settle.sites = h.sites ∧ s.settle.pool = s.pool ∧ s.settle.supply = s.supply
        ∧ s.settle.arbiter = s.arbiter ∧ s.settle.run = s.run := by
      rw [hsettle]
      split <;> rw [hheq] <;> exact ⟨rfl, rfl, rfl, rfl, rfl, rfl⟩
    obtain ⟨hsched, hsites, hpool, hsupply, harb, hrun⟩ := hshared
    have hsite : ∀ k, s.settle.site k = (s.site k).returnToIdle := fun k => by
      rw [State.site, hsites, hheq]
      exact look_ofFn _ k
    rw [hheq] at hsched
    refine ⟨s.settle, hexec, ?_, by rw [hsched], ?_, fun k => ?_, by rw [hsched]; rfl, by rw [hsched], by rw [hsched], fun g hg => ?_, ?_,
      fun d hd => ?_, ?_, ?_, fun k => ?_, fun hopen => ?_, fun hclosing hempty => ?_, hpool, hsupply, harb, hrun⟩
    · rw [State.frameState, hsched]
      exact look_put_same _ _ _
    · rw [hsched]
      exact look_put_same _ _ _
    · rw [hsched]
      exact look_replicate _ k
    · rw [State.frameState, hsched]
      exact ⟨look_put_other _ _ _ _ (Ne.symm hg), look_put_other _ _ _ _ (Ne.symm hg)⟩
    · rw [hlate _ (by omega), State.read_handBackMem_kind]
      exact FrameStop.completionKind_eq _
    · rw [hlate _ (by omega)]
      exact s.read_handBackMem_counts f kind d hd
    · rw [← hframes]
      exact congrArg _ (Memory.read32_congr fun j hj => hlate _ (by omega))
    · rw [Memory.read32_congr fun j hj => hlate _ (by omega), hkeys, State.countDisposition_eq]
      rfl
    · rw [hsite]
      exact ⟨rfl, rfl, rfl, rfl⟩
    · rw [if_neg (by rintro ⟨hc, he⟩; exact hopen.elim (fun h => h hc) fun h => h he)] at hsettle
      rw [hsettle, hheq]
      exact ⟨rfl, rfl, fun a hk hc hw => State.read_handBackMem_other s f kind hk hc hw⟩
    · rw [if_pos ⟨hclosing, hempty⟩] at hsettle
      have hshows := h.completeClose_showsSummary
      rw [hsettle]
      refine ⟨rfl, ?_, hshows.of_map fun a ha => ?_, fun a hk hc hw => ?_⟩
      · rw [State.completeClose_eq, hheq]
        show (s.attn ||| 0x001#11) ||| 0x008#11 = _
        rw [BitVec.or_assoc]
        rfl
      · rw [hheq]
        have := frameBase_le f
        exact State.read_handBackMem_other s f kind (by omega) (by omega) (by omega)
      · rw [State.completeClose_eq]
        refine (State.read_closeMem_other h (by omega)).trans ?_
        rw [hheq]
        exact State.read_handBackMem_other s f kind hk hc (by omega)
  · obtain ⟨g, rest, hcons⟩ := List.exists_cons_of_ne_nil hlist
    set z : State := { s with run := false } with hz
    have hzsettle := State.settle_quiet (s := z) hf hall (.inr rfl)
    rw [if_neg (fun h => hlist h.2)] at hzsettle
    refine ⟨z.settle, rfl, ?_⟩
    have hback : { z.settle with run := true } = h := by
      rw [hzsettle, State.handBackFrame_eq, hheq, hz, hrun]
      rfl
    rw [hback, hexec, State.settle_starts hf hall hrun hcons]
    rfl
  · rw [hexec, State.settle_of_not_ended hk]

end Sys2Proof.Machine

/-!
PROOF. Tester writes to words that are not watched, dropped writes, and the header as the tester reads it (R163 to R169): O34.
-/

namespace Sys2Proof.Machine

/-! ### The value a write leaves in a word (R164) -/

theorem laneMask_bit : ∀ (lanes : Lanes) (i : Fin 32), (laneMask lanes).getLsbD i.val = lanes.getLsbD (i.val / 8) := by decide +kernel

/-- Bit i of a merged word comes from the written data exactly if the lane of its byte is enabled (R164). -/
theorem mergeLanes_bit (old data : Word) (lanes : Lanes) {i : Nat} (hi : i < 32) :
    (mergeLanes old lanes data).getLsbD i = if lanes.getLsbD (i / 8) then data.getLsbD i else old.getLsbD i := by
  rw [mergeLanes, BitVec.getLsbD_or, BitVec.getLsbD_and, BitVec.getLsbD_and, BitVec.getLsbD_not, laneMask_bit lanes ⟨i, hi⟩]
  cases lanes.getLsbD (i / 8) <;> simp [hi]

theorem mergeLanes_byte (old data : Word) (lanes : Lanes) {i : Nat} (hi : i < 4) :
    (mergeLanes old lanes data).extractLsb' (8 * i) 8
      = if lanes.getLsbD i then data.extractLsb' (8 * i) 8 else old.extractLsb' (8 * i) 8 := by
  refine BitVec.eq_of_getLsbD_eq fun j hj => ?_
  have hlane : (8 * i + j) / 8 = i := by omega
  rw [BitVec.getLsbD_extractLsb', mergeLanes_bit old data lanes (by omega), hlane]
  cases lanes.getLsbD i <;> simp [hj]

theorem bytes32_getD (x : Word) {i : Nat} (hi : i < 4) : (bytes32 x).getD i 0 = x.extractLsb' (8 * i) 8 := by
  obtain rfl | rfl | rfl | rfl : i = 0 ∨ i = 1 ∨ i = 2 ∨ i = 3 := by omega
  all_goals rfl

/-- Byte i of a word of four bytes. -/
theorem extractLsb'_append_bytes (b : Nat → Byte) {i : Nat} (hi : i < 4) :
    (b 3 ++ b 2 ++ b 1 ++ b 0 : Word).extractLsb' (8 * i) 8 = b i := by
  refine BitVec.eq_of_getLsbD_eq fun j hj => ?_
  rw [BitVec.getLsbD_extractLsb']
  obtain rfl | rfl | rfl | rfl : i = 0 ∨ i = 1 ∨ i = 2 ∨ i = 3 := by omega
  all_goals simp only [BitVec.getLsbD_append, hj, decide_true, Bool.true_and]
  · simp [hj]
  · simp [hj, show ¬ 8 + j < 8 by omega]
  · simp [hj, show ¬ 16 + j < 8 by omega, show ¬ 16 + j - 8 < 8 by omega, show 16 + j - 8 - 8 = j by omega]
  · simp [show ¬ 24 + j < 8 by omega, show ¬ 24 + j - 8 < 8 by omega, show ¬ 24 + j - 8 - 8 < 8 by omega,
      show 24 + j - 8 - 8 - 8 = j by omega]

theorem State.readWord_byte (s : State) (w : WordNo) {i : Nat} (hi : i < 4) :
    (s.readWord w).extractLsb' (8 * i) 8 = s.readByte (wordOffset w + i) :=
  extractLsb'_append_bytes (fun j => s.readByte (wordOffset w + j)) hi

/-! ### Words stored and words dropped (R163, R166) -/

/-- A data word of a record: neither watched, nor of the header, nor unmapped (R163, R168). -/
def WordKind.stored : WordKind → Bool
  | .waferData | .recipe | .frameData _ | .slotData _ | .map => true
  | _ => false

theorem WordKind.stored_of_owned {s : State} {x : WordKind} (hdata : x.watched = false) (hmapped : x ≠ .unmapped)
    (howner : s.wordPartOwned x = false) : x.stored = true := by
  cases x with
  | header => exact Bool.noConfusion howner
  | waferState | waferRequest | frameState f | frameStop f | slotState i => exact absurd hdata (by simp [WordKind.watched])
  | unmapped => exact absurd rfl hmapped
  | waferData | recipe | frameData f | slotData i | map => rfl

/-- A data word of a record reads as its bytes in memory (R169). -/
theorem State.readByte_stored (s : State) {w : WordNo} (hw : (wordKind w).stored = true) {i : Nat} (hi : i < 4) :
    s.readByte (wordOffset w + i) = Memory.read s.mem (wordOffset w + i) := by
  have hword : 4 * ((wordOffset w + i) / 4) = wordOffset w := by
    unfold wordOffset
    omega
  rw [State.readByte, hword]
  change (match wordKind w with
    | .header => _ | .waferState => _ | .frameState f => _ | .slotState i => _ | .unmapped => _ | _ => _) = _
  cases hkind : wordKind w with
  | waferRequest | waferData | recipe | frameStop f | frameData f | slotData i | map => rfl
  | header | waferState | frameState f | slotState i | unmapped =>
    rw [hkind] at hw
    exact Bool.noConfusion hw

/-- A word stored from its written value takes the bytes of the enabled lanes and keeps the others (R164). -/
theorem State.read_storeWord_writtenValue (s : State) {w : WordNo} (hw : (wordKind w).stored = true) (lanes : Lanes) (d : Word)
    {i : Nat} (hi : i < 4) :
    Memory.read (s.storeWord w (s.writtenValue w lanes d)).mem (4 * w.toNat + i)
      = if lanes.getLsbD i then d.extractLsb' (8 * i) 8 else Memory.read s.mem (4 * w.toNat + i) := by
  have hinside : Memory.read (s.storeWord w (s.writtenValue w lanes d)).mem (4 * w.toNat + i)
      = (bytes32 (s.writtenValue w lanes d)).getD i 0 := Memory.read_writeBytes_inside _ _ hi
  rw [hinside, bytes32_getD _ hi, State.writtenValue, mergeLanes_byte _ _ _ hi, State.readWord_byte s w hi,
    State.readByte_stored s hw hi]
  rfl

theorem State.dropWrite_eq (s : State) : s.dropWrite = { s with
    attn := s.attn ||| 0x080#11, droppedWrites := min (s.droppedWrites + 1) 0xFFFF } := rfl

theorem State.testerWrite_eq {s : State} (hinit : s.initialising = false) (hreset : s.softReset = false) (w : WordNo) (lanes : Lanes)
    (d : Word) : s.testerWrite w lanes d = s.takeWrite w (s.writtenValue w lanes d) := by
  simp [State.testerWrite, State.writesDiscarded, hinit, hreset]

theorem State.takeWrite_unmapped (s : State) {w : WordNo} (h : wordKind w = .unmapped) (v : Word) : s.takeWrite w v = s := by
  simp only [State.takeWrite, h]

theorem State.takeWrite_stored (s : State) {w : WordNo} (hw : (wordKind w).stored = true) (howner : s.wordPartOwned (wordKind w) = false)
    (v : Word) : s.takeWrite w v = s.storeWord w v := by
  cases hkind : wordKind w with
  | header | waferState | waferRequest | frameState f | frameStop f | slotState i | unmapped =>
    rw [hkind] at hw
    exact Bool.noConfusion hw
  | recipe => simp only [State.takeWrite, hkind]
  | waferData | frameData f | slotData i | map =>
    rw [hkind] at howner
    simp only [State.wordPartOwned] at howner
    simp only [State.takeWrite, hkind, State.writeData, howner, Bool.false_eq_true, if_false]

/-- In a part-owned record and in the header a write is dropped: to a data word, to the wafer state word, to a frame's state word, to a
state word of a DRAWN slot and, but for WITHDRAW, of a LOADED one (R115, R136, R151, R166). -/
theorem State.takeWrite_dropped (s : State) {w : WordNo} (howner : s.wordPartOwned (wordKind w) = true) (v : Word)
    (hkind : (wordKind w).watched = false ∨ wordKind w = .waferState ∨ (∃ f, wordKind w = .frameState f)
      ∨ ∃ i, wordKind w = .slotState i ∧ (s.slotState i = .drawn ∨ v ≠ 6)) : s.takeWrite w v = s.dropWrite := by
  cases hk : wordKind w with
  | header => simp only [State.takeWrite, hk]
  | recipe | unmapped =>
    rw [hk] at howner
    exact absurd howner (by simp [State.wordPartOwned])
  | waferRequest | frameStop f =>
    rw [hk] at hkind
    exact absurd hkind (by simp [WordKind.watched])
  | waferData | frameData f | slotData i | map =>
    rw [hk] at howner
    simp only [State.wordPartOwned] at howner
    simp only [State.takeWrite, hk, State.writeData, howner, if_true]
  | waferState =>
    rw [hk] at howner
    simp only [State.wordPartOwned] at howner
    simp only [State.takeWrite, hk, State.writeWaferState, howner, if_true]
  | frameState f =>
    rw [hk] at howner
    simp only [State.wordPartOwned] at howner
    simp only [State.takeWrite, hk, State.writeFrameState, howner, if_true]
  | slotState i =>
    rw [hk] at howner hkind
    simp only [State.wordPartOwned] at howner
    have hvalue : s.slotState i = .drawn ∨ v ≠ 6#32 := by simpa [WordKind.watched] using hkind
    have hdropped : slotRequest (s.slotState i) v = .dropped := by
      cases hx : s.slotState i with
      | drawn => rfl
      | loaded => exact if_neg (hvalue.resolve_left (by rw [hx]; decide))
      | empty | refused | bound | voided =>
        rw [hx] at howner
        exact absurd howner (by decide)
    simp only [State.takeWrite, hk, State.writeSlotState, hdropped]

/-! ### The header (R112, R169) -/

theorem bytes16_append (x : BitVec 16) : x.extractLsb' 8 8 ++ x.extractLsb' 0 8 = x := by
  refine BitVec.eq_of_getLsbD_eq fun i hi => ?_
  simp only [BitVec.getLsbD_append, BitVec.getLsbD_extractLsb']
  split
  · simp [*]
  · simp [show i - 8 < 8 by omega, show 8 + (i - 8) = i by omega]

theorem bytes32_append (x : Word) : x.extractLsb' 24 8 ++ x.extractLsb' 16 8 ++ x.extractLsb' 8 8 ++ x.extractLsb' 0 8 = x :=
  Memory.read32_of_bytes (m := [(0, x.extractLsb' 0 8), (1, x.extractLsb' 8 8), (2, x.extractLsb' 16 8), (3, x.extractLsb' 24 8)])
    (a := 0) rfl rfl rfl rfl

theorem words16_append (x y : BitVec 16) :
    x.extractLsb' 8 8 ++ x.extractLsb' 0 8 ++ y.extractLsb' 8 8 ++ y.extractLsb' 0 8 = (x ++ y : Word) := by
  refine BitVec.eq_of_getLsbD_eq fun i hi => ?_
  simp only [BitVec.getLsbD_append, BitVec.getLsbD_extractLsb']
  by_cases h₀ : i < 8
  · simp [h₀, show i < 16 by omega]
  by_cases h₁ : i < 16
  · simp [h₀, h₁, show i - 8 < 8 by omega, show 8 + (i - 8) = i by omega]
  by_cases h₂ : i < 24
  · simp [h₀, h₁, show ¬ i - 8 < 8 by omega, show i - 8 - 8 = i - 16 by omega, show i - 16 < 8 by omega]
  · simp [h₀, h₁, show ¬ i - 8 < 8 by omega, show ¬ i - 8 - 8 < 8 by omega, show i - 8 - 8 - 8 < 8 by omega,
      show 8 + (i - 8 - 8 - 8) = i - 16 by omega]

theorem siteMask_foldl_bit (p : SiteNo → Bool) (k : SiteNo) (l : List SiteNo) (m : BitVec 16) :
    (l.foldl (fun m k => if p k then m ||| (1#16 <<< k.val) else m) m).getLsbD k.val = (m.getLsbD k.val || (decide (k ∈ l) && p k)) := by
  have hbit : ∀ j : SiteNo, (1#16 <<< j.val).getLsbD k.val = decide (k = j) := by
    revert k
    decide
  induction l generalizing m with
  | nil => simp
  | cons j l ih =>
    rw [List.foldl_cons, ih]
    by_cases hj : k = j
    · subst hj
      cases hp : p k <;> simp
    · cases hp : p j <;> simp only [BitVec.getLsbD_or, hbit, hj, List.mem_cons, false_or, decide_false, Bool.or_false, if_true, if_false, Bool.false_eq_true]

/-- Bit n of a mask of sites is the value for site n (R112). -/
theorem siteMask_bit (p : SiteNo → Bool) (k : SiteNo) : (siteMask p).getLsbD k.val = p k := by
  rw [siteMask, siteMask_foldl_bit]
  simp

theorem liveCode_toNat (x : SiteState) (ph : Phase) : (nat8 (liveCode x ph)).toNat
    = (match x, ph with
      | .idle, _ => 0 | .contact, _ => 1 | .refer, _ => 2 | .blank, _ => 3 | .keywait, _ => 4
      | .burnWait, .burn => 5 | .pulse, .burn => 6 | .verify, .burn => 7 | .final, _ => 8
      | .burnWait, .locking => 9 | .pulse, .locking => 10 | .verify, .locking => 11 | .ended, _ => 12) := by
  cases x <;> cases ph <;> rfl

theorem PumpState.code_toNat (x : PumpState) : (nat8 x.code).toNat
    = (match x with | .off => 0 | .ramp => 1 | .ready => 2 | .idleLow => 3 | .wake => 4 | .hold => 5) := by
  cases x <;> rfl

/-- The fields of the header before the live state codes (10.5). -/
def State.headerFields (s : State) : List Byte :=
  nat16 s.pool.loadedCount ++ nat16 s.pool.draws ++ nat16 s.pool.bound ++ nat16 s.pool.voided ++ nat16 s.pool.returned
    ++ nat16 s.pool.refused ++ bytes32 s.pool.highMark ++ nat16 s.droppedWrites ++ nat16 s.sched.framesEnded
    ++ bytes32 s.sched.nextSeq ++ [nat8 s.supply.pump.code, nat8 s.supply.level] ++ nat16 s.arbiter.inUse
    ++ nat16 s.supply.holdCount ++ bytes16 (siteMask fun k => (s.site k).monitor.warnLive)
    ++ bytes16 (siteMask fun k => (s.site k).monitor.shutLatch) ++ [0, 0]

theorem State.headerBytes_eq (s : State) : s.headerBytes = s.headerFields
    ++ allSites.map fun k => nat8 (liveCode (s.site k).seq.state (s.site k).seq.phase) := rfl

theorem State.length_headerFields (s : State) : s.headerFields.length = 0x24 := by
  simp only [State.headerFields, nat16, bytes16, bytes32, List.length_append, List.length_cons, List.length_nil]

/-- A byte of the header before the live state codes. -/
theorem State.readByte_field (s : State) {o : Nat} (h : o < 0x24) : s.readByte o = s.headerFields.getD o 0 := by
  rw [s.readByte_header (by omega), s.headerBytes_eq, List.getD_append _ _ _ _ (by rw [s.length_headerFields]; exact h)]

/-- A word of the header before the live state codes. -/
theorem State.readWord_field (s : State) {w : WordNo} (h : wordOffset w + 3 < 0x24) : s.readWord w
    = s.headerFields.getD (wordOffset w + 3) 0 ++ s.headerFields.getD (wordOffset w + 2) 0
      ++ s.headerFields.getD (wordOffset w + 1) 0 ++ s.headerFields.getD (wordOffset w) 0 := by
  rw [State.readWord, s.readByte_field h, s.readByte_field (by omega), s.readByte_field (by omega), s.readByte_field (by omega)]

/-- The live state codes are the last sixteen bytes of the header's list (R169). -/
theorem State.readByte_liveCode (s : State) (k : SiteNo) :
    s.readByte (0x24 + k.val) = nat8 (liveCode (s.site k).seq.state (s.site k).seq.phase) := by
  have hk : k.val < allSites.length := by simp [allSites]
  rw [s.readByte_header (by omega), s.headerBytes_eq,
    List.getD_append_right _ _ _ _ (by rw [s.length_headerFields]; exact Nat.le_add_right _ _), s.length_headerFields,
    Nat.add_sub_cancel_left, List.getD_eq_getElem _ _ (by simpa using hk), List.getElem_map]
  simp [allSites]

/-- The bytes past the last live state code read 0. -/
theorem State.readByte_header_end (s : State) {o : Nat} (ho : 0x34 ≤ o) (hlow : o < 0x100) : s.readByte o = 0 := by
  rw [s.readByte_header hlow, s.headerBytes_eq, List.getD_eq_default]
  rw [List.length_append, List.length_map, s.length_headerFields]
  simpa [allSites] using ho

/-- Settles O34: each write by the kind of its word and the owner of its record, the header field by field. -/
theorem writesAreStoredOrDroppedByTheOwner : Obligations.WritesAreStoredOrDroppedByTheOwner := by
  refine ⟨fun w lanes d s hinit hreset => ?_, fun s => ?_⟩
  · have hwrite := State.testerWrite_eq hinit hreset w lanes d
    have hexec : exec (.dataWordWrite w lanes d) s = .next (s.testerWrite w lanes d) := rfl
    refine ⟨fun hdata => ⟨fun hk => ?_, fun hmapped howner => ?_, fun howner => ?_⟩, fun howner hkind => ?_⟩
    · rw [hexec, hwrite, State.takeWrite_unmapped s hk]
    · have hstored := WordKind.stored_of_owned hdata hmapped howner
      rw [hexec, hwrite, State.takeWrite_stored s hstored howner]
      refine ⟨_, rfl, rfl, fun i hi => s.read_storeWord_writtenValue hstored lanes d hi, fun a ha => ?_⟩
      exact Memory.read_writeBytes_outside _ _ ha
    · rw [hexec, hwrite, State.takeWrite_dropped s howner _ (.inl hdata), State.dropWrite_eq]
    · have hdrop : exec (.droppedWatchedWordWrite w lanes d) s = .next (s.testerWrite w lanes d) := rfl
      rw [hdrop, hwrite, State.takeWrite_dropped s howner _ (.inr hkind), State.dropWrite_eq]
  · have hword : ∀ w : WordNo, wordOffset w + 3 < 0x24 → _ := fun w h => s.readWord_field (w := w) h
    rw [hword 0 (by decide), hword 1 (by decide), hword 2 (by decide), hword 3 (by decide), hword 4 (by decide), hword 5 (by decide)]
    have hfield : ∀ o, o < 0x24 → _ := fun o h => s.readByte_field (o := o) h
    rw [hfield 0x18 (by decide), hfield 0x19 (by decide), hfield 0x1A (by decide), hfield 0x1B (by decide), hfield 0x1C (by decide),
      hfield 0x1D (by decide), hfield 0x1E (by decide), hfield 0x1F (by decide), hfield 0x20 (by decide), hfield 0x21 (by decide)]
    have hoffset : wordOffset 0 = 0 ∧ wordOffset 1 = 4 ∧ wordOffset 2 = 8 ∧ wordOffset 3 = 12 ∧ wordOffset 4 = 16 ∧ wordOffset 5 = 20 := by
      decide
    obtain ⟨h₀, h₁, h₂, h₃, h₄, h₅⟩ := hoffset
    rw [h₀, h₁, h₂, h₃, h₄, h₅]
    simp only [State.headerFields, nat16, bytes16, bytes32, List.cons_append, List.nil_append, List.getD_cons_succ, List.getD_cons_zero,
      words16_append, bytes32_append, Nat.reduceAdd]
    refine ⟨trivial, trivial, trivial, trivial, trivial, trivial, PumpState.code_toNat _, rfl, bytes16_append _, bytes16_append _,
      fun k => ?_, fun k => ?_, fun k => ?_, fun o ho hlow => ?_⟩
    · exact (congrArg (fun x => BitVec.getLsbD x k.val) (bytes16_append _)).trans (siteMask_bit _ k)
    · exact (congrArg (fun x => BitVec.getLsbD x k.val) (bytes16_append _)).trans (siteMask_bit _ k)
    · rw [s.readByte_liveCode k]
      exact liveCode_toNat _ _
    · obtain rfl | rfl | hend := ho
      · rw [hfield 0x22 (by decide)]
        simp only [State.headerFields, nat16, bytes16, bytes32, List.cons_append, List.nil_append, List.getD_cons_succ, List.getD_cons_zero]
      · rw [hfield 0x23 (by decide)]
        simp only [State.headerFields, nat16, bytes16, bytes32, List.cons_append, List.nil_append, List.getD_cons_succ, List.getD_cons_zero]
      · exact s.readByte_header_end hend hlow

end Sys2Proof.Machine

/-!
PROOF. The evaluation of the waiting sites when at most one slot is drawable, and the end of a site as a whole (R51, R52, R121, R127,
R128).
-/

namespace Sys2Proof.Machine

/-! ### Draws look at the pool and the slots alone -/

theorem State.lowerLoaded_onSite (j : SiteNo) (g : Site → Site) (s : State) :
    (s.onSite j g).lowerLoaded = s.lowerLoaded.onSite j g := by
  by_cases h : s.pool.watermark ≤ s.pool.loadedCount ∧ s.pool.loadedCount - 1 < s.pool.watermark
  · have hlow : s.lowerLoaded = (s.onPool fun p => { p with loadedCount := p.loadedCount - 1 }).raise .poolLow := if_pos h
    rw [hlow]
    exact if_pos h
  · have hlow : s.lowerLoaded = s.onPool fun p => { p with loadedCount := p.loadedCount - 1 } := if_neg h
    rw [hlow]
    exact if_neg h

theorem State.drawSlot_onSite (k : SiteNo) (i : SlotNo) (p : Pool) (j : SiteNo) (g : Site → Site) (s : State) :
    (s.onSite j g).drawSlot k i p = (s.drawSlot k i p).onSite j g := by
  unfold State.drawSlot
  generalize List.replicate 32 (0 : Byte) = zeros
  rw [← State.lowerLoaded_onSite]
  rfl

theorem State.draw_onSite (k : SiteNo) (len : KeyLength) (j : SiteNo) (g : Site → Site) (s : State) :
    (s.onSite j g).draw k len = (s.draw k len).map fun r => (r.1.onSite j g, r.2) := by
  rw [State.draw, State.draw, State.onSite_pool]
  cases s.pool.choose with
  | none => rfl
  | some c => simp only [State.drawSlot_onSite, Option.map_some]; rfl

theorem drawTurn_onSite (j : SiteNo) (g : Site → Site) (acc : State × List KeyGrant) (k : SiteNo) :
    drawTurn (acc.1.onSite j g, acc.2) k = ((drawTurn acc k).1.onSite j g, (drawTurn acc k).2) := by
  unfold drawTurn
  dsimp only [State.onSite_pool]
  cases look acc.1.pool.waiting k with
  | none => rfl
  | some len =>
    dsimp only
    rw [State.draw_onSite]
    cases acc.1.draw k len <;> rfl

theorem foldl_drawTurn_onSite (j : SiteNo) (g : Site → Site) (l : List SiteNo) (acc : State × List KeyGrant) :
    l.foldl drawTurn (acc.1.onSite j g, acc.2) = ((l.foldl drawTurn acc).1.onSite j g, (l.foldl drawTurn acc).2) := by
  induction l generalizing acc with
  | nil => rfl
  | cons k l ih => rw [List.foldl_cons, List.foldl_cons, drawTurn_onSite, ih]

theorem State.evaluateDraws_onSite (j : SiteNo) (g : Site → Site) (s : State) :
    (s.onSite j g).evaluateDraws = (s.evaluateDraws.1.onSite j g, s.evaluateDraws.2) := foldl_drawTurn_onSite j g allSites (s, [])

/-! ### An evaluation with at most one drawable slot (R121) -/

theorem drawTurn_of_not_waiting {acc : State × List KeyGrant} {k : SiteNo} (h : look acc.1.pool.waiting k = none) :
    drawTurn acc k = acc := by
  simp only [drawTurn, h]

/-- Without a drawable slot no site is served. -/
theorem drawTurn_of_dry {acc : State × List KeyGrant} (h : acc.1.pool.choose = none) (k : SiteNo) : drawTurn acc k = acc := by
  unfold drawTurn
  split
  · rfl
  · simp only [State.draw, h]

theorem foldl_drawTurn_of_dry {acc : State × List KeyGrant} (h : acc.1.pool.choose = none) (l : List SiteNo) :
    l.foldl drawTurn acc = acc := by
  induction l with
  | nil => rfl
  | cons k l ih => rw [List.foldl_cons, drawTurn_of_dry h, ih]

theorem State.evaluateDraws_of_no_waiter {s : State} (h : ∀ k, look s.pool.waiting k = none) : s.evaluateDraws = (s, []) := by
  unfold State.evaluateDraws
  induction allSites with
  | nil => rfl
  | cons k l ih => rw [List.foldl_cons, drawTurn_of_not_waiting (h k), ih]

/-- With one drawable slot, the lowest waiting site is served and no other. -/
theorem State.evaluateDraws_of_single {s t : State} {k : SiteNo} {len : KeyLength} {g : KeyGrant}
    (hnext : s.pool.nextWaiting = some (k, len)) (hdraw : s.draw k len = some (t, g)) (hdry : t.pool.choose = none) :
    s.evaluateDraws = (t, [g]) := by
  suffices h : ∀ l : List SiteNo, (l.findSome? fun k => (look s.pool.waiting k).map fun len => (k, len)) = some (k, len) →
      l.foldl drawTurn (s, []) = (t, [g]) from h allSites hnext
  intro l
  induction l with
  | nil => exact nofun
  | cons j l ih =>
    intro hfind
    rw [List.foldl_cons]
    cases hj : look s.pool.waiting j with
    | none =>
      rw [drawTurn_of_not_waiting hj]
      refine ih ?_
      rwa [List.findSome?_cons, hj] at hfind
    | some len' =>
      rw [List.findSome?_cons, hj] at hfind
      obtain ⟨rfl, rfl⟩ : j = k ∧ len' = len := by simpa using hfind
      have hturn : drawTurn (s, []) j = (t, [g]) := by
        simp only [drawTurn, hj, hdraw, List.nil_append]
      rw [hturn]
      exact foldl_drawTurn_of_dry hdry l

theorem Pool.nextWaiting_eq_none_iff (p : Pool) : p.nextWaiting = none ↔ ∀ k, look p.waiting k = none := by
  rw [Pool.nextWaiting, List.findSome?_eq_none_iff]
  simp

/-! ### The settlement of a key, whatever becomes of the rest of the site -/

/-- Two sites whose keys a settlement takes alike. -/
def Site.SettlesAlike (x y : Site) : Prop :=
  y.seq.key = x.seq.key ∧ y.seq.pulsed = x.seq.pulsed ∧ y.seq.fingerprint = x.seq.fingerprint ∧ y.seq.dieX = x.seq.dieX
    ∧ y.seq.dieY = x.seq.dieY

theorem Site.settlesAlike_enterEnd (o : SiteOutcome) (x : Site) : x.SettlesAlike (x.enterEnd o) := ⟨rfl, rfl, rfl, rfl, rfl⟩

theorem State.returnSlot_onSite (i : SlotNo) (buffer : List Byte) (j : SiteNo) (g : Site → Site) (s : State) :
    (s.onSite j g).returnSlot i buffer = (s.returnSlot i buffer).onSite j g := by
  unfold State.returnSlot
  generalize buffer.take 32 = bs
  rfl

theorem State.settleKey_onSite {k : SiteNo} {o : SiteOutcome} {g : Site → Site} {s : State} (h : (s.site k).SettlesAlike (g (s.site k))) :
    (s.onSite k g).settleKey k o = ((s.settleKey k o).1.onSite k g, (s.settleKey k o).2) := by
  obtain ⟨hkey, hpulsed, hprint, hx, hy⟩ := h
  simp only [State.settleKey, State.onSite_site_same, hkey, hpulsed]
  cases (s.site k).seq.key with
  | none => rfl
  | some held =>
    dsimp only
    split
    · rw [State.bindSlot_eq, State.bindSlot_eq, State.spendSlot_onSite held.slot true hprint hx hy]
    · split
      · rw [State.voidSlot_eq, State.voidSlot_eq, State.spendSlot_onSite held.slot false hprint hx hy]
      · rw [State.returnSlot_onSite, State.evaluateDraws_onSite]

/-- The end of a running site with no burst request left: the settlement of its key, END, and what it files (R51, R52). -/
theorem State.endSiteWith_eq {k : SiteNo} {o : SiteOutcome} {s : State} (hrun : (s.site k).seq.state.isRunning = true)
    (hreq : look s.arbiter.requests k = none) :
    s.endSiteWith k o = (State.fileEnd k o ((s.withdrawDraw k).settleKey k o).2.1 (s.site k).seq.heldSerial
      (((s.withdrawDraw k).settleKey k o).1.onSite k (Site.asEnded o)), ((s.withdrawDraw k).settleKey k o).2.2) := by
  have hsettle := State.settleKey_onSite (o := o) (Site.settlesAlike_enterEnd o ((s.withdrawDraw k).site k))
  have hserial : (((s.withdrawDraw k).onSite k (Site.enterEnd o)).site k).seq.heldSerial = (s.site k).seq.heldSerial := by
    rw [State.onSite_site_same]
    rfl
  rw [State.endSiteWith, if_pos hrun, State.withdrawBurst_of_none (s := s.withdrawDraw k) hreq, ← Prod.mk.eta (p := State.endActions _ _ _),
    State.endActions_fst, hserial, State.endActions, hsettle]
  simp only [State.onSeq_eq, State.onSite_onSite, Site.enterEnd_without_key]

/-! ### A key that is returned -/

section Returned

variable {s : State} {k : SiteNo} {o : SiteOutcome} {h : KeyHeld}

theorem State.settleKey_returned (hkey : (s.site k).seq.key = some h) (ho : o ≠ .keyed) (hpulsed : (s.site k).seq.pulsed = false) :
    s.settleKey k o = ((s.returnSlot h.slot h.buffer).evaluateDraws.1, .returned, (s.returnSlot h.slot h.buffer).evaluateDraws.2) := by
  simp only [State.settleKey, hkey, if_neg ho, hpulsed, Bool.false_eq_true, if_false]

/-- A returned key stands in its slot again, last on the redraw list (R128). -/
theorem State.returnSlot_eq (i : SlotNo) (buffer : List Byte) (s : State) : s.returnSlot i buffer = { s with
    mem := Memory.writeBytes s.mem (slotBase i + 0x20) (buffer.take 32)
    pool := { s.pool with
      slots := put s.pool.slots i .loaded, redraw := s.pool.redraw ++ [i], loadedCount := s.pool.loadedCount + 1
      returned := min (s.pool.returned + 1) 0xFFFF } } := by
  unfold State.returnSlot
  generalize buffer.take 32 = bs
  rfl

end Returned

end Sys2Proof.Machine

/-!
PROOF. A key that goes back to the pool, with and without sites that wait for it (R121, R127, R128): O50.
-/

namespace Sys2Proof.Machine

theorem State.SupplyWork.mem_eq {s t : State} (h : s.SupplyWork t) : t.mem = s.mem := by
  obtain ⟨p, a, xs, rfl⟩ := h
  rfl

/-! ### The key grant of a returned key -/

/-- The first row begins alike whatever exchange memory holds. -/
theorem State.takeKeyGrant_mem (g : KeyGrant) (m : Memory) (s : State) :
    { s with mem := m }.takeKeyGrant g = { s.takeKeyGrant g with mem := m } := by
  rw [State.takeKeyGrant_eq, State.takeKeyGrant_eq]
  set x := s.onSite g.site (Site.keyed s.workingRecipe.keyLength g) with hx
  have hx' : State.onSite g.site (Site.keyed (State.workingRecipe { s with mem := m }).keyLength g) { s with mem := m }
      = { x with mem := m } := rfl
  rw [hx']
  cases hrow : firstBurnRow x.workingRecipe.keyLength (x.site g.site).seq.plan 0 with
  | none => rw [State.beginRow_of_none hrow, State.beginRow_of_none (s := { x with mem := m }) hrow]; rfl
  | some e => rw [State.beginRow_of_some hrow, State.beginRow_of_some (s := { x with mem := m }) hrow]; rfl

/-- What a draw of slot i hands to site k. -/
def State.grantOf (s : State) (k : SiteNo) (len : KeyLength) (i : SlotNo) : KeyGrant :=
  { site := k, slot := i, serial := s.slotSerial i, buffer := s.slotKey i len.keyBytes }

theorem State.grantOf_congr {s t : State} {i : SlotNo} (h : ∀ j < 0x40, Memory.read t.mem (slotBase i + j) = Memory.read s.mem (slotBase i + j))
    (k : SiteNo) (len : KeyLength) : t.grantOf k len i = s.grantOf k len i := by
  have hserial : t.slotSerial i = s.slotSerial i :=
    Memory.read32_congr fun j hj => by simpa [Nat.add_assoc] using h (0x08 + j) (by omega)
  have hkey : t.slotKey i len.keyBytes = s.slotKey i len.keyBytes := by
    unfold State.slotKey Memory.readBytes
    refine List.map_congr_left fun j hj => ?_
    have : j < 32 := by
      have := List.mem_range.1 hj
      cases len <;> exact lt_of_lt_of_le this (by decide)
    simpa [Nat.add_assoc] using h (0x20 + j) (by omega)
  rw [State.grantOf, State.grantOf, hserial, hkey]

/-- A pool whose one drawable slot is the head of the redraw list is dry after that slot is drawn. -/
theorem Pool.choose_of_drawn {p : Pool} {i : SlotNo} (hempty : p.redraw = []) (hother : ∀ j, j ≠ i → look p.slots j ≠ .loaded)
    (hi : look p.slots i = .drawn) : p.choose = none := by
  rw [Pool.choose_eq_none_iff]
  refine ⟨hempty, fun j => ?_⟩
  by_cases hj : j = i
  · rw [hj, hi]
    decide
  · exact hother j hj

/-- A key that goes back to a dry pool is drawn at once for the lowest waiting site, and no other is served (R121, R122, R128). -/
theorem State.evaluateDraws_of_returned {r : State} {k : SiteNo} {len : KeyLength} {i : SlotNo}
    (hnext : r.pool.nextWaiting = some (k, len)) (hredraw : r.pool.redraw = [i]) (hother : ∀ j, j ≠ i → r.slotState j ≠ .loaded)
    (hcount : 1 ≤ r.pool.loadedCount) :
    r.evaluateDraws = (r.drawSlot k i { r.pool with redraw := [] }, [r.grantOf k len i]) := by
  have hchoose : r.pool.choose = some (i, { r.pool with redraw := [] }) := by
    rw [Pool.choose, hredraw]
  refine State.evaluateDraws_of_single hnext (by simp only [State.draw, hchoose, State.grantOf]) ?_
  rw [State.drawSlot_eq (p := { r.pool with redraw := [] }) k i hcount]
  exact Pool.choose_of_drawn (i := i) rfl
    (fun j hj => by
      show look (put r.pool.slots i .drawn) j ≠ .loaded
      rw [look_put_other _ _ _ _ (Ne.symm hj)]
      exact hother j hj)
    (look_put_same _ _ _)

/-! ### The end of a site whose key is returned -/

/-- Site k stands in END with outcome o and its key is back in its slot; record and map code are still to be written, and no waiting site
has been looked at (R51, R128). -/
def State.keyReturned (s : State) (k : SiteNo) (o : SiteOutcome) (h : KeyHeld) : State :=
  ((s.withdrawDraw k).returnSlot h.slot h.buffer).onSite k (Site.asEnded o)

section KeyReturned

variable {s : State} {k : SiteNo} {o : SiteOutcome} {h : KeyHeld}

theorem State.keyReturned_eq : s.keyReturned k o h = { s with
    mem := Memory.writeBytes s.mem (slotBase h.slot + 0x20) (h.buffer.take 32)
    pool := { s.pool with
      slots := put s.pool.slots h.slot .loaded, redraw := s.pool.redraw ++ [h.slot], loadedCount := s.pool.loadedCount + 1
      returned := min (s.pool.returned + 1) 0xFFFF, waiting := put s.pool.waiting k none }
    sites := put s.sites k ((s.site k).asEnded o) } := by
  rw [State.keyReturned, State.returnSlot_eq]
  generalize h.buffer.take 32 = bs
  rfl

/-- The end of a site that returns its key, as far as the sites that wait are not looked at (R51, R52, R128). -/
theorem State.endSiteWith_returned (hrun : (s.site k).seq.state.isRunning = true) (hreq : look s.arbiter.requests k = none)
    (hkey : (s.site k).seq.key = some h) (ho : o ≠ .keyed) (hpulsed : (s.site k).seq.pulsed = false) :
    s.endSiteWith k o = (State.fileEnd k o .returned h.serial (s.keyReturned k o h).evaluateDraws.1,
      (s.keyReturned k o h).evaluateDraws.2) := by
  have hserial : (s.site k).seq.heldSerial = h.serial := by simp only [Sequencer.heldSerial, hkey]
  rw [State.endSiteWith_eq hrun hreq, State.settleKey_returned (s := s.withdrawDraw k) hkey ho hpulsed, hserial, State.keyReturned,
    State.evaluateDraws_onSite]

/-- The bytes of the key in its slot again (R128). -/
theorem State.read_keyReturned {j : Nat} (hj : j < h.buffer.length) (hlow : j < 32) :
    some (Memory.read (s.keyReturned k o h).mem (slotBase h.slot + 0x20 + j)) = h.buffer[j]? := by
  rw [State.keyReturned_eq]
  show some (Memory.read (Memory.writeBytes _ _ _) _) = _
  rw [Memory.read_writeBytes_inside _ _ (by rw [List.length_take]; omega), List.getD_eq_getElem?_getD, List.getElem?_take_of_lt hlow,
    List.getElem?_eq_getElem hj]
  rfl

theorem State.read_keyReturned_other {a : Nat}
    (ha : a < slotBase h.slot + 0x20 ∨ slotBase h.slot + 0x20 + min h.buffer.length 32 ≤ a) :
    Memory.read (s.keyReturned k o h).mem a = Memory.read s.mem a := by
  rw [State.keyReturned_eq]
  exact Memory.read_writeBytes_outside _ _ (by rw [List.length_take]; omega)

end KeyReturned

/-- An end shows what R51 to R53 say of a site once its key is settled: u stands as the settlement left it, with the site in END. -/
structure State.EndedFrom (u t : State) (f : FrameNo) (k : SiteNo) (o : SiteOutcome) (d : Disposition) (serial : Word) (code : Byte) :
    Prop where
  record : t.RecordShows f k o d.code serial
  map : onMap (u.site k).seq.dieX (u.site k).seq.dieY = true → Memory.read t.mem (u.mapEntryOf k) = code
  memory : ∀ a, (a < siteRecordBase f k ∨ siteRecordBase f k + 38 ≤ a) → a ≠ u.mapEntryOf k → Memory.read t.mem a = Memory.read u.mem a
  frame : t = { u with mem := t.mem, sched := { u.sched with ended := put u.sched.ended k true } }

theorem State.fileEnd_endedFrom {u : State} {f : FrameNo} {k : SiteNo} {o : SiteOutcome} {d : Disposition} {serial : Word} {code : Byte}
    (hf : u.sched.running = some f) (hcode : mapCodeOf o (u.site k).seq.pulsed = some code) :
    u.EndedFrom (u.fileEnd k o d serial) f k o d serial code where
  record := State.fileEnd_recordShows hf hcode
  map := State.fileEnd_map hf hcode
  memory := fun _ ha hmap => State.fileEnd_read_other hf hcode ha hmap
  frame := State.fileEnd_frame hf

theorem State.endedAs_of_site {t : State} {k : SiteNo} {o : SiteOutcome} {x : Site} (hsite : t.site k = x.asEnded o)
    (hdraw : look t.pool.waiting k = none) (hreq : look t.arbiter.requests k = none) (hrep : look t.sched.ended k = true) :
    t.EndedAs k o where
  state := by rw [hsite]; rfl
  outcome := by rw [hsite]; rfl
  key := by rw [hsite]; rfl
  timers := by rw [hsite]; exact ⟨rfl, rfl⟩
  plan := by rw [hsite]; rfl
  former := by rw [hsite]; exact ⟨rfl, rfl, rfl, rfl, rfl⟩
  noDraw := hdraw
  noRequest := hreq
  reported := hrep

theorem State.settle_of_waiting_site {s : State} {k j : SiteNo} (hj : j ≠ k) (hended : look s.sched.ended j = false) {t : State}
    (ht : t.sched.ended = put s.sched.ended k true) : t.settle = t :=
  State.settle_of_not_ended (k := j) (by rw [ht, look_put_other _ _ _ _ (Ne.symm hj), hended])

theorem State.writeMap_onPool (k : SiteNo) (o : SiteOutcome) (g : Pool → Pool) (s : State) :
    (s.onPool g).writeMap k o = (s.writeMap k o).onPool g := by
  unfold State.writeMap
  dsimp only [State.onPool_site]
  cases mapCodeOf o (s.site k).seq.pulsed with
  | none => rfl
  | some code =>
    dsimp only
    split <;> rfl

/-- Record, map code and report do not look at the pool. -/
theorem State.fileEnd_onPool {s : State} {f : FrameNo} (hf : s.sched.running = some f) (k : SiteNo) (o : SiteOutcome) (d : Disposition)
    (serial : Word) (g : Pool → Pool) : (s.onPool g).fileEnd k o d serial = (s.fileEnd k o d serial).onPool g := by
  rw [State.fileEnd, State.fileEnd, State.writeRecord_of_running k o d serial hf,
    State.writeRecord_of_running (s := s.onPool g) k o d serial hf]
  have hbytes : recordBytes k ((s.onPool g).site k) (s.onPool g).workingRecipe o d serial
      = recordBytes k (s.site k) s.workingRecipe o d serial := rfl
  rw [hbytes]
  generalize recordBytes k (s.site k) s.workingRecipe o d serial = bs
  have hmap := State.writeMap_onPool k o g (s.store (siteRecordBase f k) bs)
  rw [show (s.onPool g).store (siteRecordBase f k) bs = (s.store (siteRecordBase f k) bs).onPool g from rfl, hmap]
  rfl

section Served

variable {a : State} {f : FrameNo} {k j : SiteNo} {len : KeyLength} {o : SiteOutcome} {h : KeyHeld} {code : Byte}

/-- A waiting site may be served before the record and the map entry are written or after: the states differ at most in how exchange memory
is listed, and read alike (R52, R121, R128). -/
theorem State.fileEnd_drawSlot (hf : a.sched.running = some f) (hcode : mapCodeOf o (a.site k).seq.pulsed = some code)
    (i : SlotNo) {p : Pool} (hcount : 1 ≤ p.loadedCount) (d : Disposition) (serial : Word) :
    (a.drawSlot j i p).fileEnd k o d serial
        = { (a.fileEnd k o d serial).drawSlot j i p with mem := ((a.drawSlot j i p).fileEnd k o d serial).mem }
      ∧ ∀ x, Memory.read ((a.drawSlot j i p).fileEnd k o d serial).mem x
        = Memory.read ((a.fileEnd k o d serial).drawSlot j i p).mem x := by
  have hsched : (a.drawSlot j i p).sched.running = some f := by rw [State.drawSlot_sched]; exact hf
  have hsites : (a.drawSlot j i p).sites = a.sites := State.drawSlot_sites j i p a
  have hsite : (a.drawSlot j i p).site k = a.site k := by rw [State.site, hsites]; rfl
  refine ⟨?_, fun x => ?_⟩
  · have hframe := State.fileEnd_frame (k := k) (o := o) (d := d) (serial := serial) hsched
    have hframe' := State.fileEnd_frame (k := k) (o := o) (d := d) (serial := serial) hf
    generalize (a.drawSlot j i p).fileEnd k o d serial = t at hframe ⊢
    rw [hframe, State.drawSlot_eq j i hcount, hframe', State.drawSlot_eq j i hcount]
  · have hrecipe : (a.drawSlot j i p).workingRecipe = a.workingRecipe := (State.drawSlot_siteWork j i p a).workingRecipe
    have hentry : (a.drawSlot j i p).mapEntryOf k = a.mapEntryOf k := by rw [State.mapEntryOf, hsite]; rfl
    have hslot : ∀ b < 0x40, _ := fun b hb => a.slot_outside_record_and_map i f k (j := b) hb
    rw [State.drawSlot_mem, Memory.read_writeBytes, State.read_fileEnd hsched (by rw [hsite]; exact hcode), State.read_fileEnd hf hcode,
      hsite, hrecipe, hentry, State.drawSlot_mem, Memory.read_writeBytes]
    by_cases hx : slotBase i + 0x20 ≤ x ∧ x < slotBase i + 0x20 + (List.replicate 32 (0 : Byte)).length
    · have hx32 : x - slotBase i < 0x40 := by
        have := hx.2
        rw [List.length_replicate] at this
        omega
      obtain ⟨hrecord, hmap⟩ := hslot _ hx32
      rw [if_neg (fun h => hmap (by omega)), if_neg (by omega), if_pos hx, if_pos hx]
    · rw [if_neg hx, if_neg hx]

end Served

section ReturningEnd

variable {s : State} {k j : SiteNo} {len : KeyLength} {o : SiteOutcome} {h : KeyHeld}

theorem State.withdrawBurst_site (k j : SiteNo) (s : State) : (s.withdrawBurst k).site j = s.site j := by
  rw [State.withdrawBurst_eq]
  rfl

theorem State.withdrawBurst_pool (k : SiteNo) (s : State) : (s.withdrawBurst k).pool = s.pool := by rw [State.withdrawBurst_eq]

theorem State.withdrawBurst_sched (k : SiteNo) (s : State) : (s.withdrawBurst k).sched = s.sched := by rw [State.withdrawBurst_eq]

theorem State.withdrawBurst_mem (k : SiteNo) (s : State) : (s.withdrawBurst k).mem = s.mem := by rw [State.withdrawBurst_eq]

/-- The end of a site that returns its key, before the key grant it makes is taken (R51, R52, R128). -/
theorem State.endSiteWith_returns (hrun : (s.site k).seq.state.isRunning = true) (hkey : (s.site k).seq.key = some h) (ho : o ≠ .keyed)
    (hpulsed : (s.site k).seq.pulsed = false) :
    s.endSiteWith k o = (State.fileEnd k o .returned h.serial ((s.withdrawBurst k).keyReturned k o h).evaluateDraws.1,
      ((s.withdrawBurst k).keyReturned k o h).evaluateDraws.2) := by
  rw [State.endSiteWith_withdrawBurst k o hrun]
  rw [← State.withdrawBurst_site k k] at hrun hkey hpulsed
  exact State.endSiteWith_returned hrun (s.withdrawBurst_request k) hkey ho hpulsed

theorem State.keyReturned_pool (s : State) (k : SiteNo) (o : SiteOutcome) (h : KeyHeld) :
    ((s.withdrawBurst k).keyReturned k o h).pool = { s.pool with
      slots := put s.pool.slots h.slot .loaded, redraw := s.pool.redraw ++ [h.slot], loadedCount := s.pool.loadedCount + 1
      returned := min (s.pool.returned + 1) 0xFFFF, waiting := put s.pool.waiting k none } := by
  rw [State.keyReturned_eq, State.withdrawBurst_pool]

/-- With no other site waiting the key stays in its slot (R121, R128). -/
theorem State.endSiteWith_returns_alone (hrun : (s.site k).seq.state.isRunning = true) (hkey : (s.site k).seq.key = some h)
    (ho : o ≠ .keyed) (hpulsed : (s.site k).seq.pulsed = false) (hnone : ∀ i, i ≠ k → look s.pool.waiting i = none) :
    s.endSiteWith k o = (State.fileEnd k o .returned h.serial ((s.withdrawBurst k).keyReturned k o h), []) := by
  rw [State.endSiteWith_returns hrun hkey ho hpulsed, State.evaluateDraws_of_no_waiter]
  intro i
  rw [State.keyReturned_pool, look_put]
  split
  · rfl
  · exact hnone i (fun hi => by simp_all)

/-- With another site waiting, and so a dry pool, the lowest such site is given the key (R121, R122, R128). -/
theorem State.endSiteWith_returns_served (hrun : (s.site k).seq.state.isRunning = true) (hkey : (s.site k).seq.key = some h)
    (ho : o ≠ .keyed) (hpulsed : (s.site k).seq.pulsed = false) {w : Vector (Option KeyLength) 16}
    (hw : w = put s.pool.waiting k none) (hnext : Pool.nextWaiting { s.pool with waiting := w } = some (j, len))
    (hredraw : s.pool.redraw = []) (hdry : ∀ i, s.slotState i ≠ .loaded) {a : State} (ha : a = (s.withdrawBurst k).keyReturned k o h) :
    s.endSiteWith k o = (State.fileEnd k o .returned h.serial (a.drawSlot j h.slot { a.pool with redraw := [] }),
      [a.grantOf j len h.slot]) := by
  have hpool := s.keyReturned_pool k o h
  rw [← ha] at hpool
  rw [State.endSiteWith_returns hrun hkey ho hpulsed, ← ha, State.evaluateDraws_of_returned (k := j) (len := len) (i := h.slot)]
  · rw [hpool, ← hnext, hw]
    rfl
  · rw [hpool, hredraw]
    rfl
  · intro i hi
    rw [State.slotState, hpool, look_put_other _ _ _ _ (Ne.symm hi)]
    exact hdry i
  · rw [hpool]
    exact Nat.le_add_left 1 _

end ReturningEnd

/-- Settles O50: the end that returns its key, alone and with a site waiting for it. -/
theorem unpulsedKeyGoesBackToThePool : Obligations.UnpulsedKeyGoesBackToThePool := by
  intro k f h celsius T m s hT hm hat hlatch hf ⟨j, hj, hended⟩ hstate hkey hpulsed hop
  rw [← Monitor.takeReading_eq] at hm
  rw [← hT] at hat
  set z : State := { s with sites := put s.sites k { s.site k with monitor := m } } with hz
  have hzsite : z.site k = { s.site k with monitor := m } := look_put_same _ _ _
  have hzrun : (z.site k).seq.state.isRunning = true := by rw [hzsite, hstate]; rfl
  have hzkey : (z.site k).seq.key = some h := by rw [hzsite]; exact hkey
  have hzpulsed : (z.site k).seq.pulsed = false := by rw [hzsite]; exact hpulsed
  have hcode : ∀ x : State, (x.site k).seq.pulsed = false → mapCodeOf .thermal (x.site k).seq.pulsed = some 5 := fun x hx => by
    rw [hx]
    rfl
  have hexecs : ∀ w, exec (.thermalReading k celsius) { s with pool := { s.pool with waiting := w } }
      = .next (State.endSite k .thermal { z with pool := { z.pool with waiting := w } }).settle := fun w => by
    have hreading : State.takeReading k T { s with pool := { s.pool with waiting := w } }
        = { z with pool := { z.pool with waiting := w } } := by
      rw [State.takeReading_eq, hz, hm]
      rfl
    rw [exec_thermalReading_event (s := { s with pool := { s.pool with waiting := w } }) hT hat hlatch, hreading,
      State.thermalEvent_of_not_pulsing]
    intro x hx
    have hnone : (z.site k).port.op = none := by rw [hzsite]; exact hop
    exact absurd (hnone.symm.trans hx) nofun
  have hexec : exec (.thermalReading k celsius) s = .next (z.endSite k .thermal).settle := hexecs s.pool.waiting
  set a := (z.withdrawBurst k).keyReturned k .thermal h with ha
  have haf : a.sched.running = some f := by rw [ha, State.keyReturned_eq, State.withdrawBurst_sched]; exact hf
  have hasite : a.site k = Site.asEnded .thermal { s.site k with monitor := m } := by
    rw [ha, State.keyReturned, State.onSite_site_same, State.returnSlot_eq]
    show Site.asEnded .thermal ((z.withdrawBurst k).site k) = _
    rw [State.withdrawBurst_site, hzsite]
  have hapulsed : (a.site k).seq.pulsed = false := by rw [hasite]; exact hpulsed
  have haended : a.sched.ended = s.sched.ended := by rw [ha, State.keyReturned_eq, State.withdrawBurst_sched]
  refine ⟨fun hnone => ?_, fun ⟨i, hi, hwaits⟩ hredraw hdry => ?_⟩
  · have hend : z.endSite k .thermal = a.fileEnd k .thermal .returned h.serial := by
      rw [State.endSite, State.endSiteWith_returns_alone (o := .thermal) hzrun hzkey nofun hzpulsed hnone]
      rfl
    have hfrom := State.fileEnd_endedFrom (o := .thermal) (d := .returned) (serial := h.serial) haf (hcode a hapulsed)
    rw [← hend] at hfrom
    have hpool := z.keyReturned_pool k .thermal h
    rw [← ha] at hpool
    have hrest : a.arbiter = (z.withdrawBurst k).arbiter ∧ a.supply = (z.withdrawBurst k).supply ∧ a.attn = s.attn ∧ a.wafer = s.wafer
        ∧ ∀ i, i ≠ k → a.site i = s.site i := by
      rw [ha, State.keyReturned_eq, State.withdrawBurst_eq]
      refine ⟨rfl, rfl, rfl, rfl, fun i hi => ?_⟩
      exact (look_put_other _ _ _ _ (Ne.symm hi)).trans (look_put_other _ _ _ _ (Ne.symm hi))
    obtain ⟨harb, hsup, hattn, hwafer, hsites⟩ := hrest
    have hentry : a.mapEntryOf k = s.mapEntryOf k := by rw [State.mapEntryOf, hasite]; rfl
    have hmem : (z.withdrawBurst k).mem = s.mem := z.withdrawBurst_mem k
    obtain ⟨hrecord, hmap, hkept, hframe⟩ := hfrom
    generalize z.endSite k .thermal = t at hexec hrecord hmap hkept hframe
    have htsite : ∀ i, t.site i = a.site i := fun i => by rw [hframe]; rfl
    have hslot := fun x hx => s.slot_outside_record_and_map h.slot f k (j := x) hx
    refine ⟨t, _, ?_, ?_, hrecord, (htsite k).trans hasite, ?_, fun x hx hlow => ?_, ?_, fun x hx hx' hx'' => ?_, rfl, ?_, ?_,
      fun i hi => (htsite i).trans (hsites i hi), ?_, ?_⟩
    · rw [hexec, State.settle_of_waiting_site hj hended (k := k)]
      rw [hframe, haended]
    · refine State.endedAs_of_site ((htsite k).trans hasite) ?_ ?_ ?_
      · rw [hframe, hpool]
        exact look_put_same _ _ _
      · rw [hframe]
        show look a.arbiter.requests k = none
        rw [harb, State.withdrawBurst_request]
      · rw [hframe]
        exact look_put_same _ _ _
    · rw [hframe]
      exact hpool
    · obtain ⟨hout, hoff⟩ := hslot (0x20 + x) (by omega)
      rw [hkept _ (by omega) (by rw [hentry, Nat.add_assoc]; exact hoff)]
      exact State.read_keyReturned hx hlow
    · intro hon
      rw [← hentry]
      exact hmap (by rw [hasite]; exact hon)
    · rw [hkept x hx (by rw [hentry]; exact hx''), ha, State.read_keyReturned_other hx', hmem]
    · rw [hframe]
      exact harb.trans (by rw [State.withdrawBurst_eq])
    · rw [hframe]
      exact hsup.trans (by rw [State.withdrawBurst_eq]; rfl)
    · rw [hframe]
      exact hattn
    · rw [hframe]
      exact hwafer
  · set w := put s.pool.waiting k none with hw
    obtain ⟨⟨j', len⟩, hnext⟩ : ∃ r, Pool.nextWaiting { s.pool with waiting := w } = some r := by
      rw [← Option.ne_none_iff_exists', Ne, Pool.nextWaiting_eq_none_iff, not_forall]
      exact ⟨i, by rwa [hw, look_put_other _ _ _ _ (Ne.symm hi)]⟩
    have hpool := z.keyReturned_pool k .thermal h
    rw [← ha] at hpool
    set p : Pool := { a.pool with redraw := [] } with hp
    have hcount : 1 ≤ p.loadedCount := by
      rw [hp, hpool]
      exact Nat.le_add_left 1 _
    -- the end with the waiting site served
    have hserved : z.endSite k .thermal
        = ((a.drawSlot j' h.slot p).fileEnd k .thermal .returned h.serial).takeKeyGrant (a.grantOf j' len h.slot) := by
      rw [State.endSite, State.endSiteWith_returns_served (o := .thermal) hzrun hzkey nofun hzpulsed hw hnext hredraw hdry ha]
      rfl
    -- the end with no site waiting, and the draw after it
    set e := a.fileEnd k .thermal .returned h.serial with he
    have heframe : e = { a with mem := e.mem, sched := { a.sched with ended := put a.sched.ended k true } } := State.fileEnd_frame haf
    have hepool : e.pool = a.pool := by rw [heframe]
    obtain ⟨heq, hreads⟩ := State.fileEnd_drawSlot (j := j') (o := .thermal) haf (hcode a hapulsed) h.slot hcount .returned h.serial
    rw [← he] at heq hreads
    have halone : State.endSite k .thermal { z with pool := { z.pool with waiting := Vector.replicate 16 none } }
        = e.onPool fun q => { q with waiting := put (Vector.replicate 16 none) k none } := by
      rw [State.endSite, State.endSiteWith_returns_alone
        (s := { z with pool := { z.pool with waiting := Vector.replicate 16 none } }) (o := .thermal) (h := h) hzrun hzkey nofun hzpulsed
        (fun l _ => look_replicate _ l), he, ← State.fileEnd_onPool haf]
      rw [ha, State.keyReturned_eq, State.keyReturned_eq, State.withdrawBurst_eq, State.withdrawBurst_eq]
      generalize h.buffer.take 32 = bs
      rfl
    have hback : ∀ x : State, x.pool.waiting = w → ∀ y, { (x.onPool fun q => { q with waiting := y }) with
        pool := { (x.onPool fun q => { q with waiting := y }).pool with waiting := w } } = x := by
      intro x hx y
      rw [← hx]
      rfl
    have hdraw : exec .keyDraw e = .next ((e.drawSlot j' h.slot p).takeKeyGrant (e.grantOf j' len h.slot)) := by
      have hchoose : e.pool.choose = some (h.slot, p) := by
        rw [hepool, hp, hpool, Pool.choose, show z.pool.redraw = [] from hredraw]
        rfl
      have hwaits : e.pool.nextWaiting = some (j', len) := by
        rw [hepool, hpool, ← hnext]
        rfl
      show execKeyDraw e = _
      simp only [execKeyDraw, hwaits, State.draw, hchoose, State.grantOf]
    have hgrant : e.grantOf j' len h.slot = a.grantOf j' len h.slot := by
      refine State.grantOf_congr (fun x hx => ?_) j' len
      obtain ⟨hout, hoff⟩ := a.slot_outside_record_and_map h.slot f k hx
      exact State.fileEnd_read_other haf (hcode a hapulsed) (.inr hout) hoff
    have hending : ∀ t : State, t.sched.ended = put s.sched.ended k true → t.settle = t := fun t ht =>
      State.settle_of_waiting_site hj hended ht
    have hsettle : (z.endSite k .thermal).settle = z.endSite k .thermal := hending _ (by
      rw [hserved, (State.takeKeyGrant_supplyWork _ _).sched_eq, State.fileEnd_frame (by rw [State.drawSlot_sched]; exact haf),
        State.drawSlot_sched, haended])
    refine ⟨_, _, (e.drawSlot j' h.slot p).takeKeyGrant (a.grantOf j' len h.slot), hexecs _, ?_, hexec, ?_, fun x => ?_⟩
    · rw [halone, State.settle_of_waiting_site hj hended (k := k), hback e (by rw [hepool, hpool]), hdraw, hgrant]
      rw [heframe, State.onPool_sched, haended]
    · rw [hsettle, hserved, heq, State.takeKeyGrant_mem]
    · rw [hsettle, hserved, (State.takeKeyGrant_supplyWork _ _).mem_eq, (State.takeKeyGrant_supplyWork _ _).mem_eq]
      exact hreads x

end Sys2Proof.Machine

/-!
PROOF. A start of the head of the post list, site by site (R35, R100, R103, R109, R110, R141, R142): O35.
-/

namespace Sys2Proof.Machine

/-- A fold over sites that each come once: what holds before the first and is kept by each turn holds after the last. -/
theorem foldl_sites_induction {α : Type} {act : α → SiteNo → α} {holds : List SiteNo → α → Prop} {a : α} (hstart : holds [] a)
    (hturn : ∀ done k b, k ∉ done → holds done b → holds (done ++ [k]) (act b k)) (l : List SiteNo) (hl : l.Nodup) :
    holds l (l.foldl act a) := by
  induction l using List.reverseRecOn with
  | nil => exact hstart
  | append_singleton l k ih =>
    rw [List.foldl_append]
    obtain ⟨hnodup, -, hdisjoint⟩ := List.nodup_append.1 hl
    exact hturn l k _ (fun hk => hdisjoint k hk k List.mem_cons_self rfl) (ih hnodup)

/-! ### What a start hands to one site -/

section Decision

variable (t : State) (f : FrameNo) (r : Recipe) (k : SiteNo)

/-- The start skips site k (R142). -/
def State.skipsAtStart : Bool := t.skipTest f r k != .none

/-- The start finds the shutdown latch of a site that runs set: the site ends THERMAL at once (R103). -/
def State.latchedAtStart : Bool := t.skipTest f r k == .none && (t.site k).monitor.shutLatch

/-- Site k ends at the start, skipped or THERMAL. -/
def State.endsAtStart : Bool := t.skipsAtStart f r k || t.latchedAtStart f r k

/-- Site k at its entry to CONTACT (R35). -/
def State.contactSite : Site := Site.enterContact r t.lotTag t.supply.pump (t.dieX f r k) (t.dieY f r k) (t.site k)

/-- Site k as the start leaves it (R35, R103, R142). -/
def State.handedSite : Site :=
  if t.skipsAtStart f r k then
    { t.site k with seq := { (t.site k).seq with
        state := .ended, dieX := t.dieX f r k, dieY := t.dieY f r k, skip := t.skipTest f r k, outcome := some .skipped } }
  else if t.latchedAtStart f r k then (t.contactSite f r k).asEnded .thermal
  else t.contactSite f r k

/-- The 38 bytes that a site which ends at the start writes into its record. -/
def State.handedBytes : List Byte :=
  recordBytes k (t.handedSite f r k) t.workingRecipe (if t.skipsAtStart f r k then .skipped else .thermal) .none 0

end Decision

/-- u differs from t in exchange memory, the sites and the sites ended alone. -/
def State.SitesWork (t u : State) : Prop := u = { t with mem := u.mem, sites := u.sites, sched := { t.sched with ended := u.sched.ended } }

theorem State.withdrawDraw_of_none {k : SiteNo} {s : State} (h : look s.pool.waiting k = none) : s.withdrawDraw k = s := by
  have hput : put s.pool.waiting k none = s.pool.waiting := by rw [← h, put_look]
  rw [State.withdrawDraw, State.onPool, hput]

section Turn

variable {t u : State} {f : FrameNo} {r : Recipe} {k : SiteNo}

/-- One turn of a start (R142, step 5). -/
theorem State.handSite_turn (hwork : t.SitesWork u) (hf : t.sched.running = some f) (hr : t.workingRecipe = r)
    (hsite : u.site k = t.site k) (hlot : u.lotTag = t.lotTag)
    (hlatched : t.latchedAtStart f r k = true → (t.site k).seq.key = none ∧ (t.site k).seq.pulsed = false
      ∧ look t.arbiter.requests k = none ∧ look t.pool.waiting k = none) :
    t.SitesWork (t.handSite f r k u) ∧ (t.handSite f r k u).sites = put u.sites k (t.handedSite f r k)
      ∧ (t.handSite f r k u).sched.ended
        = (if t.endsAtStart f r k then put u.sched.ended k true else u.sched.ended)
      ∧ ∀ a, Memory.read (t.handSite f r k u).mem a
        = if t.latchedAtStart f r k = true ∧ onMap (t.dieX f r k) (t.dieY f r k) = true
            ∧ a = mapBase + mapIndex (t.dieX f r k) (t.dieY f r k) then 5
          else if t.endsAtStart f r k = true ∧ siteRecordBase f k ≤ a ∧ a < siteRecordBase f k + 38 then
            (t.handedBytes f r k).getD (a - siteRecordBase f k) 0
          else Memory.read u.mem a := by
  have huf : u.sched.running = some f := by rw [hwork]; exact hf
  have hur : u.workingRecipe = r := by rw [hwork]; exact hr
  by_cases hskip : t.skipTest f r k = .none
  · have hno : t.skipsAtStart f r k = false := by simp [State.skipsAtStart, hskip]
    have hcontact : u.onSite k (Site.enterContact r u.lotTag u.supply.pump (t.dieX f r k) (t.dieY f r k))
        = { u with sites := put u.sites k (t.contactSite f r k) } := by
      rw [State.onSite, hsite, hlot, State.contactSite, show u.supply = t.supply by rw [hwork]]
    rw [State.handSite, if_pos hskip, State.runSite, hsite, hcontact]
    cases hlatch : (t.site k).monitor.shutLatch with
    | false =>
      have hrun : t.latchedAtStart f r k = false := by simp [State.latchedAtStart, hlatch]
      simp only [hno, hrun, State.handedSite, State.endsAtStart, Bool.or_self, Bool.false_eq_true, if_false, false_and, and_true, implies_true]
      rw [hwork]
      rfl
    | true =>
      have hends : t.latchedAtStart f r k = true := by simp [State.latchedAtStart, hlatch, hskip]
      obtain ⟨hkey, hpulsed, hreq, hwait⟩ := hlatched hends
      set z : State := { u with sites := put u.sites k (t.contactSite f r k) } with hz
      have hzsite : z.site k = t.contactSite f r k := look_put_same _ _ _
      have hzwait : z.withdrawDraw k = z := State.withdrawDraw_of_none (by rw [hz, hwork]; exact hwait)
      have hend := State.endSite_keyless (s := z) (k := k) .thermal (by rw [hzsite]; rfl) (by rw [hzsite]; exact hkey)
        (by rw [hz, hwork]; exact hreq)
      set e := z.onSite k fun x => x.asEnded .thermal with he
      have hesite : e.site k = t.handedSite f r k := by
        rw [he, State.onSite_site_same, hzsite, State.handedSite, hno, hends]
        rfl
      have hframe := State.fileEnd_frame (s := e) (k := k) (o := .thermal) (d := .none) (serial := 0) huf
      have hread := State.read_fileEnd (s := e) (k := k) (o := .thermal) (d := .none) (serial := 0) (code := 5) huf
        (by rw [he, State.onSite_site_same, hzsite]; show mapCodeOf .thermal (t.site k).seq.pulsed = _; rw [hpulsed]; rfl)
      have hdie : (t.handedSite f r k).seq.dieX = t.dieX f r k ∧ (t.handedSite f r k).seq.dieY = t.dieY f r k := by
        rw [State.handedSite, hno, hends]
        exact ⟨rfl, rfl⟩
      rw [hzwait, ← he] at hend
      rw [if_pos rfl, hend]
      refine ⟨?_, ?_, ?_, fun a => ?_⟩
      · rw [hframe, he, hz, hwork]
        rfl
      · rw [hframe, ← hesite, he, hz]
        show put (put u.sites k _) k _ = put u.sites k _
        rw [put_put, State.onSite_site_same, hzsite]
      · rw [hframe, State.endsAtStart, hends, Bool.or_true, if_pos rfl]
        rfl
      · have her : e.workingRecipe = t.workingRecipe := by rw [hr, ← hur]; rfl
        rw [hread, State.mapEntryOf, hesite, hdie.1, hdie.2, State.endsAtStart, hends, Bool.or_true, State.handedBytes, hno, her,
          show e.mem = u.mem from rfl]
        simp only [true_and, Bool.false_eq_true, if_false]
  · have hyes : t.skipsAtStart f r k = true := by simpa [State.skipsAtStart] using hskip
    have hno : t.latchedAtStart f r k = false := by simp [State.latchedAtStart, hskip]
    rw [State.handSite, if_neg hskip, State.skipSite]
    set z := u.onSeq k fun q => { q with
      state := .ended, dieX := t.dieX f r k, dieY := t.dieY f r k, skip := t.skipTest f r k, outcome := some .skipped } with hz
    have hzsite : z.site k = t.handedSite f r k := by
      rw [hz, State.onSeq_site_same, hsite, State.handedSite, hyes]
      rfl
    have hzr : z.workingRecipe = t.workingRecipe := by rw [hr, ← hur]; rfl
    have hbytes : recordBytes k (z.site k) z.workingRecipe .skipped .none 0 = t.handedBytes f r k := by
      rw [hzsite, hzr, State.handedBytes, hyes]
      rfl
    have hlen := length_recordBytes k (z.site k) z.workingRecipe .skipped .none 0
    rw [State.writeRecord_of_running (s := z) k .skipped .none 0 huf]
    rw [hbytes] at hlen ⊢
    have hzsites : z.sites = put u.sites k (t.handedSite f r k) := by
      rw [← hzsite, hz, State.onSeq_site_same]
      rfl
    generalize t.handedBytes f r k = bs at hlen ⊢
    refine ⟨?_, hzsites, ?_, fun a => ?_⟩
    · rw [hz, hwork]
      rfl
    · rw [State.endsAtStart, hyes]
      rfl
    · rw [State.report_mem, State.store_mem, Memory.read_writeBytes, hlen, State.endsAtStart, hyes, hno]
      simp only [Bool.true_or, true_and, Bool.false_eq_true, false_and, if_false]
      rfl

end Turn

/-! ### The whole start -/

/-- Where the sites of a list have been handed their decisions and no other has (R142, step 5). -/
structure State.HandedOver (t : State) (f : FrameNo) (r : Recipe) (done : List SiteNo) (u : State) : Prop where
  work : t.SitesWork u
  site : ∀ k, u.site k = if k ∈ done then t.handedSite f r k else t.site k
  ended : ∀ k, look u.sched.ended k = (look t.sched.ended k || (decide (k ∈ done) && t.endsAtStart f r k))
  record : ∀ k ∈ done, t.endsAtStart f r k = true → ∀ i < 38,
    Memory.read u.mem (siteRecordBase f k + i) = (t.handedBytes f r k).getD i 0
  map : ∀ k ∈ done, t.latchedAtStart f r k = true → onMap (t.dieX f r k) (t.dieY f r k) = true →
    Memory.read u.mem (mapBase + mapIndex (t.dieX f r k) (t.dieY f r k)) = 5
  memory : ∀ a, (∀ k ∈ done, t.endsAtStart f r k = true → a < siteRecordBase f k ∨ siteRecordBase f k + 38 ≤ a) →
    (∀ k ∈ done, t.latchedAtStart f r k = true → a ≠ mapBase + mapIndex (t.dieX f r k) (t.dieY f r k)) →
    Memory.read u.mem a = Memory.read t.mem a

/-- Records of two sites have no byte in common (R134). -/
theorem siteRecordBase_disjoint (f : FrameNo) {j k : SiteNo} (h : j ≠ k) :
    siteRecordBase f j + 38 ≤ siteRecordBase f k ∨ siteRecordBase f k + 38 ≤ siteRecordBase f j := by
  have : j.val ≠ k.val := fun hv => h (Fin.ext hv)
  unfold siteRecordBase
  omega

theorem State.HandedOver.turn {t u : State} {f : FrameNo} {r : Recipe} {done : List SiteNo} {k : SiteNo} (hf : t.sched.running = some f)
    (hr : t.workingRecipe = r)
    (hlatched : t.latchedAtStart f r k = true → (t.site k).seq.key = none ∧ (t.site k).seq.pulsed = false
      ∧ look t.arbiter.requests k = none ∧ look t.pool.waiting k = none)
    (hk : k ∉ done) (h : t.HandedOver f r done u) : t.HandedOver f r (done ++ [k]) (t.handSite f r k u) := by
  have hlow : ∀ j a, a < 0x800 → a < siteRecordBase f j ∧ a < mapBase := fun j a ha => by
    unfold siteRecordBase frameBase mapBase
    omega
  have hlot : u.lotTag = t.lotTag := by
    have hbyte : ∀ a, a < 0x800 → Memory.read u.mem a = Memory.read t.mem a := fun a ha =>
      h.memory a (fun j _ _ => .inl (hlow j a ha).1) fun j _ _ => by have := (hlow j a ha).2; omega
    exact Memory.read16_congr (hbyte _ (by decide)) (hbyte _ (by decide))
  obtain ⟨hwork, hsites, hended, hread⟩ := State.handSite_turn h.work hf hr (by rw [h.site, if_neg hk]) hlot hlatched
  have hrecord : ∀ j, siteRecordBase f j + 38 < mapBase := siteRecordBase_add_lt_mapBase f
  have hin : ∀ j, j ∈ done ++ [k] ↔ j ∈ done ∨ j = k := fun j => by simp
  refine ⟨hwork, fun j => ?_, fun j => ?_, fun j hj hends i hi => ?_, fun j hj hlatch hon => ?_, fun a hout hmap => ?_⟩
  · rw [State.site, hsites, look_put]
    by_cases hjk : k = j
    · rw [if_pos hjk, if_pos ((hin j).2 (.inr hjk.symm)), hjk]
    · rw [if_neg hjk, show look u.sites j = u.site j from rfl, h.site]
      simp only [hin, Ne.symm hjk, or_false]
  · rw [hended]
    by_cases hjk : j = k
    · subst hjk
      have hold := h.ended j
      cases hends : t.endsAtStart f r j <;> simp [hold, hends]
    · have hput : look (if t.endsAtStart f r k = true then put u.sched.ended k true else u.sched.ended) j = look u.sched.ended j := by
        split
        · exact look_put_other _ _ _ _ (Ne.symm hjk)
        · rfl
      rw [hput, h.ended]
      simp only [hin, hjk, or_false]
  · have hmapBase := hrecord j
    rw [hread, if_neg (fun hc => by omega)]
    by_cases hjk : j = k
    · subst hjk
      rw [if_pos ⟨hends, by omega, by omega⟩, Nat.add_sub_cancel_left]
    · have := siteRecordBase_disjoint f hjk
      rw [if_neg (fun hc => by omega)]
      exact h.record j (((hin j).1 hj).resolve_right hjk) hends i hi
  · have hmapBase := hrecord k
    rw [hread]
    split
    · rfl
    · rename_i hnot
      rw [if_neg (fun hc => by omega)]
      refine h.map j (((hin j).1 hj).resolve_right fun hjk => hnot ?_) hlatch hon
      subst hjk
      exact ⟨hlatch, hon, rfl⟩
  · rw [hread, if_neg (fun hc => hmap k ((hin k).2 (.inr rfl)) hc.1 hc.2.2), if_neg (fun hc => ?_)]
    · exact h.memory a (fun j hj => hout j ((hin j).2 (.inl hj))) fun j hj => hmap j ((hin j).2 (.inl hj))
    · have := hout k ((hin k).2 (.inr rfl)) hc.1
      omega

/-! ### What the parameters of a start do (R81, R82, R100) -/

/-- A monitor judges its last reading against the thresholds of the frame (R100). -/
theorem Monitor.loadThresholds_eq (r : Recipe) (m : Monitor) : m.loadThresholds r = { m with
    warnAt := r.thermalWarn, shutAt := r.thermalShutdown
    warnLive := match m.temperature with
      | none => m.warnLive
      | some t => decide ((r.thermalWarn : Int) ≤ t) || (m.warnLive && decide ((r.thermalWarn : Int) - 10 ≤ t))
    shutLatch := match m.temperature with
      | none => m.shutLatch
      | some t => decide ((r.thermalShutdown : Int) ≤ t) || (m.shutLatch && decide ((r.thermalShutdown : Int) - 10 ≤ t)) } := by
  unfold Monitor.loadThresholds
  cases m.temperature with
  | none => rfl
  | some t => simp only [thermalTest_eq]

/-- The state in which a start hands the sites their decisions (R142, steps 1 and 2). -/
theorem State.loadFrame_eq {s : State} {f : FrameNo} {r : Recipe} (rest : List FrameNo) (hr : look s.sched.recipes f = some r) :
    s.loadFrame f rest = { s with
      sched := { s.sched with
        postList := rest, running := some f, stop := .none, ended := Vector.replicate 16 false
        frames := put s.sched.frames f .running }
      supply := s.supply.frameStart r
      sites := Vector.ofFn fun k => { s.site k with monitor := (s.site k).monitor.loadThresholds r }
      pool := { s.pool with watermark := r.poolWatermark } } := by
  have hrecipe : State.workingRecipe (State.setFrame f .running { s with sched := { s.sched with
      postList := rest, running := some f, stop := .none, ended := Vector.replicate 16 false } }) = r := by
    show (look s.sched.recipes f).getD zeroRecipe = r
    rw [hr]
    rfl
  rw [State.loadFrame, hrecipe]
  rfl

/-- A changed level sends the pump to RAMP, unless it is OFF or in HOLD or off pending is set (R82, R90). -/
theorem Supply.changeLevel_eq (level : Nat) (p : Supply) : p.changeLevel level =
    if p.level = level ∨ p.pump = .off ∨ p.pump = .hold ∨ p.offPending = true then { p with level := level }
    else { p with level := level }.toRamp := by
  unfold Supply.changeLevel
  by_cases heq : p.level = level
  · rw [if_pos heq, if_pos (.inl heq), ← heq]
  · rw [if_neg heq]
    cases hp : p.pump with
    | off | hold => simp [← hp]
    | ramp | ready | idleLow | wake => simp only [heq, false_or, reduceCtorEq]

/-- The parameters in force after a start, and a pump that the level sends to RAMP or leaves (R81, R82, R90). -/
theorem Supply.frameStart_eq (r : Recipe) (p : Supply) : p.frameStart r =
    if p.level = r.pumpLevel ∨ p.pump = .off ∨ p.pump = .hold ∨ p.offPending = true then
      { p.loadParams r.supplyParams with level := r.pumpLevel }
    else { p.loadParams r.supplyParams with level := r.pumpLevel }.toRamp :=
  Supply.changeLevel_eq r.pumpLevel (p.loadParams r.supplyParams)

/-- A start does not move the pump into or out of HOLD (R82). -/
theorem Supply.frameStart_hold (r : Recipe) (p : Supply) : ((p.frameStart r).pump == .hold) = (p.pump == .hold) := by
  rw [Supply.frameStart_eq]
  split
  · rfl
  · rename_i h
    have : p.pump ≠ .hold := fun hp => h (.inr (.inr (.inl hp)))
    rw [beq_eq_false_iff_ne.2 this]
    rfl

/-- The five skip tests in their order (R142). -/
theorem State.skipTest_eq (s : State) (f : FrameNo) (r : Recipe) (k : SiteNo) : s.skipTest f r k =
    if s.enabled f k = false then .notEnabled
    else if onMap (s.dieX f r k) (s.dieY f r k) = false then .offMap
    else if s.mapCode (s.dieX f r k) (s.dieY f r k) = 2 then .mapKeyed
    else if s.mapCode (s.dieX f r k) (s.dieY f r k) = 3 ∨ s.mapCode (s.dieX f r k) (s.dieY f r k) = 4 then .mapDamaged
    else if s.mapCode (s.dieX f r k) (s.dieY f r k) = 0 ∨ s.mapCode (s.dieX f r k) (s.dieY f r k) = 5 then .none
    else .mapMark := by
  simp only [State.skipTest, Bool.not_eq_true']

/-- A site that is not skipped stands on the map (R142). -/
theorem State.onMap_of_skipTest {s : State} {f : FrameNo} {r : Recipe} {k : SiteNo} (h : s.skipTest f r k = .none) :
    onMap (s.dieX f r k) (s.dieY f r k) = true := by
  rw [State.skipTest_eq] at h
  by_cases hen : s.enabled f k = false
  · rw [if_pos hen] at h
    cases h
  · rw [if_neg hen] at h
    by_contra hon
    rw [if_pos (by simpa using hon)] at h
    cases h

/-- What a start hands a site that it skips, one that ends THERMAL at once, and one that begins to sample. -/
theorem State.handedSite_cases (t : State) (f : FrameNo) (r : Recipe) (k : SiteNo) :
    (t.skipTest f r k ≠ .none → t.handedSite f r k = { t.site k with seq := { (t.site k).seq with
        state := .ended, dieX := t.dieX f r k, dieY := t.dieY f r k, skip := t.skipTest f r k, outcome := some .skipped } })
      ∧ (t.skipTest f r k = .none → (t.site k).monitor.shutLatch = true →
        t.handedSite f r k = (t.contactSite f r k).asEnded .thermal)
      ∧ (t.skipTest f r k = .none → (t.site k).monitor.shutLatch = false → t.handedSite f r k = t.contactSite f r k) := by
  refine ⟨fun hskip => ?_, fun hrun hlatch => ?_, fun hrun hlatch => ?_⟩
  · simp [State.handedSite, State.skipsAtStart, hskip]
  · simp [State.handedSite, State.skipsAtStart, State.latchedAtStart, hrun, hlatch]
  · simp [State.handedSite, State.skipsAtStart, State.latchedAtStart, hrun, hlatch]

/-- A start is the hand-over of its decisions to all sixteen sites (R142). -/
theorem State.startFrame_handedOver {s t : State} {f : FrameNo} {r : Recipe} {rest : List FrameNo} (ht : t = s.loadFrame f rest)
    (hr : look s.sched.recipes f = some r)
    (hlatched : ∀ k, t.latchedAtStart f r k = true → (t.site k).seq.key = none ∧ (t.site k).seq.pulsed = false
      ∧ look t.arbiter.requests k = none ∧ look t.pool.waiting k = none) :
    t.HandedOver f r allSites (s.startFrame f rest) := by
  have hload := State.loadFrame_eq rest hr
  have hf : t.sched.running = some f := by rw [ht, hload]
  have hrecipe : t.workingRecipe = r := by
    rw [ht, hload]
    show (look s.sched.recipes f).getD zeroRecipe = r
    rw [hr]
    rfl
  have hfold : s.startFrame f rest = allSites.foldl (fun u k => t.handSite f r k u) t := by
    rw [State.startFrame, ← ht, hrecipe]
  rw [hfold]
  refine foldl_sites_induction ?_ (fun done k b hk h => h.turn hf hrecipe (hlatched k) hk) allSites (List.nodup_finRange 16)
  exact {
    work := rfl
    site := fun k => by simp
    ended := fun k => by simp
    record := fun k hk => absurd hk (by simp)
    map := fun k hk => absurd hk (by simp)
    memory := fun _ _ _ => rfl }

/-- Settles O35: the loaded parameters, the hand-over site by site, and the hand-back that may follow at once. -/
theorem frameStartHandsEachSiteItsDecision : Obligations.FrameStartHandsEachSiteItsDecision := by
  intro f rest r s why warn latch hrun hnone hlist hr hwarn hlatch hwhy hclean
  set t := s.loadFrame f rest with ht
  have hload := State.loadFrame_eq rest hr
  rw [← ht] at hload
  -- the decisions, as the loaded state makes them
  have htsite : ∀ k, t.site k = { s.site k with monitor := { (s.site k).monitor with
      warnAt := r.thermalWarn, shutAt := r.thermalShutdown, warnLive := warn k, shutLatch := latch k } } := fun k => by
    rw [hwarn, hlatch, hload]
    refine (look_ofFn _ k).trans ?_
    rw [Monitor.loadThresholds_eq] <;> rfl
  have htest : ∀ k, t.skipTest f r k = why k := fun k => by
    rw [hwhy, hload, State.skipTest_eq]
    rfl
  have hskips : ∀ k, t.skipsAtStart f r k = (why k != .none) := fun k => by rw [State.skipsAtStart, htest]
  have hlatched : ∀ k, t.latchedAtStart f r k = (why k == .none && latch k) := fun k => by
    rw [State.latchedAtStart, htest, htsite]
  have hends : ∀ k, t.endsAtStart f r k = (why k != .none || latch k) := fun k => by
    rw [State.endsAtStart, hskips, hlatched]
    cases why k <;> cases latch k <;> rfl
  have hover := State.startFrame_handedOver ht hr fun k hk => by
    rw [hlatched, Bool.and_eq_true, beq_iff_eq] at hk
    rw [htsite, hload]
    exact hclean k hk.1 hk.2
  set u := s.startFrame f rest with hu
  obtain ⟨hwork, hsite, hended, hrecord, hmap, hmemory⟩ := hover
  have husite : ∀ k, u.site k = t.handedSite f r k := fun k => by rw [hsite, if_pos (mem_allSites k)]
  have huended : ∀ k, look u.sched.ended k = (why k != .none || latch k) := fun k => by
    rw [hended, hends, hload]
    simp
  have hcases : ∀ k, _ := fun k => t.handedSite_cases f r k
  simp only [htest] at hcases
  have hexec : exec .frameStart s = .next u.settle := by
    show Host.Outcome.next s.startIfDue.settle = _
    rw [State.startIfDue_of_head hrun hnone hlist]
  have hback : exec .handBack u = .next u.settle := rfl
  have husched : u.sched = { t.sched with ended := u.sched.ended } := by rw [hwork]
  have htsched : t.sched = { s.sched with
      postList := rest, running := some f, stop := .none, ended := Vector.replicate 16 false
      frames := put s.sched.frames f .running } := by rw [hload]
  have hrest : u.pool = t.pool ∧ u.supply = t.supply ∧ u.attn = t.attn ∧ u.wafer = t.wafer ∧ u.run = t.run ∧ u.arbiter = t.arbiter := by
    rw [hwork]
    exact ⟨rfl, rfl, rfl, rfl, rfl, rfl⟩
  obtain ⟨hupool, husupply, huattn, huwafer, hurun, huarb⟩ := hrest
  have htrest : t.pool = { s.pool with watermark := r.poolWatermark } ∧ t.supply = s.supply.frameStart r ∧ t.attn = s.attn
      ∧ t.wafer = s.wafer ∧ t.run = s.run ∧ t.arbiter = s.arbiter ∧ t.mem = s.mem := by
    rw [hload]
    exact ⟨rfl, rfl, rfl, rfl, rfl, rfl, rfl⟩
  obtain ⟨htpool, htsupply, htattn, htwafer, htrun, htarb, htmem⟩ := htrest
  have hdie : ∀ k, t.dieX f r k = s.originX f + look r.dx k ∧ t.dieY f r k = s.originY f + look r.dy k := fun k => by
    rw [hload]
    exact ⟨rfl, rfl⟩
  have hentry : ∀ k, u.mapEntryOf k = mapBase + mapIndex (t.dieX f r k) (t.dieY f r k) := fun k => by
    obtain ⟨hskip, hlate, hcontact⟩ := hcases k
    rw [State.mapEntryOf, husite]
    by_cases hw : why k = .none
    · cases hl : (t.site k).monitor.shutLatch with
      | true => rw [hlate hw hl]; rfl
      | false => rw [hcontact hw hl]; rfl
    · rw [hskip hw]
  have hlatchOf : ∀ k, (t.site k).monitor.shutLatch = latch k := fun k => by rw [htsite]
  have hlatchedSite : ∀ k, why k = .none → latch k = true → u.site k = (t.contactSite f r k).asEnded .thermal := fun k hw hl => by
    rw [husite]
    exact (hcases k).2.1 hw ((hlatchOf k).trans hl)
  have hcontactSite : ∀ k, why k = .none → latch k = false → u.site k = t.contactSite f r k := fun k hw hl => by
    rw [husite]
    exact (hcases k).2.2 hw ((hlatchOf k).trans hl)
  have hskippedSite : ∀ k, why k ≠ .none → u.site k = { t.site k with seq := { (t.site k).seq with
      state := .ended, dieX := t.dieX f r k, dieY := t.dieY f r k, skip := why k, outcome := some .skipped } } := fun k hw => by
    rw [husite]
    exact (hcases k).1 hw
  have hrecordOf : ∀ k o, (why k ≠ .none ∨ latch k = true) → (if t.skipsAtStart f r k = true then .skipped else .thermal) = o →
      u.RecordShows f k o Disposition.none.code 0 := fun k o hk ho => by
    refine State.recordShows_of_read fun i hi => ?_
    have hyes : t.endsAtStart f r k = true := by
      rw [hends]
      obtain hk | hk := hk <;> simp [hk]
    have hurecipe : u.workingRecipe = t.workingRecipe := by rw [hwork]; rfl
    rw [hrecord k (mem_allSites k) hyes i hi, State.handedBytes, husite, hurecipe, ho]
  refine ⟨u, hexec.trans hback.symm, fun ⟨k, hw, hl⟩ => ?_, ?_, ?_, ?_, ?_, fun g hg => ?_, ?_, huended, fun k => ?_, fun k hw => ?_,
    fun k hw hl => ?_, fun k hw hl => ?_, fun k hw => ?_, fun a hout hoff => ?_, hupool.trans htpool, ?_, ?_, ?_, ?_, ?_, fun hstay => ?_,
    fun hmove => ?_, huattn.trans htattn, huwafer.trans htwafer, hurun.trans htrun, huarb.trans htarb, fun hall hempty => ?_⟩
  · rw [hexec, State.settle_of_not_ended (k := k)]
    rw [huended, hw, hl]
    rfl
  · rw [State.frameState, husched, htsched]
    exact look_put_same _ _ _
  · rw [husched, htsched]
  · rw [husched, htsched]
  · rw [husched, htsched]
  · rw [State.frameState, husched, htsched]
    exact look_put_other _ _ _ _ (Ne.symm hg)
  · rw [husched, htsched]
  · obtain ⟨hx, hy⟩ := hdie k
    by_cases hw : why k = .none
    · cases hl : latch k with
      | true =>
        rw [hlatchedSite k hw hl, State.contactSite, htsite, hx, hy, hl]
        exact ⟨rfl, rfl, hw.symm, rfl, rfl, rfl, rfl, rfl⟩
      | false =>
        rw [hcontactSite k hw hl, State.contactSite, htsite, hx, hy, hl]
        exact ⟨rfl, rfl, hw.symm, rfl, rfl, rfl, rfl, rfl⟩
    · rw [hskippedSite k hw, htsite, hx, hy]
      exact ⟨rfl, rfl, rfl, rfl, rfl, rfl, rfl, rfl⟩
  · have hlot : t.lotTag = s.lotTag := by rw [State.lotTag, htmem]; rfl
    have hhold : (t.supply.pump == .hold) = (s.supply.pump == .hold) := by rw [htsupply, Supply.frameStart_hold]
    cases hl : latch k with
    | true =>
      rw [hlatchedSite k hw hl, State.contactSite, htsite, hlot]
      exact ⟨rfl, rfl, rfl, rfl, by rw [← hhold]; rfl⟩
    | false =>
      rw [hcontactSite k hw hl, State.contactSite, htsite, hlot]
      exact ⟨rfl, rfl, rfl, rfl, by rw [← hhold]; rfl⟩
  · rw [hcontactSite k hw hl]
    exact ⟨rfl, rfl, rfl⟩
  · obtain ⟨-, -, hreq, hwait⟩ := hclean k hw hl
    have hno : t.skipsAtStart f r k = false := by rw [hskips, hw]; rfl
    have hsite := hlatchedSite k hw hl
    refine ⟨State.endedAs_of_site hsite ?_ ?_ ?_, by rw [hsite]; rfl, by rw [hsite, State.contactSite, htsite]; rfl,
      hrecordOf k .thermal (.inr hl) (by rw [hno]; rfl), ?_⟩
    · rw [hupool, htpool]
      exact hwait
    · rw [huarb, htarb]
      exact hreq
    · rw [huended, hl, Bool.or_true]
    · rw [hentry]
      exact hmap k (mem_allSites k) (by rw [hlatched, hw, hl]; rfl) (State.onMap_of_skipTest ((htest k).trans hw))
  · have hyes : t.skipsAtStart f r k = true := by rw [hskips]; simpa using hw
    refine ⟨by rw [hskippedSite k hw], by rw [hskippedSite k hw], hrecordOf k .skipped (.inl hw) (by rw [hyes]; rfl)⟩
  · rw [← htmem]
    refine hmemory a (fun k _ hk => hout k ?_) fun k _ hk => ?_
    · rw [hends, Bool.or_eq_true, bne_iff_ne] at hk
      exact hk
    · rw [hlatched, Bool.and_eq_true, beq_iff_eq] at hk
      rw [← hentry]
      exact hoff k hk.1 hk.2
  · rw [husupply, htsupply, Supply.frameStart_eq]
    split <;> exact ⟨rfl, rfl, rfl, rfl, rfl, rfl⟩
  · rw [husupply, htsupply, Supply.frameStart_eq]
    split <;> rfl
  · rw [husupply, htsupply, Supply.frameStart_eq]
    split <;> rfl
  · rw [husupply, htsupply, Supply.frameStart_eq]
    split <;> rfl
  · rw [husupply, htsupply, Supply.frameStart_eq]
    split <;> rfl
  · rw [husupply, htsupply, Supply.frameStart_eq, if_pos hstay]
    refine ⟨rfl, rfl, rfl, rfl, ?_⟩
    show (match s.supply.idleTimer with | none => none | some _ => if r.idleTime = 0 then none else some (r.idleTime * 1000)) = _
    cases s.supply.idleTimer <;> simp
  · rw [husupply, htsupply, Supply.frameStart_eq, if_neg hmove]
    exact ⟨rfl, rfl, rfl, rfl⟩
  · have huf : u.sched.running = some f := by rw [husched, htsched]
    have hstop : u.sched.stop = .none := by rw [husched, htsched]
    have hnil : u.sched.postList = [] := by rw [husched, htsched]; exact hempty
    have hreported : ∀ k, look u.sched.ended k = true := fun k => by
      rw [huended, Bool.or_eq_true, bne_iff_ne]
      exact .inl (hall k)
    obtain ⟨z, hz, hstate, hrunning, -, -, hcount, -, -, -, hkind, -, -, -, hidle, hopen, hclosing, hzpool, hzsupply, -, -⟩ :=
      (handBackEndsTheFrame f u huf).1 hreported (.inl hnil)
    have hzattn : z.attn.getLsbD 0 = true := by
      by_cases hw : u.wafer = .closing
      · obtain ⟨-, hattn, -⟩ := hclosing hw hnil
        rw [hattn, BitVec.getLsbD_or]
        simp
      · obtain ⟨-, hattn, -⟩ := hopen (.inl hw)
        rw [hattn, BitVec.getLsbD_or]
        simp
    refine ⟨z, (hexec.trans hback.symm).trans hz, hstate, hrunning, BitVec.eq_of_toNat_eq ?_, ?_, hzattn, fun k => ?_, hzsupply, hzpool⟩
    · rw [hkind, hstop]
      rfl
    · rw [hcount, husched, htsched]
    · obtain ⟨hseq, -⟩ := hidle k
      rw [hseq]
      rfl

end Sys2Proof.Machine

/-!
PROOF. What the end of a site can change at all: `State.EndWork`, one lemma for each operation on the way (R51 to R58, R121 to R129).
-/

namespace Sys2Proof.Machine

/-- A site's own work that may end it: it writes into the site records of the running frame, the slots and the map alone, raises no cause but
POOL_LOW, and leaves the high mark and the hold count. -/
structure State.EndWork (s t : State) : Prop where
  work : s.SiteWork t
  memory : ∀ a, (∀ f, s.sched.running = some f → a < frameBase f + 0x400 ∨ frameBase f + 0x800 ≤ a) →
    (a < 0x4000 ∨ (0x8000 ≤ a ∧ a < 0xC000) ∨ 0x10000 ≤ a) → Memory.read t.mem a = Memory.read s.mem a
  attn : ∀ i, i ≠ 5 → t.attn.getLsbD i = s.attn.getLsbD i
  highMark : t.pool.highMark = s.pool.highMark
  holdCount : t.supply.holdCount = s.supply.holdCount

theorem State.EndWork.refl (s : State) : s.EndWork s := ⟨.refl s, fun _ _ _ => rfl, fun _ _ => rfl, rfl, rfl⟩

theorem State.EndWork.running {s t : State} (h : s.EndWork t) : t.sched.running = s.sched.running := by
  obtain ⟨-, -, hrunning, -⟩ := h.work.sched_kept
  exact hrunning

theorem State.EndWork.trans {s t u : State} (h : s.EndWork t) (h' : t.EndWork u) : s.EndWork u where
  work := h.work.trans h'.work
  memory := fun a hf ha => (h'.memory a (by rw [h.running]; exact hf) ha).trans (h.memory a hf ha)
  attn := fun i hi => (h'.attn i hi).trans (h.attn i hi)
  highMark := h'.highMark.trans h.highMark
  holdCount := h'.holdCount.trans h.holdCount

/-- Work of the supply unit, the arbiter and the sites that counts no hold. -/
theorem State.SupplyWork.endWork {s t : State} (h : s.SupplyWork t) (hcount : t.supply.holdCount = s.supply.holdCount) : s.EndWork t := by
  obtain ⟨p, a, xs, rfl⟩ := h
  exact ⟨⟨_, _, _, _, _, _, _, rfl⟩, fun _ _ _ => rfl, fun _ _ => rfl, rfl, hcount⟩

/-- Bytes stored in the slots. -/
theorem State.store_endWork_of_slot {i : SlotNo} {o : Nat} {bs : List Byte} (h : o + bs.length ≤ 0x40) (s : State) :
    s.EndWork (s.store (slotBase i + o) bs) where
  work := State.store_siteWork _ _ s
  memory := fun a _ ha => Memory.read_writeBytes_outside _ _ (by
    have := i.isLt
    unfold slotBase
    omega)
  attn := fun _ _ => rfl
  highMark := rfl
  holdCount := rfl

theorem State.onPool_endWork {g : Pool → Pool} (s : State) (h : (g s.pool).highMark = s.pool.highMark) : s.EndWork (s.onPool g) where
  work := State.onPool_siteWork g s
  memory := fun _ _ _ => rfl
  attn := fun _ _ => rfl
  highMark := h
  holdCount := rfl

theorem State.onSite_endWork (k : SiteNo) (g : Site → Site) (s : State) : s.EndWork (s.onSite k g) :=
  (State.onSite_supplyWork k g s).endWork rfl

theorem poolLow_bit (x : BitVec 11) {i : Nat} (hi : i ≠ 5) : (x ||| Cause.poolLow.mask).getLsbD i = x.getLsbD i := by
  have hmask : Cause.poolLow.mask.getLsbD i = false := by
    rw [Cause.mask, BitVec.getLsbD_shiftLeft, BitVec.getLsbD_one, show Cause.poolLow.bit = 5 from rfl]
    simp only [Bool.and_eq_false_iff, decide_eq_false_iff_not, Bool.not_eq_false', decide_eq_true_eq]
    omega
  rw [BitVec.getLsbD_or, hmask, Bool.or_false]

/-! ### Draws and settlements -/

theorem State.lowerLoaded_endWork (s : State) : s.EndWork s.lowerLoaded := by
  have hpool := s.onPool_endWork (g := fun p => { p with loadedCount := p.loadedCount - 1 }) rfl
  unfold State.lowerLoaded
  dsimp only
  split
  · exact ⟨State.SiteWork.trans hpool.work (State.raise_siteWork _ _), fun _ _ _ => rfl, fun i hi => poolLow_bit _ hi, rfl, rfl⟩
  · exact hpool

theorem State.drawSlot_endWork (k : SiteNo) (i : SlotNo) {p : Pool} (s : State) (h : p.highMark = s.pool.highMark) :
    s.EndWork (s.drawSlot k i p) := by
  unfold State.drawSlot
  have hlen : 0x20 + (List.replicate 32 (0 : Byte)).length ≤ 0x40 := by rw [List.length_replicate]
  generalize List.replicate 32 (0 : Byte) = zeros at hlen ⊢
  have hpool := s.onPool_endWork (g := fun _ => { p with
    slots := put p.slots i .drawn, waiting := put p.waiting k none, draws := sat16 (p.draws + 1) }) h
  exact (hpool.trans (State.store_endWork_of_slot hlen _)).trans (State.lowerLoaded_endWork _)

theorem Pool.choose_highMark {p q : Pool} {i : SlotNo} (h : p.choose = some (i, q)) : q.highMark = p.highMark := by
  unfold Pool.choose at h
  split at h
  · cases h
    rfl
  · split at h
    · cases h
      rfl
    · cases h

theorem drawTurn_endWork (acc : State × List KeyGrant) (k : SiteNo) : acc.1.EndWork (drawTurn acc k).1 := by
  unfold drawTurn
  split
  · exact .refl _
  · unfold State.draw
    cases hchoose : acc.1.pool.choose with
    | none => exact .refl _
    | some c => exact State.drawSlot_endWork _ _ _ (Pool.choose_highMark (i := c.1) hchoose)

theorem State.evaluateDraws_endWork (s : State) : s.EndWork s.evaluateDraws.1 := by
  suffices h : ∀ (l : List SiteNo) (acc : State × List KeyGrant), acc.1.EndWork (l.foldl drawTurn acc).1 from h _ (s, [])
  intro l
  induction l with
  | nil => exact fun acc => .refl _
  | cons k l ih => exact fun acc => .trans (drawTurn_endWork acc k) (ih _)

theorem State.spendSlot_endWork (k : SiteNo) (i : SlotNo) (bound : Bool) (s : State) : s.EndWork (s.spendSlot k i bound) where
  work := ⟨s.attn, _, _, s.supply, s.arbiter, s.sites, s.sched.ended, rfl⟩
  memory := fun a _ ha => State.read_dispositionMem_other (s := s) k i (by
    have := i.isLt
    unfold slotBase
    omega)
  attn := fun _ _ => rfl
  highMark := by cases bound <;> rfl
  holdCount := rfl

theorem State.returnSlot_endWork (i : SlotNo) (buffer : List Byte) (s : State) : s.EndWork (s.returnSlot i buffer) := by
  unfold State.returnSlot
  have hlen : 0x20 + (buffer.take 32).length ≤ 0x40 := by
    have := List.length_take_le 32 buffer
    omega
  generalize buffer.take 32 = bs at hlen ⊢
  exact (s.onPool_endWork (g := fun p => { p with
    slots := put p.slots i .loaded, redraw := p.redraw ++ [i], loadedCount := p.loadedCount + 1, returned := sat16 (p.returned + 1) })
    rfl).trans (State.store_endWork_of_slot hlen _)

theorem State.settleKey_endWork (k : SiteNo) (o : SiteOutcome) (s : State) : s.EndWork (s.settleKey k o).1 := by
  unfold State.settleKey
  split
  · exact .refl s
  · split
    · rw [State.bindSlot_eq]
      exact State.spendSlot_endWork _ _ _ _
    · split
      · rw [State.voidSlot_eq]
        exact State.spendSlot_endWork _ _ _ _
      · dsimp only
        exact (State.returnSlot_endWork _ _ s).trans (State.evaluateDraws_endWork _)

/-! ### Record, map entry, report -/

theorem State.writeRecord_endWork (k : SiteNo) (o : SiteOutcome) (d : Disposition) (serial : Word) (s : State) :
    s.EndWork (s.writeRecord k o d serial) := by
  unfold State.writeRecord
  split
  · rename_i f hf
    have hlen := length_recordBytes k (s.site k) s.workingRecipe o d serial
    generalize recordBytes k (s.site k) s.workingRecipe o d serial = bs at hlen ⊢
    refine ⟨State.store_siteWork (siteRecordBase f k) bs s, fun a ha _ => ?_, fun _ _ => rfl, rfl, rfl⟩
    have hframe := ha f hf
    have hk := k.isLt
    rw [State.store_mem]
    exact Memory.read_writeBytes_outside s.mem bs (by
      rw [hlen]
      unfold siteRecordBase
      omega)
  · exact .refl s

theorem mapIndex_lt {x y : Int} (h : onMap x y = true) : mapIndex x y < 0x4000 := by
  simp only [onMap, Bool.and_eq_true, decide_eq_true_eq] at h
  unfold mapIndex
  omega

theorem State.writeMap_endWork (k : SiteNo) (o : SiteOutcome) (s : State) : s.EndWork (s.writeMap k o) := by
  refine ⟨State.writeMap_siteWork k o s, fun a _ ha => ?_, fun _ _ => ?_, ?_, ?_⟩
  · cases hcode : mapCodeOf o (s.site k).seq.pulsed with
    | none => simp only [State.writeMap, hcode]
    | some code =>
      rw [State.read_writeMap hcode, if_neg]
      rintro ⟨hon, rfl⟩
      have := mapIndex_lt hon
      unfold State.mapEntryOf mapBase at ha
      omega
  · rw [State.writeMap_frame]
  · rw [State.writeMap_frame]
  · rw [State.writeMap_frame]

theorem State.report_endWork (k : SiteNo) (s : State) : s.EndWork (s.report k) :=
  ⟨State.report_siteWork k s, fun _ _ _ => rfl, fun _ _ => rfl, rfl, rfl⟩

theorem State.endActions_endWork (k : SiteNo) (o : SiteOutcome) (s : State) : s.EndWork (s.endActions k o).1 := by
  rw [State.endActions_fst]
  exact .trans (.trans (.trans (.trans (State.settleKey_endWork k o s) (State.onSite_endWork k _ _)) (State.writeRecord_endWork _ _ _ _ _))
    (State.writeMap_endWork _ _ _)) (State.report_endWork _ _)

/-! ### Requests and grants -/

theorem State.idleIfQuiet_holdCount (s : State) : s.idleIfQuiet.holdCount = s.supply.holdCount := by
  unfold State.idleIfQuiet
  split <;> rfl

theorem State.withdrawBurst_endWork (k : SiteNo) (s : State) : s.EndWork (s.withdrawBurst k) := by
  refine (State.withdrawBurst_supplyWork k s).endWork ?_
  rw [State.withdrawBurst_eq]
  dsimp only
  split
  · rfl
  · rw [State.idleIfQuiet_holdCount]

theorem Supply.onRequest_holdCount (run : Bool) (p : Supply) : (p.onRequest run).holdCount = p.holdCount := by
  unfold Supply.onRequest
  repeat' split
  all_goals rfl

theorem State.completeOffPending_holdCount (s : State) : s.completeOffPending.supply.holdCount = s.supply.holdCount := by
  unfold State.completeOffPending
  split <;> rfl

theorem State.evaluate_supply (s : State) : s.evaluate.supply = s.supply := by
  obtain ⟨a, xs, h⟩ := s.evaluate_frame
  rw [h]

theorem State.idle_holdCount (s : State) : s.startIdleIfQuiet.supply.holdCount = s.supply.holdCount := by
  rw [State.startIdleIfQuiet_eq]
  exact s.idleIfQuiet_holdCount

theorem State.release_holdCount (k : SiteNo) (s : State) : (s.release k).supply.holdCount = s.supply.holdCount := by
  unfold State.release
  split
  · rfl
  · rw [State.idle_holdCount, State.evaluate_supply, State.lowerInUse, State.completeOffPending_holdCount]
    show s.evaluate.supply.holdCount = _
    rw [State.evaluate_supply]

theorem State.beginRow_endWork (k : SiteNo) (row : Row) (s : State) : s.EndWork (s.beginRow k row) := by
  refine (State.beginRow_supplyWork k row s).endWork ?_
  cases hrow : firstBurnRow s.workingRecipe.keyLength (s.site k).seq.plan row with
  | none =>
    rw [State.beginRow_of_none hrow]
    rfl
  | some e =>
    rw [State.beginRow_of_some hrow, State.beginAttempt_eq, State.requestBurst_supply, Supply.onRequest_holdCount]
    rfl

theorem State.takeKeyGrant_endWork (g : KeyGrant) (s : State) : s.EndWork (s.takeKeyGrant g) := by
  rw [State.takeKeyGrant_eq]
  exact (State.onSite_endWork _ _ s).trans (State.beginRow_endWork _ _ _)

theorem State.deliver_endWork (gs : List KeyGrant) (s : State) : s.EndWork (s.deliver gs) := by
  unfold State.deliver
  induction gs generalizing s with
  | nil => exact .refl s
  | cons g gs ih => exact (State.takeKeyGrant_endWork g s).trans (ih _)

theorem State.truncatePulse_endWork (k : SiteNo) (s : State) : s.EndWork (s.truncatePulse k) :=
  ((State.onSite_endWork k _ s).trans (State.onSite_endWork k _ _)).trans
    ((State.release_supplyWork k _).endWork (State.release_holdCount k _))

/-! ### Ends, stops and resets of a site -/

theorem State.endSiteWith_endWork (k : SiteNo) (o : SiteOutcome) (s : State) : s.EndWork (s.endSiteWith k o).1 := by
  unfold State.endSiteWith
  split
  · exact (((s.onPool_endWork (g := fun p => { p with waiting := put p.waiting k none }) rfl).trans
      (State.withdrawBurst_endWork k _)).trans (State.onSite_endWork k _ _)).trans (State.endActions_endWork k o _)
  · exact .refl s

theorem State.endSite_endWork (k : SiteNo) (o : SiteOutcome) (s : State) : s.EndWork (s.endSite k o) :=
  (State.endSiteWith_endWork k o s).trans (State.deliver_endWork _ _)

theorem State.takeHard_endWork (k : SiteNo) (s : State) : s.EndWork (s.takeHard k) := by
  unfold State.takeHard
  dsimp only
  split
  · split
    · exact (State.onSite_endWork k _ s).trans (State.endSite_endWork _ _ _)
    · exact State.onSite_endWork k _ s
  · exact .refl s

theorem State.takeSoft_endWork (k : SiteNo) (s : State) : s.EndWork (s.takeSoft k) := by
  unfold State.takeSoft
  dsimp only
  split
  · split
    · exact (State.onSite_endWork k _ s).trans (State.endSite_endWork _ _ _)
    · exact State.onSite_endWork k _ s
  · exact .refl s

theorem State.takeReset_endWork (k : SiteNo) (s : State) : s.EndWork (s.takeReset k) := by
  unfold State.takeReset
  split
  · refine .trans ?_ (State.endSite_endWork _ _ _)
    split
    · exact State.truncatePulse_endWork k s
    · exact State.onSite_endWork k (fun x => { x with port := { x.port with op := none } }) s
  · exact .refl s

theorem State.foldl_endWork {act : SiteNo → State → State} (h : ∀ k s, State.EndWork s (act k s)) (l : List SiteNo) (s : State) :
    s.EndWork (l.foldl (fun t k => act k t) s) := by
  induction l generalizing s with
  | nil => exact .refl s
  | cons k l ih => exact (h k s).trans (ih _)

theorem State.handSite_endWork (f : FrameNo) (r : Recipe) (at_ : State) (k : SiteNo) (s : State) : s.EndWork (State.handSite f r at_ k s) := by
  unfold State.handSite
  split
  · unfold State.runSite
    dsimp only
    split
    · exact (State.onSite_endWork k _ s).trans (State.endSite_endWork _ _ _)
    · exact State.onSite_endWork k _ s
  · exact ((State.onSite_endWork k _ s).trans (State.writeRecord_endWork _ _ _ _ _)).trans (State.report_endWork _ _)

/-! ### What the frames that follow leave of a frame that is done -/

/-- Frame f neither runs nor waits. -/
def State.Aside (s : State) (f : FrameNo) : Prop := s.sched.running ≠ some f ∧ f ∉ s.sched.postList

/-- Frame f is aside before and after; its state and its header are as they were. -/
structure State.KeepsAside (s t : State) (f : FrameNo) : Prop where
  aside : t.Aside f
  state : t.frameState f = s.frameState f
  header : ∀ a, frameBase f ≤ a → a < frameBase f + 0x400 → Memory.read t.mem a = Memory.read s.mem a

theorem State.KeepsAside.refl {s : State} {f : FrameNo} (h : s.Aside f) : s.KeepsAside s f := ⟨h, rfl, fun _ _ _ => rfl⟩

theorem State.KeepsAside.trans {s t u : State} {f : FrameNo} (h : s.KeepsAside t f) (h' : t.KeepsAside u f) : s.KeepsAside u f :=
  ⟨h'.aside, h'.state.trans h.state, fun a hlo hhi => (h'.header a hlo hhi).trans (h.header a hlo hhi)⟩

/-- No byte of the header of one frame is in the record of another (R163). -/
theorem frameBase_disjoint {f g : FrameNo} (h : g ≠ f) {a : Nat} (hlo : frameBase f ≤ a) (hhi : a < frameBase f + 0x400) :
    a < frameBase g ∨ frameBase g + 0x800 ≤ a := by
  have : g.val ≠ f.val := fun hv => h (Fin.ext hv)
  unfold frameBase at *
  omega

theorem State.startFrame_keepsAside {s : State} {f g : FrameNo} {rest : List FrameNo} (hlist : s.sched.postList = g :: rest)
    (h : s.Aside f) : s.KeepsAside (s.startFrame g rest) f := by
  obtain ⟨-, hwaits⟩ := h
  rw [hlist, List.mem_cons, not_or] at hwaits
  obtain ⟨hfg, hrest⟩ := hwaits
  have hwork : (s.loadFrame g rest).EndWork (s.startFrame g rest) :=
    State.foldl_endWork (act := State.handSite g (s.loadFrame g rest).workingRecipe (s.loadFrame g rest)) (State.handSite_endWork g _ _) allSites _
  obtain ⟨hposts, hrunning, hframes, -⟩ := s.startFrame_sched g rest
  refine ⟨⟨?_, ?_⟩, ?_, fun a hlo hhi => ?_⟩
  · rw [hrunning]
    exact fun hg => hfg (Option.some.inj hg).symm
  · rw [hposts]
    exact hrest
  · rw [State.frameState, hframes]
    exact look_put_other _ _ _ _ (Ne.symm hfg)
  · have hle := frameBase_le f
    refine (hwork.memory a (fun g' hg' => ?_) (by omega)).trans rfl
    obtain rfl : g = g' := Option.some.inj hg'
    have := frameBase_disjoint (Ne.symm hfg) hlo hhi
    omega

theorem State.startIfDue_keepsAside {s : State} {f : FrameNo} (h : s.Aside f) : s.KeepsAside s.startIfDue f := by
  unfold State.startIfDue
  split
  · rename_i g rest hnone hlist
    split
    · exact State.startFrame_keepsAside hlist h
    · exact .refl h
  · exact .refl h

theorem State.idleReport_keepsAside {s : State} {f : FrameNo} (h : s.Aside f) : s.KeepsAside s.idleReport f := by
  unfold State.idleReport
  split
  · have hle := le_frameBase f
    rw [State.completeClose_eq]
    exact ⟨h, rfl, fun a hlo hhi => State.read_closeMem_other s (.inr (.inr (by omega)))⟩
  · exact .refl h

theorem State.handBackFrame_keepsAside {s : State} {f g : FrameNo} (kind : Nat) (hg : s.sched.running = some g) (h : s.Aside f) :
    s.KeepsAside (s.handBackFrame g kind) f := by
  obtain ⟨hrunning, hwaits⟩ := h
  have hfg : g ≠ f := fun hgf => hrunning (hgf ▸ hg)
  have hle := le_frameBase f
  rw [State.handBackFrame_eq]
  refine ⟨⟨nofun, hwaits⟩, look_put_other _ _ _ _ hfg, fun a hlo hhi => ?_⟩
  have := frameBase_disjoint hfg hlo hhi
  exact State.read_handBackMem_other s g kind (by omega) (by omega) (by omega)

theorem State.afterHandBack_keepsAside {s : State} {f : FrameNo} (h : s.Aside f) : s.KeepsAside s.afterHandBack f := by
  unfold State.afterHandBack
  split
  · exact State.idleReport_keepsAside h
  · exact State.startIfDue_keepsAside h

theorem State.handBackIfDue_keepsAside {s : State} {f : FrameNo} (h : s.Aside f) : s.KeepsAside s.handBackIfDue f := by
  unfold State.handBackIfDue
  split
  · rename_i g hg
    split
    · have hback := State.handBackFrame_keepsAside s.sched.stop.completionKind hg h
      exact hback.trans (State.afterHandBack_keepsAside hback.aside)
    · exact .refl h
  · exact .refl h

theorem State.settleFrames_keepsAside (n : Nat) {s : State} {f : FrameNo} (h : s.Aside f) : s.KeepsAside (s.settleFrames n) f := by
  induction n generalizing s with
  | zero => exact .refl h
  | succ n ih =>
    rw [State.settleFrames]
    split
    · have hback := State.handBackIfDue_keepsAside h
      exact hback.trans (ih hback.aside)
    · exact .refl h

/-- A frame whose sites have all ended is DONE after the hand-back, whatever frames start and end after it: its completion kind is that of the
stop in force, and the rest of its header but the counts is as it was (R146). -/
theorem State.settle_ends_frame {s : State} {f : FrameNo} (hf : s.sched.running = some f) (hall : ∀ k, look s.sched.ended k = true)
    (hwaits : f ∉ s.sched.postList) :
    s.settle.frameState f = .done ∧ Memory.read s.settle.mem (frameBase f + 0x12) = nat8 s.sched.stop.completionKind
      ∧ ∀ a, frameBase f ≤ a → a < frameBase f + 0x12 → Memory.read s.settle.mem a = Memory.read s.mem a := by
  have hle := le_frameBase f
  set h := s.handBackFrame f s.sched.stop.completionKind with hh
  rw [State.settle_of_due hf hall, ← hh]
  have hheq := State.handBackFrame_eq f s.sched.stop.completionKind s
  rw [← hh] at hheq
  have haside : h.Aside f := by
    rw [hheq]
    exact ⟨nofun, hwaits⟩
  have hafter := State.afterHandBack_keepsAside haside
  obtain ⟨-, hstate, hheader⟩ := hafter.trans (State.settleFrames_keepsAside s.sched.postList.length hafter.aside)
  refine ⟨?_, ?_, fun a hlo hhi => ?_⟩
  · rw [hstate, hheq]
    exact look_put_same _ _ _
  · rw [hheader _ (by omega) (by omega), hheq]
    exact State.read_handBackMem_kind s f _
  · rw [hheader _ hlo (by omega), hheq]
    exact State.read_handBackMem_other s f _ (by omega) (by omega) (by omega)

end Sys2Proof.Machine

/-!
PROOF. The end of a site while no site waits and no request stands, as a soft reset leaves it (R52, R58, R91, R127, R132, R175).
-/

namespace Sys2Proof.Machine

/-! ### The settlement of a key while no site waits -/

/-- Neither a draw request nor a burst request stands. -/
def State.Quiet (s : State) : Prop := (∀ k, look s.pool.waiting k = none) ∧ ∀ k, look s.arbiter.requests k = none

/-- The disposition of the key of a site that ends unkeyed (R127). -/
def Site.keyFate (x : Site) : Disposition :=
  match x.seq.key with
  | none => .none
  | some _ => if x.seq.pulsed then .voided else .returned

/-- The settlement of the key of site k, as far as no site waits (R127 to R129). -/
def State.settledKey (s : State) (k : SiteNo) : State :=
  match (s.site k).seq.key with
  | none => s
  | some h => if (s.site k).seq.pulsed then s.spendSlot k h.slot false else s.returnSlot h.slot h.buffer

section SettledKey

variable {s : State} {k : SiteNo}

theorem State.settleKey_quiet {o : SiteOutcome} (ho : o ≠ .keyed) (hquiet : ∀ j, look s.pool.waiting j = none) :
    s.settleKey k o = (s.settledKey k, (s.site k).keyFate, []) := by
  unfold State.settleKey State.settledKey Site.keyFate
  cases (s.site k).seq.key with
  | none => rfl
  | some h =>
    dsimp only
    rw [if_neg ho]
    split
    · rw [State.voidSlot_eq]
    · rw [State.evaluateDraws_of_no_waiter]
      intro j
      rw [State.returnSlot_eq]
      exact hquiet j

/-- The settlement changes exchange memory and the pool. -/
theorem State.settledKey_frame : s.settledKey k = { s with mem := (s.settledKey k).mem, pool := (s.settledKey k).pool } := by
  unfold State.settledKey
  split
  · rfl
  · split
    · rfl
    · rw [State.returnSlot_eq]

theorem State.settledKey_waiting : (s.settledKey k).pool.waiting = s.pool.waiting := by
  unfold State.settledKey
  split
  · rfl
  · split
    · rfl
    · rw [State.returnSlot_eq]

/-- The tallies and the cursor that only draws, binds and loads move (R131). -/
theorem State.settledKey_pool_kept : (s.settledKey k).pool.draws = s.pool.draws ∧ (s.settledKey k).pool.bound = s.pool.bound
    ∧ (s.settledKey k).pool.refused = s.pool.refused ∧ (s.settledKey k).pool.cursor = s.pool.cursor
    ∧ s.pool.redraw <+: (s.settledKey k).pool.redraw := by
  unfold State.settledKey
  split
  · exact ⟨rfl, rfl, rfl, rfl, List.prefix_refl _⟩
  · split
    · exact ⟨rfl, rfl, rfl, rfl, List.prefix_refl _⟩
    · rw [State.returnSlot_eq]
      exact ⟨rfl, rfl, rfl, rfl, List.prefix_append _ _⟩

theorem State.settledKey_slot_other {i : SlotNo} (h : ∀ held, (s.site k).seq.key = some held → held.slot ≠ i) :
    (s.settledKey k).slotState i = s.slotState i := by
  unfold State.settledKey
  split
  · rfl
  · rename_i held hkey
    split
    · exact look_put_other _ _ _ _ (h held hkey)
    · rw [State.returnSlot_eq]
      exact look_put_other _ _ _ _ (h held hkey)

theorem State.settledKey_slot {held : KeyHeld} (hkey : (s.site k).seq.key = some held) :
    (s.settledKey k).slotState held.slot = if (s.site k).seq.pulsed then .voided else .loaded := by
  simp only [State.settledKey, hkey]
  split
  · exact look_put_same _ _ _
  · rw [State.returnSlot_eq]
    exact look_put_same _ _ _

/-- A settlement writes into the slot of the key alone. -/
theorem State.read_settledKey_other {a : Nat}
    (h : ∀ held, (s.site k).seq.key = some held → a < slotBase held.slot + 0x0C ∨ slotBase held.slot + 0x40 ≤ a) :
    Memory.read (s.settledKey k).mem a = Memory.read s.mem a := by
  unfold State.settledKey
  split
  · rfl
  · rename_i held hkey
    have := h held hkey
    split
    · exact State.read_dispositionMem_other (s := s) k held.slot (by omega)
    · rw [State.returnSlot_eq]
      exact Memory.read_writeBytes_outside _ _ (by rw [List.length_take]; omega)

/-- A settlement does not look at the supply unit, the arbiter and the rest of the sites. -/
theorem State.settledKey_congr {p : Supply} {a : Arbiter} {xs : Vector Site 16} (h : (s.site k).SettlesAlike (look xs k)) :
    State.settledKey { s with supply := p, arbiter := a, sites := xs } k = { s.settledKey k with supply := p, arbiter := a, sites := xs } := by
  obtain ⟨hkey, hpulsed, hprint, hx, hy⟩ := h
  have hsite : State.site { s with supply := p, arbiter := a, sites := xs } k = look xs k := rfl
  have hmem : ∀ i, State.dispositionMem { s with supply := p, arbiter := a, sites := xs } k i = s.dispositionMem k i := fun i => by
    simp only [State.dispositionMem, State.dispositionBytes, hsite, hprint, hx, hy]
    rfl
  simp only [State.settledKey, hsite, hkey, hpulsed]
  cases (s.site k).seq.key with
  | none => rfl
  | some held =>
    dsimp only
    split
    · unfold State.spendSlot
      rw [hmem]
    · rw [State.returnSlot_eq, State.returnSlot_eq]

end SettledKey

/-! ### What a reset does at one site -/

/-- A site whose operation in flight a soft reset has truncated or abandoned (R58). -/
def Site.cutShort (x : Site) : Site :=
  { x with
    port := { x.port with op := none }
    monitor := if x.port.lineOn then { x.monitor with phase := .noPulse, limits := none, sample := none, truncated := true } else x.monitor }

/-- With no request waiting the release of a grant changes the supply unit and the arbiter alone, and no request arises. -/
theorem State.release_quiet {s : State} (h : ∀ k, look s.arbiter.requests k = none) (k : SiteNo) :
    ∃ p a, s.release k = { s with supply := p, arbiter := a } ∧ ∀ j, look a.requests j = none := by
  unfold State.release
  cases hg : look s.arbiter.grants k with
  | none => exact ⟨s.supply, s.arbiter, rfl, h⟩
  | some g =>
    dsimp only
    rw [State.evaluate_of_noRequest h, State.lowerInUse_eq, State.evaluate_of_noRequest (by exact h), State.startIdleIfQuiet_eq]
    exact ⟨_, _, rfl, h⟩

/-- The state in which a running site takes a soft reset has its operation cut short (R58). -/
theorem State.cutShort_of_reset {s : State} (h : ∀ k, look s.arbiter.requests k = none) (k : SiteNo) :
    ∃ p a, (if s.pulsing k then s.truncatePulse k else s.endOp k)
        = { s with supply := p, arbiter := a, sites := put s.sites k (s.site k).cutShort } ∧ ∀ j, look a.requests j = none := by
  cases hpulse : s.pulsing k with
  | false =>
    have hoff : (s.site k).port.lineOn = false := hpulse
    refine ⟨s.supply, s.arbiter, ?_, h⟩
    rw [if_neg (by decide), State.endOp_eq, State.onSite]
    simp only [Site.cutShort, hoff, Bool.false_eq_true, if_false]
  | true =>
    have hon : (s.site k).port.lineOn = true := hpulse
    obtain ⟨p, a, hrel, hnone⟩ := State.release_quiet (s := s.pulseDone k true) h k
    refine ⟨p, a, ?_, hnone⟩
    rw [if_pos rfl, State.truncatePulse_eq, hrel, State.pulseDone]
    simp only [Site.cutShort, hon, if_true, Bool.or_true]

/-- One site takes a soft reset while no request stands (R52, R58). -/
theorem State.takeReset_eq {s : State} {k : SiteNo} (hrun : (s.site k).seq.state.isRunning = true) (hquiet : s.Quiet) :
    ∃ p a, (∀ j, look a.requests j = none) ∧ s.takeReset k = State.fileEnd k .aborted (s.site k).keyFate (s.site k).seq.heldSerial
      { s.settledKey k with supply := p, arbiter := a, sites := put s.sites k ((s.site k).cutShort.asEnded .aborted) } := by
  obtain ⟨hwaiting, hrequests⟩ := hquiet
  obtain ⟨p, a, hcut, hnone⟩ := State.cutShort_of_reset hrequests k
  refine ⟨p, a, hnone, ?_⟩
  set x : State := { s with supply := p, arbiter := a, sites := put s.sites k (s.site k).cutShort } with hx
  have hxsite : x.site k = (s.site k).cutShort := look_put_same _ _ _
  have hsettled : x.settledKey k = { s.settledKey k with supply := p, arbiter := a, sites := put s.sites k (s.site k).cutShort } :=
    State.settledKey_congr (by rw [look_put_same]; exact ⟨rfl, rfl, rfl, rfl, rfl⟩)
  have hwait : x.withdrawDraw k = x := State.withdrawDraw_of_none (hwaiting k)
  rw [State.takeReset, if_pos hrun, hcut, State.endSite, State.endSiteWith_eq (by rw [hxsite]; exact hrun) (hnone k), hwait,
    State.settleKey_quiet (s := x) (o := .aborted) nofun hwaiting, hxsite, hsettled]
  simp only [State.deliver, List.foldl_nil, State.onSite]
  rw [show State.site { s.settledKey k with supply := p, arbiter := a, sites := put s.sites k (s.site k).cutShort } k
    = (s.site k).cutShort from look_put_same _ _ _, put_put]
  rfl

/-- Record, map code and report change exchange memory and the set of sites ended, with a frame running or not. -/
theorem State.fileEnd_kept (k : SiteNo) (o : SiteOutcome) (d : Disposition) (serial : Word) (s : State) :
    s.fileEnd k o d serial = { s with
      mem := (s.fileEnd k o d serial).mem, sched := { s.sched with ended := put s.sched.ended k true } } := by
  unfold State.fileEnd
  rw [State.writeMap_frame]
  cases hf : s.sched.running with
  | none =>
    rw [show s.writeRecord k o d serial = s by simp [State.writeRecord, hf]]
    rfl
  | some f =>
    rw [State.writeRecord_of_running k o d serial hf]
    generalize recordBytes k (s.site k) s.workingRecipe o d serial = bs
    rfl

/-- A site's reset raises no cause and leaves no request (R58, R132). -/
theorem State.takeReset_quiet {s : State} (h : s.Quiet) (k : SiteNo) : (s.takeReset k).Quiet ∧ (s.takeReset k).attn = s.attn := by
  cases hrun : (s.site k).seq.state.isRunning with
  | false => simp [State.takeReset, hrun, h]
  | true =>
    obtain ⟨p, a, hnone, heq⟩ := State.takeReset_eq hrun h
    rw [heq, State.fileEnd_kept]
    refine ⟨⟨fun j => ?_, hnone⟩, ?_⟩
    · show look (s.settledKey k).pool.waiting j = none
      rw [State.settledKey_waiting]
      exact h.1 j
    · show (s.settledKey k).attn = s.attn
      rw [State.settledKey_frame]

theorem State.foldl_takeReset_quiet (l : List SiteNo) {s : State} (h : s.Quiet) :
    (l.foldl (fun t k => t.takeReset k) s).Quiet ∧ (l.foldl (fun t k => t.takeReset k) s).attn = s.attn := by
  induction l generalizing s with
  | nil => exact ⟨h, rfl⟩
  | cons k l ih =>
    obtain ⟨hquiet, hattn⟩ := State.takeReset_quiet h k
    obtain ⟨hquiet', hattn'⟩ := ih hquiet
    exact ⟨hquiet', hattn'.trans hattn⟩

/-! ### The cancellation of the queued frames -/

theorem State.cancelFrames_eq (l : List FrameNo) (s : State) : l.foldl (fun t f => t.cancelFrame f) s = { s with
    attn := if l = [] then s.attn else s.attn ||| 0x001#11
    sched := { s.sched with
      frames := Vector.ofFn fun f => if f ∈ l then .cancelled else look s.sched.frames f
      postList := s.sched.postList.filter fun g => g ∉ l
      recipes := Vector.ofFn fun f => if f ∈ l then none else look s.sched.recipes f } } := by
  induction l generalizing s with
  | nil =>
    have hself : ∀ {α : Type} (v : Vector α 4), Vector.ofFn (fun f => look v f) = v := fun v => look_ext fun f => look_ofFn _ f
    simp [hself]
  | cons g l ih =>
    rw [List.foldl_cons, ih]
    have hattn : (if l = [] then (s.cancelFrame g).attn else (s.cancelFrame g).attn ||| 0x001#11) = s.attn ||| 0x001#11 := by
      show (if l = [] then s.attn ||| 0x001#11 else (s.attn ||| 0x001#11) ||| 0x001#11) = _
      rw [BitVec.or_assoc, BitVec.or_self, ite_self]
    have hlist : (s.cancelFrame g).sched.postList.filter (fun x => x ∉ l) = s.sched.postList.filter fun x => x ∉ g :: l := by
      show (s.sched.postList.filter fun x => x != g).filter _ = _
      rw [List.filter_filter]
      refine List.filter_congr fun x _ => ?_
      by_cases hx : x = g <;> simp [hx]
    have hfold : ∀ {α : Type} (v : Vector α 4) (x : α), (Vector.ofFn fun f => if f ∈ l then x else look (put v g x) f)
        = Vector.ofFn fun f => if f ∈ g :: l then x else look v f := fun v x => look_ext fun f => by
      rw [look_ofFn, look_ofFn, look_put]
      by_cases h : g = f
      · simp [h]
      · simp [h, Ne.symm h]
    rw [hattn, hlist, if_neg (by simp)]
    show { s with attn := _, sched := { s.sched with frames := _, postList := _, recipes := _ } } = _
    rw [← hfold, ← hfold]
    rfl

end Sys2Proof.Machine

/-!
PROOF. A soft reset as a whole: every block, and what it leaves in the site records, the map and the slots (R58, R91, R127, R132, R149, R156,
R175): O18 and O19.
-/

namespace Sys2Proof.Machine

/-- The state in which the sites take a soft reset: RUN and SOFT_RESET written, every request withdrawn, one choice made (R149, R175). -/
def State.resetStarts (s : State) : State := (State.withdrawAll { s with run := false, softReset := true }).chosen

/-- The sites that run, in the order in which they take a soft reset (log 4). -/
def State.resetOrder (s : State) : List SiteNo := (State.withdrawAll { s with run := false, softReset := true }).takingOrder

/-- The state after every site has taken a soft reset. -/
def State.sitesReset (s : State) : State := s.resetOrder.foldl (fun t k => t.takeReset k) s.resetStarts

theorem State.beginSoftReset_eq (s : State) :
    s.beginSoftReset = (s.sitesReset.resetFrame.sched.postList.foldl (fun t f => t.cancelFrame f) s.sitesReset.resetFrame).resetBlocks := rfl

theorem exec_softReset {v : Word} {s : State} (hinit : s.initialising = false) (hreset : s.softReset = false) (hv : v.getLsbD 1 = true) :
    exec (.softReset v) s = .next s.beginSoftReset := by
  show Host.Outcome.next (s.registerWrite 1 v) = _
  simp only [State.registerWrite, State.writeRunCtrl, hinit, hreset, asksSoftReset, hv, Bool.false_eq_true, if_false, if_true]

theorem State.resetStarts_quiet (s : State) : s.resetStarts.Quiet := ⟨fun _ => look_replicate _ _, fun _ => look_replicate _ _⟩

theorem State.mem_takingOrder (s : State) (k : SiteNo) : k ∈ s.takingOrder ↔ (s.site k).seq.state.isRunning = true := by
  rw [State.takingOrder, (orderSites_perm _ _).mem_iff, List.mem_filter]
  simp

theorem State.takingOrder_nodup (s : State) : s.takingOrder.Nodup :=
  (orderSites_perm _ _).nodup_iff.2 ((List.nodup_finRange 16).filter _)

/-- What the sites' resets leave of everything but the sites, the slots and the bytes they write. -/
theorem State.sitesReset_endWork (s : State) : s.resetStarts.EndWork s.sitesReset := State.foldl_endWork State.takeReset_endWork _ _

theorem State.sitesReset_attn (s : State) : s.sitesReset.attn = s.attn := (State.foldl_takeReset_quiet _ s.resetStarts_quiet).2

/-- The hand-back of the running frame, if there is one (R149). -/
theorem State.resetFrame_eq (s : State) : s.resetFrame = { s with
    mem := match s.sched.running with | none => s.mem | some f => s.handBackMem f 5
    attn := match s.sched.running with | none => s.attn | some _ => s.attn ||| 0x001#11
    sites := match s.sched.running with | none => s.sites | some _ => Vector.ofFn fun k => (s.site k).returnToIdle
    sched := match s.sched.running with
      | none => s.sched
      | some f => { s.sched with
        frames := put s.sched.frames f .done, running := none, recipes := put s.sched.recipes f none
        ended := Vector.replicate 16 false, framesEnded := sat16 (s.sched.framesEnded + 1) } } := by
  unfold State.resetFrame
  cases hf : s.sched.running with
  | none => rfl
  | some f =>
    dsimp only
    rw [State.handBackFrame_eq]
    rfl

/-- The state after a soft reset, from the state after the sites' resets. -/
theorem State.beginSoftReset_parts (s : State) : s.beginSoftReset = { s.sitesReset.resetFrame with
    attn := if s.sitesReset.resetFrame.sched.postList = [] then s.sitesReset.resetFrame.attn else s.sitesReset.resetFrame.attn ||| 0x001#11
    sched := { s.sitesReset.resetFrame.sched with
      frames := Vector.ofFn fun f => if f ∈ s.sitesReset.resetFrame.sched.postList then .cancelled
        else look s.sitesReset.resetFrame.sched.frames f
      postList := [], running := none, stop := .none, recipes := Vector.replicate 4 none, ended := Vector.replicate 16 false }
    pool := { s.sitesReset.resetFrame.pool with waiting := Vector.replicate 16 none, watermark := 0 }
    supply := s.sitesReset.resetFrame.supply.softReset
    arbiter := .reset
    sites := Vector.replicate 16 .reset } := by
  have hnil : ∀ l : List FrameNo, l.filter (fun g => g ∉ l) = [] := fun l => by simp
  rw [State.beginSoftReset_eq, State.cancelFrames_eq, hnil]
  rfl

/-- Settles O18: the frame handed back, the queue cancelled, every block at its reset values, and the bytes the sites may have written. -/
theorem softResetResetsEveryBlock : Obligations.SoftResetResetsEveryBlock := by
  intro v s hinit hreset hv ⟨_, hqueued, hrunningState, _, _⟩
  have hwork := s.sitesReset_endWork
  obtain ⟨hframes, hlist, hrunning, -, -, hseq, hcount⟩ := hwork.work.sched_kept
  obtain ⟨hrun, hsoft, hini, hen, hdropped, hwafer, -, -⟩ := hwork.work.kept
  have hattn := s.sitesReset_attn
  set z := s.sitesReset with hz
  have hrunning' : z.sched.running = s.sched.running := hrunning
  have hback := z.resetFrame_eq
  have hparts := s.beginSoftReset_parts
  rw [← hz] at hparts
  have hlist' : z.resetFrame.sched.postList = s.sched.postList := by
    rw [hback, ← show z.sched.postList = s.sched.postList from hlist]
    cases z.sched.running <;> rfl
  have hmem : s.beginSoftReset.mem = match s.sched.running with | none => z.mem | some f => z.handBackMem f 5 := by
    rw [hparts, hback, ← hrunning']
  refine ⟨_, exec_softReset hinit hreset hv, ?_⟩
  have hsched : s.beginSoftReset.sched = { z.resetFrame.sched with
      frames := Vector.ofFn fun f => if f ∈ s.sched.postList then .cancelled else look z.resetFrame.sched.frames f
      postList := [], running := none, stop := .none, recipes := Vector.replicate 4 none, ended := Vector.replicate 16 false } := by
    rw [hparts, hlist']
  have hbyte : ∀ a, (∀ f, s.sched.running = some f → a < frameBase f + 0x400 ∨ frameBase f + 0x800 ≤ a) →
      (a < 0x4000 ∨ (0x8000 ≤ a ∧ a < 0xC000) ∨ 0x10000 ≤ a) → Memory.read z.mem a = Memory.read s.mem a := hwork.memory
  refine ⟨by rw [hparts, hback]; exact hrun, by rw [hparts, hback]; exact hsoft, fun f => ?_, fun f hf => ?_, ?_, ?_, fun a hw hf ha => ?_,
    by rw [hsched], by rw [hsched], by rw [hsched], fun f => by rw [hsched]; exact look_replicate _ f,
    fun k => by rw [hparts]; exact look_replicate _ k, fun k => by rw [hparts]; exact look_replicate _ k, by rw [hparts], ?_, by rw [hparts],
    by rw [hparts, hback]; exact hwafer, ?_, ?_, by rw [hparts, hback]; exact hdropped, by rw [hparts, hback]; exact hen,
    by rw [hparts, hback]; exact hini⟩
  · rw [State.frameState, hsched]
    refine (look_ofFn _ f).trans ?_
    have hold : look z.sched.frames f = s.frameState f := by rw [hframes]; rfl
    simp only [hqueued f, hback, hrunning']
    by_cases hf : s.sched.running = some f
    · have hstate := (hrunningState f).1 hf
      rw [if_pos hf, if_neg (by rintro hq; rw [hq] at hstate; simp at hstate), hf]
      exact look_put_same _ _ _
    · rw [if_neg hf]
      split
      · rfl
      · rw [← hold]
        cases hr : s.sched.running with
        | none => rfl
        | some g => exact look_put_other _ _ _ _ fun hgf => hf (by rw [hr, hgf])
  · have hle := frameBase_le f
    have hlow := le_frameBase f
    have hmemf : s.beginSoftReset.mem = z.handBackMem f 5 := by rw [hmem, hf]
    obtain ⟨hcount1, hcount2⟩ := z.read32_handBackMem f 5
    have hwaferByte : ∀ a, a < 0x800 → Memory.read z.mem a = Memory.read s.mem a := fun a ha =>
      hbyte a (fun g _ => by have := le_frameBase g; omega) (by omega)
    have hrecord : ∀ k, Memory.read (z.handBackMem f 5) (siteRecordBase f k + 0x10) = Memory.read z.mem (siteRecordBase f k + 0x10) :=
      fun k => by
        have : frameBase f + 0x400 ≤ siteRecordBase f k := by
          unfold siteRecordBase
          omega
        exact State.read_handBackMem_other z f 5 (by omega) (by omega) (by omega)
    rw [hmemf]
    simp only [hrecord]
    refine ⟨State.read_handBackMem_kind z f 5, State.read_handBackMem_counts z f 5, ?_, ?_⟩
    · rw [hcount1, Memory.read32_congr fun j hj => hwaferByte _ (by omega)]
    · rw [hcount2, Memory.read32_congr fun j hj => hwaferByte _ (by omega), State.countDisposition_eq]
      rfl
  · rw [hsched, hback, hrunning']
    have hold : z.sched.framesEnded = s.sched.framesEnded := hcount
    cases hr : s.sched.running with
    | none => exact hold
    | some f => simp [hold, sat16]
  · rw [hparts, hlist', hback, hrunning']
    dsimp only
    rw [hattn]
    cases hr : s.sched.running with
    | none => simp
    | some f => simp [BitVec.or_assoc]
  · have hz := hbyte a (fun f hr => by have := hf f hr; omega) ha
    rw [hmem, ← hz]
    cases hr : s.sched.running with
    | none => rfl
    | some f =>
      have hframe := hf f hr
      have hcounts := hw.resolve_left (by rw [hr]; nofun)
      exact State.read_handBackMem_other z f 5 (by omega) (by omega) (by omega)
  · rw [hparts, hback]
    show Supply.softReset z.supply = _
    rw [Supply.softReset, hwork.holdCount]
    rfl
  · rw [hsched, hback, hrunning']
    cases s.sched.running <;> exact hseq
  · rw [hparts, hback]
    exact hwork.highMark

/-! ### The sites' resets one after the other -/

section ResetTurn

variable {u : State} {k : SiteNo}

/-- What the reset of one running site does to the sites and the pool, and to exchange memory while frame f runs (R52, R58, R127). -/
theorem State.takeReset_turn (hrun : (u.site k).seq.state.isRunning = true) (hquiet : u.Quiet) :
    (u.takeReset k).sites = put u.sites k ((u.site k).cutShort.asEnded .aborted) ∧ (u.takeReset k).pool = (u.settledKey k).pool
      ∧ ∀ f, u.sched.running = some f → ∀ a, Memory.read (u.takeReset k).mem a
        = if onMap (u.site k).seq.dieX (u.site k).seq.dieY = true ∧ a = u.mapEntryOf k then (if (u.site k).seq.pulsed then 4 else 5)
          else if siteRecordBase f k ≤ a ∧ a < siteRecordBase f k + 38 then
            (recordBytes k (u.site k).cutShort u.workingRecipe .aborted (u.site k).keyFate (u.site k).seq.heldSerial).getD
              (a - siteRecordBase f k) 0
          else Memory.read (u.settledKey k).mem a := by
  obtain ⟨p, x, -, heq⟩ := State.takeReset_eq hrun hquiet
  set b : State := { u.settledKey k with supply := p, arbiter := x, sites := put u.sites k ((u.site k).cutShort.asEnded .aborted) } with hb
  have hbsite : b.site k = (u.site k).cutShort.asEnded .aborted := look_put_same _ _ _
  have hsched : b.sched = u.sched := by
    show (u.settledKey k).sched = _
    rw [State.settledKey_frame]
  refine ⟨?_, ?_, fun f hf a => ?_⟩
  · rw [heq, State.fileEnd_kept]
  · rw [heq, State.fileEnd_kept]
  · have hbrecipe : b.workingRecipe = u.workingRecipe := by rw [State.workingRecipe, hsched]; rfl
    have hcode : mapCodeOf .aborted (b.site k).seq.pulsed = some (if (u.site k).seq.pulsed then 4 else 5) := by
      rw [hbsite]
      show mapCodeOf .aborted (u.site k).seq.pulsed = _
      cases (u.site k).seq.pulsed <;> rfl
    have hentry : b.mapEntryOf k = u.mapEntryOf k := by rw [State.mapEntryOf, hbsite]; rfl
    rw [heq, State.read_fileEnd (f := f) (by rw [hsched]; exact hf) hcode, hentry, hbsite, hbrecipe]
    rfl

end ResetTurn

/-- Where the sites of a list have taken a soft reset and no other has (R58, R127, R132, R156). -/
structure State.ResetTurns (z : State) (done : List SiteNo) (u : State) : Prop where
  quiet : u.Quiet
  work : z.SiteWork u
  site : ∀ k, k ∉ done → u.site k = z.site k
  slot : ∀ k ∈ done, ∀ h, (z.site k).seq.key = some h → u.slotState h.slot = if (z.site k).seq.pulsed then .voided else .loaded
  slotOther : ∀ i, (∀ k ∈ done, ∀ h, (z.site k).seq.key = some h → h.slot ≠ i) → u.slotState i = z.slotState i
  kept : u.pool.draws = z.pool.draws ∧ u.pool.bound = z.pool.bound ∧ u.pool.refused = z.pool.refused ∧ u.pool.cursor = z.pool.cursor
    ∧ z.pool.redraw <+: u.pool.redraw
  record : ∀ f, z.sched.running = some f → ∀ k ∈ done, ∀ i < 38, Memory.read u.mem (siteRecordBase f k + i)
    = (recordBytes k (z.site k).cutShort z.workingRecipe .aborted (z.site k).keyFate (z.site k).seq.heldSerial).getD i 0
  map : ∀ f, z.sched.running = some f → ∀ k ∈ done, onMap (z.site k).seq.dieX (z.site k).seq.dieY = true →
    (∀ j ∈ done, j ≠ k → z.mapEntryOf j ≠ z.mapEntryOf k) →
    Memory.read u.mem (z.mapEntryOf k) = if (z.site k).seq.pulsed then 4 else 5
  untouched : ∀ f, z.sched.running = some f → ∀ k, k ∉ done → ∀ a, siteRecordBase f k ≤ a → a < siteRecordBase f k + 0x40 →
    Memory.read u.mem a = Memory.read z.mem a

/-- The records of two sites, each with the bytes after it up to the next, have no byte in common (R134). -/
theorem siteRecordBase_apart (f : FrameNo) {j k : SiteNo} (h : j ≠ k) :
    siteRecordBase f j + 0x40 ≤ siteRecordBase f k ∨ siteRecordBase f k + 0x40 ≤ siteRecordBase f j := by
  have : j.val ≠ k.val := fun hv => h (Fin.ext hv)
  unfold siteRecordBase
  omega

/-- A settlement writes no byte of a record or of the map (R163). -/
theorem State.read_settledKey_outside_slots (u : State) (k : SiteNo) {a : Nat} (h : a < 0x4000 ∨ 0x8000 ≤ a) :
    Memory.read (u.settledKey k).mem a = Memory.read u.mem a :=
  State.read_settledKey_other fun held _ => by
    have := held.slot.isLt
    unfold slotBase
    omega

theorem siteRecordBase_lt (f : FrameNo) (k : SiteNo) : siteRecordBase f k + 0x40 ≤ 0x2800 := by
  unfold siteRecordBase frameBase
  omega

theorem State.ResetTurns.turn {z u : State} {done : List SiteNo} {k : SiteNo} (h : z.ResetTurns done u)
    (hrun : (z.site k).seq.state.isRunning = true) (hk : k ∉ done)
    (hslots : ∀ j ∈ done, ∀ x y, (z.site j).seq.key = some x → (z.site k).seq.key = some y → x.slot ≠ y.slot) :
    z.ResetTurns (done ++ [k]) (u.takeReset k) := by
  have hsite := h.site k hk
  have hin : ∀ j, j ∈ done ++ [k] ↔ j ∈ done ∨ j = k := fun j => by simp
  obtain ⟨hsites, hpool, hread⟩ := State.takeReset_turn (k := k) (by rw [hsite]; exact hrun) h.quiet
  have hrunning : u.sched.running = z.sched.running := by
    obtain ⟨-, -, hr, -⟩ := h.work.sched_kept
    exact hr
  have hentry : u.mapEntryOf k = z.mapEntryOf k := by rw [State.mapEntryOf, hsite]; rfl
  rw [hsite, hentry, h.work.workingRecipe] at hread
  obtain ⟨hdraws, hbound, hrefused, hcursor, hredraw⟩ := State.settledKey_pool_kept (s := u) (k := k)
  obtain ⟨hdraws', hbound', hrefused', hcursor', hredraw'⟩ := h.kept
  have hslot : ∀ i, (u.takeReset k).slotState i = (u.settledKey k).slotState i := fun i => by rw [State.slotState, hpool]; rfl
  have hrecordLow := siteRecordBase_lt
  have hmapHigh : ∀ j, 0xC000 ≤ z.mapEntryOf j := fun j => by
    unfold State.mapEntryOf mapBase
    omega
  refine ⟨(State.takeReset_quiet h.quiet k).1, h.work.trans (State.takeReset_siteWork k u), fun j hj => ?_, fun j hj x hx => ?_,
    fun i hi => ?_, ?_, fun f hf j hj i hi => ?_, fun f hf j hj hon hapart => ?_, fun f hf j hj a hlo hhi => ?_⟩
  · rw [hin, not_or] at hj
    rw [State.site, hsites, look_put_other _ _ _ _ (Ne.symm hj.2)]
    exact h.site j hj.1
  · rw [hslot]
    by_cases hjk : j = k
    · subst hjk
      rw [← hsite] at hx ⊢
      exact State.settledKey_slot hx
    · have hdone := ((hin j).1 hj).resolve_right hjk
      rw [State.settledKey_slot_other, h.slot j hdone x hx]
      intro y hy
      rw [hsite] at hy
      exact Ne.symm (hslots j hdone x y hx hy)
  · rw [hslot, State.settledKey_slot_other, h.slotOther i fun j hj x hx => hi j ((hin j).2 (.inl hj)) x hx]
    intro y hy
    rw [hsite] at hy
    exact hi k ((hin k).2 (.inr rfl)) y hy
  · rw [hpool]
    exact ⟨hdraws.trans hdraws', hbound.trans hbound', hrefused.trans hrefused', hcursor.trans hcursor', hredraw'.trans hredraw⟩
  · have := hrecordLow f j
    have := hmapHigh k
    rw [hread f (hrunning.trans hf), if_neg (fun hc => by omega)]
    by_cases hjk : j = k
    · subst hjk
      rw [if_pos (by omega), Nat.add_sub_cancel_left]
    · have := siteRecordBase_apart f hjk
      rw [if_neg (by omega), State.read_settledKey_outside_slots u k (by omega)]
      exact h.record f hf j (((hin j).1 hj).resolve_right hjk) i hi
  · have := hrecordLow f k
    have := hmapHigh j
    rw [hread f (hrunning.trans hf)]
    by_cases hjk : j = k
    · subst hjk
      rw [if_pos ⟨hon, rfl⟩]
    · have hdone := ((hin j).1 hj).resolve_right hjk
      rw [if_neg (fun hc => hapart k ((hin k).2 (.inr rfl)) (Ne.symm hjk) hc.2.symm), if_neg (by omega),
        State.read_settledKey_outside_slots u k (by omega)]
      exact h.map f hf j hdone hon fun i hi => hapart i ((hin i).2 (.inl hi))
  · rw [hin, not_or] at hj
    have := hrecordLow f j
    have := hmapHigh k
    have := siteRecordBase_apart f hj.2
    rw [hread f (hrunning.trans hf), if_neg (fun hc => by omega), if_neg (by omega), State.read_settledKey_outside_slots u k (by omega)]
    exact h.untouched f hf j hj.1 a hlo hhi

/-- What the resets of all running sites leave (R58, R175). -/
theorem State.sitesReset_turns {s : State} (hpool : s.PoolCoherent) : s.resetStarts.ResetTurns s.resetOrder s.sitesReset := by
  obtain ⟨-, -, -, -, hdistinct, -⟩ := hpool
  have hrun : ∀ k ∈ s.resetOrder, (s.resetStarts.site k).seq.state.isRunning = true := fun k hk =>
    (State.mem_takingOrder (State.withdrawAll { s with run := false, softReset := true }) k).1 hk
  have hstart : s.resetStarts.ResetTurns [] s.resetStarts :=
    { quiet := s.resetStarts_quiet
      work := .refl _
      site := fun _ _ => rfl
      slot := fun k hk => absurd hk (by simp)
      slotOther := fun _ _ => rfl
      kept := ⟨rfl, rfl, rfl, rfl, List.prefix_refl _⟩
      record := fun _ _ k hk => absurd hk (by simp)
      map := fun _ _ k hk => absurd hk (by simp)
      untouched := fun _ _ _ _ _ _ _ => rfl }
  have hnodup : s.resetOrder.Nodup := State.takingOrder_nodup _
  unfold State.sitesReset
  generalize s.resetOrder = l at hrun hnodup
  induction l using List.reverseRecOn with
  | nil => exact hstart
  | append_singleton l k ih =>
    obtain ⟨hl, -, hdisjoint⟩ := List.nodup_append.1 hnodup
    have hk : k ∉ l := fun hk => hdisjoint k hk k List.mem_cons_self rfl
    rw [List.foldl_append]
    refine (ih (fun j hj => hrun j (List.mem_append_left _ hj)) hl).turn (hrun k (by simp)) hk fun j hj x y hx hy => ?_
    exact hdistinct j k x y (fun hjk => hk (hjk ▸ hj)) hx hy

/-- The disposition and the serial that a site's record shows after a reset (R127). -/
theorem Site.keyFate_code (x : Site) : x.keyFate.code = match x.seq.key with | none => 0 | some _ => if x.seq.pulsed then 2 else 3 := by
  unfold Site.keyFate
  cases x.seq.key with
  | none => rfl
  | some h =>
    dsimp only
    split <;> rfl

/-- A record shows of an operation cut short no more than that a pulse was truncated (R134). -/
theorem recordBytes_cutShort (k : SiteNo) (x : Site) (r : Recipe) (o : SiteOutcome) (d : Disposition) (serial : Word) :
    recordBytes k x.cutShort r o d serial
      = recordBytes k { x with monitor := { x.monitor with truncated := x.monitor.truncated || x.port.lineOn } } r o d serial := by
  have hflags : latchedFlags x.cutShort
      = latchedFlags { x with monitor := { x.monitor with truncated := x.monitor.truncated || x.port.lineOn } } := by
    cases hon : x.port.lineOn with
    | false => simp only [latchedFlags, Site.cutShort, hon, Bool.or_false, Bool.false_eq_true, if_false]
    | true => simp only [latchedFlags, Site.cutShort, hon, Bool.or_true, if_true]
  simp only [recordBytes, hflags]
  rfl

/-- Settles O19: the resets of the running sites one after the other, and what the hand-back after them leaves of records, map and slots. -/
theorem softResetSettlesTheHeldKeys : Obligations.SoftResetSettlesTheHeldKeys := by
  intro v s hinit hreset hv hpool hholders
  have hturns := State.sitesReset_turns hpool
  have hin : ∀ k, k ∈ s.resetOrder ↔ (s.site k).seq.state.isRunning = true := fun k =>
    State.mem_takingOrder (State.withdrawAll { s with run := false, softReset := true }) k
  set z := s.sitesReset with hz
  obtain ⟨-, hwork, -, hslot, hslotOther, hkept, hrecord, hmap, huntouched⟩ := hturns
  have hrunning : z.sched.running = s.sched.running := by
    obtain ⟨-, -, hr, -⟩ := hwork.sched_kept
    exact hr
  have hback := z.resetFrame_eq
  have hparts := s.beginSoftReset_parts
  rw [← hz] at hparts
  have htpool : s.beginSoftReset.pool = { z.pool with waiting := Vector.replicate 16 none, watermark := 0 } := by rw [hparts, hback]
  have hstate : ∀ i, s.beginSoftReset.slotState i = z.slotState i := fun i => by
    rw [State.slotState, htpool]
    rfl
  refine ⟨_, exec_softReset hinit hreset hv, fun k h hkey => ?_, fun i hi => ?_, ?_, ?_, ?_, ?_, ?_, fun f k hf => ?_⟩
  · rw [hstate]
    exact hslot k ((hin k).2 (hholders k (by rw [hkey]; nofun))) h hkey
  · rw [hstate]
    exact hslotOther i fun k _ h hkey => hi k h hkey
  · rw [htpool]
    exact hkept.1
  · rw [htpool]
    exact hkept.2.1
  · rw [htpool]
    exact hkept.2.2.1
  · rw [htpool]
    exact hkept.2.2.2.1
  · rw [htpool]
    exact hkept.2.2.2.2
  · have hmem : s.beginSoftReset.mem = z.handBackMem f 5 := by rw [hparts, hback, hrunning, hf]
    have hlow := siteRecordBase_lt f k
    have hle := le_frameBase f
    have hbase : frameBase f + 0x400 ≤ siteRecordBase f k := by
      unfold siteRecordBase
      omega
    have hbyte : ∀ a, frameBase f + 0x400 ≤ a → Memory.read s.beginSoftReset.mem a = Memory.read z.mem a := fun a ha => by
      rw [hmem]
      exact State.read_handBackMem_other z f 5 (by omega) (by omega) (by omega)
    refine ⟨fun hrun => ⟨?_, fun hon hapart => ?_⟩, fun hidle a hlo hhi => ?_⟩
    · have hserial : (s.site k).seq.heldSerial = match (s.site k).seq.key with | none => 0 | some h => h.serial := by
        unfold Sequencer.heldSerial
        cases (s.site k).seq.key <;> rfl
      have hshows : State.RecordShows (State.onMonitor k (fun m => { m with truncated := m.truncated || (s.site k).port.lineOn })
          { s with mem := s.beginSoftReset.mem }) f k .aborted (s.site k).keyFate.code (s.site k).seq.heldSerial := by
        refine State.recordShows_of_read fun i hi => (hbyte _ (by omega)).trans ?_
        rw [hrecord f hf k ((hin k).2 hrun) i hi, recordBytes_cutShort, State.onMonitor, State.onSite_site_same]
        rfl
      rw [Site.keyFate_code, hserial] at hshows
      exact hshows
    · rw [hbyte _ (by unfold State.mapEntryOf mapBase; have := frameBase_le f; omega)]
      exact hmap f hf k ((hin k).2 hrun) hon fun j hj hjk => hapart j hjk ((hin j).1 hj)
    · rw [hbyte a (by omega)]
      exact huntouched f hf k (fun hk => by rw [(hin k).1 hk] at hidle; cases hidle) a hlo hhi

end Sys2Proof.Machine

/-!
PROOF. A key that is not all zero begins a row, and the end of one running site among others (R40, R43, R52, R121, R127, R128).
-/

namespace Sys2Proof.Machine

/-! ### A key that is not all zero has a row to burn -/

/-- A key buffer whose first 16 bytes are not all zero (R116, R123). -/
def KeyIsNonzero (key : List Byte) : Prop := ∃ j < 16, ∃ b, key[j]? = some b ∧ b ≠ 0

/-- Bit j of byte i of a key is bit 8i + j of the key (R4). -/
theorem keyBits_getElem? (key : List Byte) (i j : Nat) (hj : j < 8) : (keyBits key)[8 * i + j]? = key[i]?.bind fun b => (byteBits b)[j]? := by
  induction key generalizing i with
  | nil => rfl
  | cons b key ih =>
    have hlen : (byteBits b).length = 8 := rfl
    rw [keyBits, List.flatMap_cons]
    cases i with
    | zero => rw [List.getElem?_append_left (by omega)]; simp
    | succ i =>
      rw [List.getElem?_append_right (by omega), hlen, show 8 * (i + 1) + j - 8 = 8 * i + j by omega]
      exact (ih i).trans (by rw [List.getElem?_cons_succ])

theorem exists_byteBit {b : Byte} (h : b ≠ 0) : ∃ j < 8, (byteBits b)[j]? = some true := by
  revert b
  decide +kernel

/-- The row of a key byte that is not zero has a cell to blow (R2, R4). -/
theorem planImage_ne_zero_of_byte {key : List Byte} {i : Nat} {b : Byte} (hi : i < 16) (hb : key[i]? = some b) (hne : b ≠ 0) (len : KeyLength)
    (tag : BitVec 16) : planImage (rowPlan len key tag) (Fin.ofNat 19 (i / 2)) ≠ 0 := by
  obtain ⟨j, hj, hbit⟩ := exists_byteBit hne
  have hval : (Fin.ofNat 19 (i / 2)).val = i / 2 := Nat.mod_eq_of_lt (by omega)
  have hrow : (Fin.ofNat 19 (i / 2)).val < len.keyRows := by
    rw [hval]
    cases len <;> simp only [KeyLength.keyRows] <;> omega
  have hlock : Fin.ofNat 19 (i / 2) ≤ len.lockRow := by
    rw [Fin.le_def, hval]
    cases len <;> simp only [KeyLength.lockRow] <;> omega
  rw [planImage_rowPlan len key tag hlock, rowBits_keyRow key tag hrow, hval]
  have hindex : 16 * (i / 2) + (8 * (i % 2) + j) = 8 * i + j := by omega
  have hset : (keyRowBits key (i / 2)).getD (8 * (i % 2) + j) false = true := by
    rw [List.getD_eq_getElem?_getD, keyRowBits, List.getElem?_take_of_lt (by omega), List.getElem?_drop, hindex, keyBits_getElem? key i j hj,
      hb, Option.bind_some, hbit]
    rfl
  intro hzero
  have hcol := hasCol_rowImage_primaryCol (keyRowBits key (i / 2)) ⟨8 * (i % 2) + j, by omega⟩
  rw [hzero, hasCol_zero] at hcol
  rw [← hcol] at hset
  cases hset

/-- A key that is not all zero has a row to burn (R43). -/
theorem firstBurnRow_of_nonzero {key : List Byte} (h : KeyIsNonzero key) (len : KeyLength) (tag : BitVec 16) :
    ∃ e, firstBurnRow len (rowPlan len key tag) 0 = some e := by
  obtain ⟨i, hi, b, hb, hne⟩ := h
  have himage := planImage_ne_zero_of_byte hi hb hne len tag
  by_contra hno
  have hnone : firstBurnRow len (rowPlan len key tag) 0 = none := by
    rw [← Option.not_isSome_iff_eq_none, Option.isSome_iff_exists]
    exact hno
  rw [firstBurnRow_rowPlan, Option.map_eq_none_iff, List.find?_eq_none] at hnone
  have hval : (Fin.ofNat 19 (i / 2)).val = i / 2 := Nat.mod_eq_of_lt (by omega)
  have hcheck : Fin.ofNat 19 (i / 2) ≤ len.checkRow := by
    rw [Fin.le_def, hval]
    cases len <;> simp only [KeyLength.checkRow] <;> omega
  obtain ⟨hlock, hother⟩ := (len.le_checkRow_iff _).1 hcheck
  refine hnone _ ((len.mem_rows _).2 hlock) ?_
  simp only [KeyLength.burns, Bool.and_eq_true, decide_eq_true_eq, bne_iff_ne]
  exact ⟨⟨Fin.zero_le _, hother⟩, himage⟩

/-! ### A site that takes its key grant -/

/-- A site that was given a key which is not all zero: it holds the key in BURN_WAIT with no pulse issued, and stands as before otherwise, as far
as a record or a map write looks at it (R40, R43). -/
structure Site.Served (x y : Site) (slot : SlotNo) : Prop where
  state : y.seq.state = .burnWait
  pulsed : y.seq.pulsed = false
  key : ∃ h, y.seq.key = some h ∧ h.slot = slot ∧ KeyIsNonzero h.buffer
  kept : y.seq.dieX = x.seq.dieX ∧ y.seq.dieY = x.seq.dieY ∧ y.seq.stopTaken = x.seq.stopTaken

theorem State.takeKeyGrant_served {s : State} {g : KeyGrant} (h : KeyIsNonzero g.buffer) :
    ∃ y n, (s.site g.site).Served y g.slot ∧ s.takeKeyGrant g = { s with
      sites := put s.sites g.site y
      arbiter := { s.arbiter with requests := put s.arbiter.requests g.site (some n) }
      supply := s.supply.onRequest s.run } := by
  set x := s.onSite g.site (Site.keyed s.workingRecipe.keyLength g) with hx
  have hplan : (x.site g.site).seq.plan = rowPlan x.workingRecipe.keyLength g.buffer (s.site g.site).seq.lotTag := by
    rw [hx, State.onSite_site_same]
    rfl
  obtain ⟨e, he⟩ := firstBurnRow_of_nonzero h x.workingRecipe.keyLength (s.site g.site).seq.lotTag
  rw [← hplan] at he
  rw [State.takeKeyGrant_eq, ← hx, State.beginRow_of_some he, State.beginAttempt_eq, hx, State.onSite_site_same, State.onSite_onSite]
  refine ⟨_, _, ?_, rfl⟩
  exact {
    state := rfl
    pulsed := rfl
    key := ⟨_, rfl, rfl, h⟩
    kept := ⟨rfl, rfl, rfl⟩ }

end Sys2Proof.Machine

/-!
PROOF. The end of one site while others may wait for a key (R51 to R53, R121, R127, R128): `State.EndTurn`.
-/

namespace Sys2Proof.Machine

/-! ### The settlement of a key while no slot is drawable -/

/-- While a site waits no slot is drawable (R120, R121). -/
def State.Dry (s : State) : Prop := (∃ j, look s.pool.waiting j ≠ none) → s.pool.redraw = [] ∧ ∀ i, s.slotState i ≠ .loaded

theorem State.PoolCoherent.dry {s : State} (h : s.PoolCoherent) : s.Dry := by
  obtain ⟨hcount, -, hredraw, -, -, hwaits⟩ := h
  intro hw
  have hno : ∀ i, s.slotState i ≠ .loaded := fun i hi => by
    have hpos : 0 < (List.finRange 256).countP fun i => s.slotState i == .loaded :=
      List.countP_pos_iff.2 ⟨i, List.mem_finRange i, by simp [hi]⟩
    rw [← hcount, hwaits hw] at hpos
    exact Nat.lt_irrefl 0 hpos
  exact ⟨List.eq_nil_iff_forall_not_mem.2 fun i hi => hno i (hredraw i hi), hno⟩

theorem Pool.nextWaiting_waits {p : Pool} {j : SiteNo} {len : KeyLength} (h : p.nextWaiting = some (j, len)) : look p.waiting j = some len := by
  obtain ⟨i, -, hi⟩ := List.exists_of_findSome?_eq_some h
  obtain ⟨len', hlen, heq⟩ := Option.map_eq_some_iff.1 hi
  cases heq
  exact hlen

/-- An unpulsed key goes back to the pool; where another site waits, the lowest is given it at once (R121, R127, R128). -/
theorem State.settleKey_dry {s : State} {k : SiteNo} {o : SiteOutcome} (ho : o ≠ .keyed) (hdry : s.Dry) :
    (s.settleKey k o = (s.settledKey k, (s.site k).keyFate, [])
      ∧ ∀ h, (s.site k).seq.key = some h → (s.site k).seq.pulsed = false → ∀ j, look s.pool.waiting j = none)
    ∨ ∃ h j len, (s.site k).seq.key = some h ∧ (s.site k).seq.pulsed = false ∧ s.pool.nextWaiting = some (j, len)
      ∧ s.settleKey k o = ((s.settledKey k).drawSlot j h.slot { (s.settledKey k).pool with redraw := [] }, (s.site k).keyFate,
          [(s.settledKey k).grantOf j len h.slot]) := by
  by_cases hnone : ∀ j, look s.pool.waiting j = none
  · exact .inl ⟨State.settleKey_quiet ho hnone, fun _ _ _ => hnone⟩
  obtain ⟨hredraw, hloaded⟩ := hdry (not_forall.1 hnone)
  obtain ⟨⟨j, len⟩, hnext⟩ := Option.ne_none_iff_exists'.1 (mt s.pool.nextWaiting_eq_none_iff.1 hnone)
  unfold State.settledKey Site.keyFate
  cases hkey : (s.site k).seq.key with
  | none => exact .inl ⟨by simp only [State.settleKey, hkey], nofun⟩
  | some h =>
    cases hpulsed : (s.site k).seq.pulsed with
    | true =>
      refine .inl ⟨?_, nofun⟩
      simp only [State.settleKey, hkey, if_neg ho, hpulsed, if_true, State.voidSlot_eq]
    | false =>
      refine .inr ⟨h, j, len, rfl, rfl, hnext, ?_⟩
      rw [State.settleKey_returned hkey ho hpulsed]
      have hdraws := State.evaluateDraws_of_returned (r := s.returnSlot h.slot h.buffer) (k := j) (len := len) (i := h.slot)
        (by rw [State.returnSlot_eq]; exact hnext) (by rw [State.returnSlot_eq, hredraw]; rfl)
        (fun i hi => by
          rw [State.slotState, State.returnSlot_eq, look_put_other _ _ _ _ (Ne.symm hi)]
          exact hloaded i)
        (by rw [State.returnSlot_eq]; exact Nat.le_add_left 1 _)
      simp only [hdraws, Bool.false_eq_true, if_false]

/-- A key that is not all zero is drawn again from the slot it went back to as a key that is not all zero (R123, R128). -/
theorem State.grantOf_returned_nonzero {s : State} {h : KeyHeld} (hnz : KeyIsNonzero h.buffer) (j : SiteNo) (len : KeyLength) :
    KeyIsNonzero ((s.returnSlot h.slot h.buffer).grantOf j len h.slot).buffer := by
  obtain ⟨i, hi, b, hb, hne⟩ := hnz
  refine ⟨i, hi, b, ?_, hne⟩
  have hlen : i < len.keyBytes := by cases len <;> exact lt_of_lt_of_le hi (by decide)
  have hread : Memory.read (s.returnSlot h.slot h.buffer).mem (slotBase h.slot + 0x20 + i) = b := by
    obtain ⟨hlt, -⟩ := List.getElem?_eq_some_iff.1 hb
    rw [State.returnSlot_eq]
    show Memory.read (Memory.writeBytes _ _ _) _ = _
    rw [Memory.read_writeBytes_inside _ _ (by rw [List.length_take]; omega), List.getD_eq_getElem?_getD,
      List.getElem?_take_of_lt (by omega), hb]
    rfl
  simp only [State.grantOf, State.slotKey, Memory.readBytes, List.getElem?_map, List.getElem?_range hlen, Option.map_some, hread]

/-! ### What the end of a site leaves -/

/-- The disposition fields of slot i name site k as it stands in s (R129). -/
def State.DispositionNames (s : State) (k : SiteNo) (seq : Word) (i : SlotNo) (m : Memory) : Prop :=
  Memory.read m (slotBase i + 0x0C) = nat8 k.val
    ∧ Memory.read16 m (slotBase i + 0x0E) = (s.site k).seq.fingerprint
    ∧ Memory.read32 m (slotBase i + 0x10) = s.waferId
    ∧ Memory.read16 m (slotBase i + 0x14) = BitVec.ofInt 16 (s.site k).seq.dieX
    ∧ Memory.read16 m (slotBase i + 0x16) = BitVec.ofInt 16 (s.site k).seq.dieY
    ∧ Memory.read32 m (slotBase i + 0x18) = seq

theorem State.DispositionNames.of_read {s : State} {k : SiteNo} {seq : Word} {i : SlotNo} {m n : Memory} (h : s.DispositionNames k seq i m)
    (hmn : ∀ a, slotBase i + 0x0C ≤ a → a < slotBase i + 0x1C → Memory.read n a = Memory.read m a) : s.DispositionNames k seq i n := by
  obtain ⟨h₁, h₂, h₃, h₄, h₅, h₆⟩ := h
  refine ⟨?_, ?_, ?_, ?_, ?_, ?_⟩
  · rw [hmn _ (by omega) (by omega), h₁]
  · rw [Memory.read16_congr (hmn _ (by omega) (by omega)) (hmn _ (by omega) (by omega)), h₂]
  · rw [Memory.read32_congr fun j hj => hmn _ (by omega) (by omega), h₃]
  · rw [Memory.read16_congr (hmn _ (by omega) (by omega)) (hmn _ (by omega) (by omega)), h₄]
  · rw [Memory.read16_congr (hmn _ (by omega) (by omega)) (hmn _ (by omega) (by omega)), h₅]
  · rw [Memory.read32_congr fun j hj => hmn _ (by omega) (by omega), h₆]

/-- A returned key that no other site waits for stands in its slot; else the lowest waiting site has been granted it, and the slot is DRAWN
(R121, R128). -/
def State.ReturnedTo (u v : State) (k : SiteNo) (h : KeyHeld) (gs : List KeyGrant) : Prop :=
  ((∀ j, j ≠ k → look u.pool.waiting j = none) ∧ gs = [] ∧ v.slotState h.slot = .loaded ∧ v.pool.waiting = put u.pool.waiting k none)
  ∨ ∃ (j : SiteNo) (len : KeyLength) (g : KeyGrant), Pool.nextWaiting { u.pool with waiting := put u.pool.waiting k none } = some (j, len)
    ∧ gs = [g] ∧ g.site = j ∧ g.slot = h.slot ∧ (KeyIsNonzero h.buffer → KeyIsNonzero g.buffer)
    ∧ v.slotState h.slot = .drawn ∧ v.pool.redraw = [] ∧ v.pool.waiting = put (put u.pool.waiting k none) j none

/-- From u running site k of the running frame f ends with outcome o, which leaves v and the key grant that a returned key makes
(R51 to R53, R127, R128). -/
structure State.EndTurn (u : State) (f : FrameNo) (k : SiteNo) (o : SiteOutcome) (v : State) (gs : List KeyGrant) : Prop where
  work : u.EndWork v
  sites : v.sites = put u.sites k ((u.site k).asEnded o)
  ended : v.sched.ended = put u.sched.ended k true
  arbiter : v.arbiter = (u.withdrawBurst k).arbiter
  supply : v.supply = (u.withdrawBurst k).supply
  record : ∀ i < 38, Memory.read v.mem (siteRecordBase f k + i)
    = (recordBytes k (u.site k) u.workingRecipe o (u.site k).keyFate (u.site k).seq.heldSerial).getD i 0
  map : onMap (u.site k).seq.dieX (u.site k).seq.dieY = true → Memory.read v.mem (u.mapEntryOf k) = if (u.site k).seq.pulsed then 4 else 5
  memory : ∀ a, (a < siteRecordBase f k ∨ siteRecordBase f k + 38 ≤ a) → a ≠ u.mapEntryOf k →
    (∀ h, (u.site k).seq.key = some h → a < slotBase h.slot + 0x0C ∨ slotBase h.slot + 0x40 ≤ a) → Memory.read v.mem a = Memory.read u.mem a
  slots : ∀ i, (∀ h, (u.site k).seq.key = some h → h.slot ≠ i) → v.slotState i = u.slotState i
  spent : ((u.site k).seq.key = none ∨ (u.site k).seq.pulsed = true) →
    gs = [] ∧ v.pool.waiting = put u.pool.waiting k none ∧ v.pool.redraw = u.pool.redraw
  voided : ∀ h, (u.site k).seq.key = some h → (u.site k).seq.pulsed = true →
    v.slotState h.slot = .voided ∧ u.DispositionNames k (u.frameSeq f) h.slot v.mem
  returned : ∀ h, (u.site k).seq.key = some h → (u.site k).seq.pulsed = false → u.ReturnedTo v k h gs
  attn : gs = [] → v.attn = u.attn

section Turn

variable {u : State} {f : FrameNo} {k : SiteNo} {o : SiteOutcome}

/-- What the settlement of the key of a site leaves, before the site's own END is written (R127, R128). -/
structure State.KeySettled (u : State) (f : FrameNo) (k : SiteNo) (c : State) (gs : List KeyGrant) : Prop where
  frame : c = { u with
    attn := c.attn, mem := c.mem, pool := c.pool, arbiter := (u.withdrawBurst k).arbiter, supply := (u.withdrawBurst k).supply }
  memory : ∀ a, (∀ h, (u.site k).seq.key = some h → a < slotBase h.slot + 0x0C ∨ slotBase h.slot + 0x40 ≤ a) →
    Memory.read c.mem a = Memory.read u.mem a
  slots : ∀ i, (∀ h, (u.site k).seq.key = some h → h.slot ≠ i) → c.slotState i = u.slotState i
  spent : ((u.site k).seq.key = none ∨ (u.site k).seq.pulsed = true) →
    gs = [] ∧ c.pool.waiting = put u.pool.waiting k none ∧ c.pool.redraw = u.pool.redraw
  voided : ∀ h, (u.site k).seq.key = some h → (u.site k).seq.pulsed = true →
    c.slotState h.slot = .voided ∧ u.DispositionNames k (u.frameSeq f) h.slot c.mem
  returned : ∀ h, (u.site k).seq.key = some h → (u.site k).seq.pulsed = false → u.ReturnedTo c k h gs
  attn : gs = [] → c.attn = u.attn

/-- The site's requests are withdrawn before its key is settled (R51). -/
def State.requestsWithdrawn (s : State) (k : SiteNo) : State := (s.withdrawBurst k).withdrawDraw k

theorem State.requestsWithdrawn_eq : u.requestsWithdrawn k = { u with
    arbiter := (u.withdrawBurst k).arbiter, supply := (u.withdrawBurst k).supply
    pool := { u.pool with waiting := put u.pool.waiting k none } } := by
  rw [State.requestsWithdrawn, State.withdrawBurst_eq]
  rfl

theorem State.requestsWithdrawn_dry (h : u.Dry) : (u.requestsWithdrawn k).Dry := by
  rw [State.requestsWithdrawn_eq]
  intro ⟨j, hj⟩
  refine h ⟨j, fun hnone => hj ?_⟩
  show look (put _ _ _) _ = _
  rw [look_put, hnone, ite_self]

theorem State.keySettled (ho : o ≠ .keyed) (hf : u.sched.running = some f) (hdry : u.Dry) :
    u.KeySettled f k ((u.requestsWithdrawn k).settleKey k o).1 ((u.requestsWithdrawn k).settleKey k o).2.2
      ∧ ((u.requestsWithdrawn k).settleKey k o).2.1 = (u.site k).keyFate := by
  have hdry' := State.requestsWithdrawn_dry (k := k) hdry
  have heq := State.requestsWithdrawn_eq (u := u) (k := k)
  set w := u.requestsWithdrawn k with hw
  have hsite : w.site k = u.site k := by rw [heq]; rfl
  have hslot : ∀ i, w.slotState i = u.slotState i := fun i => by rw [heq]; rfl
  have hmem : w.mem = u.mem := by rw [heq]
  have hwait : w.pool.waiting = put u.pool.waiting k none := by rw [heq]
  have hframe := State.settledKey_frame (s := w) (k := k)
  have hwaiting := State.settledKey_waiting (s := w) (k := k)
  have hread : ∀ a, (∀ h, (u.site k).seq.key = some h → a < slotBase h.slot + 0x0C ∨ slotBase h.slot + 0x40 ≤ a) →
      Memory.read (w.settledKey k).mem a = Memory.read u.mem a := fun a ha => by
    rw [State.read_settledKey_other (by rw [hsite]; exact ha), hmem]
  have hother : ∀ i, (∀ h, (u.site k).seq.key = some h → h.slot ≠ i) → (w.settledKey k).slotState i = u.slotState i := fun i hi => by
    rw [State.settledKey_slot_other (by rw [hsite]; exact hi), hslot]
  have hheld : ∀ h, (u.site k).seq.key = some h → (w.settledKey k).slotState h.slot = if (u.site k).seq.pulsed then .voided else .loaded :=
    fun h hkey => by rw [State.settledKey_slot (by rw [hsite]; exact hkey), hsite]
  obtain ⟨hsettle, hnone⟩ | ⟨h, j, len, hkey, hpulsed, hnext, hsettle⟩ := State.settleKey_dry (k := k) ho hdry'
  · rw [hsettle]
    rw [hsite] at hnone ⊢
    refine ⟨⟨?_, hread, hother, fun hspent => ⟨rfl, by rw [hwaiting, hwait], ?_⟩, fun h hkey hpulsed => ⟨?_, ?_⟩, fun h hkey hpulsed => ?_,
      fun _ => ?_⟩, rfl⟩
    · rw [hframe, heq]
    · unfold State.settledKey
      rw [hsite]
      split
      · rw [heq]
      · rename_i hkey
        rw [hkey] at hspent
        rw [if_pos (hspent.resolve_left nofun), State.spendSlot, heq]
    · rw [hheld h hkey, hpulsed]
      rfl
    · have hspend : w.settledKey k = w.spendSlot k h.slot false := by
        simp only [State.settledKey, hsite, hkey, hpulsed, if_true]
      have hshows := w.dispositionMem_shows k h.slot
      have hseq : w.runningSeq = u.frameSeq f := by
        rw [heq]
        simp only [State.runningSeq, hf]
        rfl
      have hwafer : w.waferId = u.waferId := by rw [State.waferId, hmem]; rfl
      rw [hseq, hwafer, hsite] at hshows
      rw [hspend]
      exact hshows
    · have hnone' := hnone h hkey hpulsed
      refine .inl ⟨fun i hi => ?_, rfl, ?_, by rw [hwaiting, hwait]⟩
      · have := hnone' i
        rwa [hwait, look_put_other _ _ _ _ (Ne.symm hi)] at this
      · rw [hheld h hkey, hpulsed]
        rfl
    · rw [hframe, heq]
  · rw [hsettle]
    rw [hsite] at hkey hpulsed ⊢
    set p : Pool := { (w.settledKey k).pool with redraw := [] } with hp
    have hret : w.settledKey k = w.returnSlot h.slot h.buffer := by
      simp only [State.settledKey, hsite, hkey, hpulsed, Bool.false_eq_true, if_false]
    have hcount : 1 ≤ p.loadedCount := by
      rw [hp, hret, State.returnSlot_eq]
      exact Nat.le_add_left 1 _
    have hmem' := State.drawSlot_mem j h.slot p (w.settledKey k)
    have hdraw := State.drawSlot_eq (s := w.settledKey k) j h.slot hcount
    have hgrant : KeyIsNonzero h.buffer → KeyIsNonzero ((w.settledKey k).grantOf j len h.slot).buffer := fun hnz => by
      rw [hret]
      exact State.grantOf_returned_nonzero hnz j len
    generalize (w.settledKey k).drawSlot j h.slot p = c at hmem' hdraw
    have hpool : c.pool = { p with
        slots := put p.slots h.slot .drawn, waiting := put p.waiting j none, draws := sat16 (p.draws + 1)
        loadedCount := p.loadedCount - 1 } := by rw [hdraw]
    refine ⟨⟨?_, fun a ha => ?_, fun i hi => ?_, fun hspent => ?_, fun _ _ hp => ?_, fun h' hkey' _ => ?_, nofun⟩, rfl⟩
    · rw [hdraw, hframe, heq]
    · rw [hmem', Memory.read_writeBytes_outside, hread a ha]
      have := ha h hkey
      rw [List.length_replicate]
      omega
    · rw [State.slotState, hpool]
      show look (put p.slots h.slot .drawn) i = _
      rw [look_put_other _ _ _ _ (hi h hkey)]
      exact hother i hi
    · rw [hkey, hpulsed] at hspent
      exact absurd hspent (by simp)
    · rw [hpulsed] at hp
      cases hp
    · obtain rfl : h = h' := by rw [hkey] at hkey'; exact Option.some.inj hkey'
      refine .inr ⟨j, len, _, ?_, rfl, rfl, rfl, hgrant, ?_, by rw [hpool], by rw [hpool, hp, hwaiting, hwait]⟩
      · rw [← hnext, heq]
      · rw [State.slotState, hpool]
        exact look_put_same _ _ _

/-- The end of a running site while no slot is drawable if a site waits. -/
theorem State.endSiteWith_turn (ho : o ≠ .keyed) (hcode : ∀ p, mapCodeOf o p = some (if p then 4 else 5)) (hf : u.sched.running = some f)
    (hrun : (u.site k).seq.state.isRunning = true) (hdry : u.Dry) :
    u.EndTurn f k o (u.endSiteWith k o).1 (u.endSiteWith k o).2 := by
  have hwork := State.endSiteWith_endWork k o u
  have hsiteb : (u.withdrawBurst k).site k = u.site k := State.withdrawBurst_site k k u
  obtain ⟨hsettled, hfate⟩ := State.keySettled (k := k) ho hf hdry
  have heq : u.endSiteWith k o = (State.fileEnd k o (u.site k).keyFate (u.site k).seq.heldSerial
      (((u.requestsWithdrawn k).settleKey k o).1.onSite k (Site.asEnded o)), ((u.requestsWithdrawn k).settleKey k o).2.2) := by
    rw [State.endSiteWith_withdrawBurst k o hrun, State.endSiteWith_eq (by rw [hsiteb]; exact hrun) (u.withdrawBurst_request k), hsiteb,
      ← hfate]
    rfl
  rw [heq] at hwork ⊢
  dsimp only at hwork ⊢
  generalize ((u.requestsWithdrawn k).settleKey k o).1 = c at hsettled hwork ⊢
  generalize ((u.requestsWithdrawn k).settleKey k o).2.2 = gs at hsettled ⊢
  obtain ⟨hframe, hmemory, hslots, hspent, hvoided, hreturned, hattn⟩ := hsettled
  have hcsite : c.site k = u.site k := by rw [hframe]; rfl
  set b := c.onSite k (Site.asEnded o) with hb
  have hbsite : b.site k = (u.site k).asEnded o := by rw [hb, State.onSite_site_same, hcsite]
  have hbf : b.sched.running = some f := by
    show c.sched.running = _
    rw [hframe]
    exact hf
  have hentry : b.mapEntryOf k = u.mapEntryOf k := by rw [State.mapEntryOf, hbsite]; rfl
  have hrecipe : b.workingRecipe = u.workingRecipe := by
    show c.workingRecipe = _
    rw [hframe]
    rfl
  have hread := State.read_fileEnd (s := b) (k := k) (d := (u.site k).keyFate) (serial := (u.site k).seq.heldSerial) hbf (hcode _)
  rw [hentry, hbsite, hrecipe] at hread
  have hkept := State.fileEnd_kept k o (u.site k).keyFate (u.site k).seq.heldSerial b
  generalize State.fileEnd k o (u.site k).keyFate (u.site k).seq.heldSerial b = v at hread hkept hwork ⊢
  have hpool : v.pool = c.pool := by rw [hkept]; rfl
  have hvslot : ∀ i, v.slotState i = c.slotState i := fun i => by rw [State.slotState, hpool]; rfl
  have hlow := siteRecordBase_lt f k
  have hhigh : 0xC000 ≤ u.mapEntryOf k := by
    unfold State.mapEntryOf mapBase
    omega
  have hslotread : ∀ i : SlotNo, ∀ a, slotBase i + 0x0C ≤ a → a < slotBase i + 0x40 → Memory.read v.mem a = Memory.read c.mem a :=
    fun i a hlo hhi => by
      have := i.isLt
      unfold slotBase at hlo hhi
      rw [hread, if_neg (fun hc => by omega), if_neg (by omega)]
      rfl
  refine ⟨hwork, ?_, ?_, ?_, ?_, fun i hi => ?_, fun hon => ?_, fun a hrec hmap hheld => ?_, fun i hi => (hvslot i).trans (hslots i hi),
    fun hs => by rw [hpool]; exact hspent hs, fun h hkey hpulsed => ?_, fun h hkey hpulsed => ?_, fun hgs => ?_⟩
  · rw [hkept]
    show put c.sites k (Site.asEnded o (c.site k)) = _
    rw [hcsite, hframe]
  · rw [hkept]
    show put c.sched.ended k true = _
    rw [hframe]
  · rw [hkept]
    show c.arbiter = _
    rw [hframe]
  · rw [hkept]
    show c.supply = _
    rw [hframe]
  · rw [hread, if_neg (fun hc => by omega), if_pos (by omega), Nat.add_sub_cancel_left]
    rfl
  · rw [hread, if_pos ⟨hon, rfl⟩]
    rfl
  · rw [hread, if_neg (fun hc => hmap hc.2), if_neg (by omega)]
    exact hmemory a hheld
  · obtain ⟨hstate, hnames⟩ := hvoided h hkey hpulsed
    exact ⟨(hvslot _).trans hstate, hnames.of_read fun a hlo hhi => hslotread h.slot a hlo (by omega)⟩
  · rw [State.ReturnedTo, hvslot, hpool]
    exact hreturned h hkey hpulsed
  · rw [hkept]
    exact hattn hgs

end Turn

end Sys2Proof.Machine

/-!
PROOF. What one command leaves when it ends several sites one after the other, in whatever order: `State.Turns` and the turns that keep it
(R52, R55, R89, R121, R127 to R129).
-/

namespace Sys2Proof.Machine

/-! ### Where a turn stands -/

/-- A site that has taken a stop, and nothing else (R55). -/
def Site.stopped (stop : StopTaken) (x : Site) : Site := { x with seq := { x.seq with stopTaken := stop } }

/-- Site k holds the key of slot i, or a key grant of that slot is on its way to it (R123). -/
def State.Holds (u : State) (gs : List KeyGrant) (k : SiteNo) (i : SlotNo) : Prop :=
  (∃ h, (u.site k).seq.key = some h ∧ h.slot = i) ∨ ∃ g ∈ gs, g.site = k ∧ g.slot = i

/-- What the record of an ended site says of its key: z is the state before the first turn (R52, R127). -/
def State.RecordNames (z : State) (k : SiteNo) (d : Disposition) (serial : Word) : Prop :=
  match (z.site k).seq.key with
  | some h => d = (if (z.site k).seq.pulsed then .voided else .returned) ∧ serial = h.serial
  | none => (d = .none ∧ serial = 0) ∨ (look z.pool.waiting k ≠ none ∧ d = .returned)

/-- The turns from z to u have ended site k (R51 to R53, R127, R129). -/
structure State.EndedIn (z u : State) (stop : StopTaken) (o : SiteOutcome) (k : SiteNo) : Prop where
  noDraw : look u.pool.waiting k = none
  noRequest : look u.arbiter.requests k = none
  reported : look u.sched.ended k = true
  site : ∃ y, u.site k = y.asEnded o ∧ (look z.pool.waiting k = none → y = (z.site k).stopped stop)
    ∧ ∃ d serial, z.RecordNames k d serial ∧ ∀ f, z.sched.running = some f → ∀ i < 38,
      Memory.read u.mem (siteRecordBase f k + i) = (recordBytes k y z.workingRecipe o d serial).getD i 0
  voided : ∀ h, (z.site k).seq.key = some h → (z.site k).seq.pulsed = true → u.slotState h.slot = .voided
    ∧ ∀ f, z.sched.running = some f → z.DispositionNames k (z.frameSeq f) h.slot u.mem
  map : onMap (z.site k).seq.dieX (z.site k).seq.dieY = true →
    (∀ j, j ≠ k → (z.site j).seq.state.isRunning = true → z.mapEntryOf j ≠ z.mapEntryOf k) →
    ((z.site k).seq.key = none → (z.site k).seq.pulsed = false) →
    Memory.read u.mem (z.mapEntryOf k) = if (z.site k).seq.pulsed then 4 else 5

/-- A site that waits for a key and has not had its turn: it waits still, or a key grant is on its way to it, or it has taken one
(R121, R123). -/
def State.Waiter (z u : State) (gs : List KeyGrant) (j : SiteNo) : Prop :=
  (look u.pool.waiting j = look z.pool.waiting j ∧ u.site j = z.site j)
  ∨ (∃ g ∈ gs, g.site = j)
  ∨ (look u.pool.waiting j = none ∧ look u.arbiter.requests j ≠ none ∧ ∃ i, (z.site j).Served (u.site j) i)

/-- From z the sites of l have had their turns, which ended those of them that `ends` names with outcome o and left the others with their
stop taken; gs are the key grants not yet taken. -/
structure State.Turns (z : State) (stop : SiteNo → StopTaken) (ends : SiteNo → Bool) (o : SiteOutcome) (l : List SiteNo) (u : State)
    (gs : List KeyGrant) : Prop where
  keyless : ∀ k, look z.pool.waiting k ≠ none → (z.site k).seq.key = none
  work : z.SiteWork u
  memory : ∀ a, (∀ f, z.sched.running = some f → a < frameBase f + 0x400 ∨ frameBase f + 0x800 ≤ a) →
    (a < 0x4000 ∨ (0x8000 ≤ a ∧ a < 0xC000) ∨ 0x10000 ≤ a) → Memory.read u.mem a = Memory.read z.mem a
  fresh : ∀ k, k ∉ l → look z.pool.waiting k = none → u.site k = z.site k
  marked : ∀ k ∈ l, ends k = false → u.site k = (z.site k).stopped (stop k)
  done : ∀ k ∈ l, ends k = true → z.EndedIn u (stop k) o k
  waiter : ∀ j, j ∉ l → look z.pool.waiting j ≠ none → z.Waiter u gs j
  taken : ∀ k ∈ l, look u.pool.waiting k = none
  served : ∀ k, look z.pool.waiting k = none → look u.pool.waiting k = none
  grants : ∀ g ∈ gs, g.site ∉ l ∧ look z.pool.waiting g.site ≠ none ∧ look u.pool.waiting g.site = none ∧ u.site g.site = z.site g.site
    ∧ KeyIsNonzero g.buffer
  grantsOnce : (gs.map KeyGrant.site).Nodup
  heldDrawn : ∀ k i, u.Holds gs k i → u.slotState i = .drawn
  heldOnce : ∀ j k i, u.Holds gs j i → u.Holds gs k i → j = k
  source : ∀ j i, u.Holds gs j i → look z.pool.waiting j ≠ none →
    ∃ k ∈ l, ends k = true ∧ ∃ h, (z.site k).seq.key = some h ∧ (z.site k).seq.pulsed = false ∧ h.slot = i
  nonzero : ∀ k h, (u.site k).seq.key = some h → KeyIsNonzero h.buffer
  returned : ∀ k ∈ l, ends k = true → ∀ h, (z.site k).seq.key = some h → (z.site k).seq.pulsed = false →
    u.slotState h.slot = .loaded ∨ ∃ j, look z.pool.waiting j ≠ none ∧ u.Holds gs j h.slot
  dry : u.Dry
  attn : (∀ j, look z.pool.waiting j = none) → u.attn = z.attn
  reports : ∀ k, (k ∈ l → ends k = false) → look u.sched.ended k = look z.sched.ended k

section Turns

variable {z u : State} {stop : SiteNo → StopTaken} {ends : SiteNo → Bool} {o : SiteOutcome} {l : List SiteNo} {gs : List KeyGrant}

/-- Before the first turn. -/
theorem State.Turns.start (hpool : z.PoolCoherent) (hnonzero : z.KeysNonzero)
    (hkeyless : ∀ k, look z.pool.waiting k ≠ none → (z.site k).seq.key = none) : z.Turns stop ends o [] z [] := by
  have hdry := hpool.dry
  obtain ⟨-, -, -, hdrawn, hdistinct, -⟩ := hpool
  have hholds : ∀ k i, z.Holds [] k i → ∃ h, (z.site k).seq.key = some h ∧ h.slot = i := fun k i hk =>
    hk.resolve_right fun ⟨g, hg, _⟩ => absurd hg List.not_mem_nil
  have hnil : ∀ {p : SiteNo → Prop}, ∀ k ∈ ([] : List SiteNo), p k := fun k hk => absurd hk List.not_mem_nil
  refine
    { keyless := hkeyless, work := .refl z, memory := fun _ _ _ => rfl, fresh := fun _ _ _ => rfl, marked := hnil, done := hnil
      waiter := fun _ _ _ => .inl ⟨rfl, rfl⟩, taken := hnil, served := fun _ h => h, grants := fun g hg => absurd hg List.not_mem_nil
      grantsOnce := List.nodup_nil, heldDrawn := fun k i hk => ?_, heldOnce := fun j k i hj hk => ?_, source := fun j i hj hwait => ?_
      nonzero := fun k h hkey => ?_, returned := hnil, dry := hdry, attn := fun _ => rfl
      reports := fun _ _ => rfl }
  · obtain ⟨h, hkey, rfl⟩ := hholds k i hk
    exact hdrawn k h hkey
  · obtain ⟨h, hkey, hi⟩ := hholds j i hj
    obtain ⟨h', hkey', hi'⟩ := hholds k i hk
    by_contra hjk
    exact hdistinct j k h h' hjk hkey hkey' (hi.trans hi'.symm)
  · obtain ⟨h, hkey, -⟩ := hholds j i hj
    rw [hkeyless j hwait] at hkey
    cases hkey
  · exact hnonzero.2 k h hkey

/-- A site ended earlier stays so through a turn that leaves it, its record, its spent slot and its map entry alone. -/
theorem State.EndedIn.of_kept {v : State} {st : StopTaken} {k : SiteNo} (h : z.EndedIn u st o k) (hsite : v.site k = u.site k)
    (hdraw : look v.pool.waiting k = none) (hreq : look v.arbiter.requests k = none) (hended : look v.sched.ended k = true)
    (hslot : ∀ i, u.slotState i = .voided → v.slotState i = .voided
      ∧ ∀ a, slotBase i + 0x0C ≤ a → a < slotBase i + 0x1C → Memory.read v.mem a = Memory.read u.mem a)
    (hrecord : ∀ f, z.sched.running = some f → ∀ i < 38, Memory.read v.mem (siteRecordBase f k + i) = Memory.read u.mem (siteRecordBase f k + i))
    (hmap : (∀ j, j ≠ k → (z.site j).seq.state.isRunning = true → z.mapEntryOf j ≠ z.mapEntryOf k) →
      Memory.read v.mem (z.mapEntryOf k) = Memory.read u.mem (z.mapEntryOf k)) : z.EndedIn v st o k := by
  obtain ⟨-, -, -, ⟨y, hy, hstop, d, serial, hnames, hrec⟩, hvoided, hcode⟩ := h
  refine ⟨hdraw, hreq, hended, ⟨y, hsite.trans hy, hstop, d, serial, hnames, fun f hf i hi => ?_⟩, fun h hkey hpulsed => ?_,
    fun hon hapart hkey => ?_⟩
  · rw [hrecord f hf i hi, hrec f hf i hi]
  · obtain ⟨hstate, hshows⟩ := hvoided h hkey hpulsed
    obtain ⟨hstate', hread⟩ := hslot _ hstate
    exact ⟨hstate', fun f hf => (hshows f hf).of_read hread⟩
  · rw [hmap hapart, hcode hon hapart hkey]

/-- A site that runs on takes its stop (R55, R56). -/
theorem State.Turns.mark (t : z.Turns stop ends o l u gs) {k : SiteNo} (hk : k ∉ l) (hends : ends k = false)
    (hwait : look z.pool.waiting k = none) : z.Turns stop ends o (l ++ [k]) (u.onSite k (Site.stopped (stop k))) gs := by
  set v := u.onSite k (Site.stopped (stop k)) with hv
  have hin : ∀ j, j ∈ l ++ [k] ↔ j ∈ l ∨ j = k := fun j => by simp
  have hsame : v.site k = (u.site k).stopped (stop k) := State.onSite_site_same _ _ _
  have hother : ∀ j, j ≠ k → v.site j = u.site j := fun j hj => look_put_other _ _ _ _ (Ne.symm hj)
  have hkey : ∀ j, (v.site j).seq.key = (u.site j).seq.key := fun j => by
    by_cases hj : j = k
    · rw [hj, hsame]
      rfl
    · rw [hother j hj]
  have hholds : ∀ j i, v.Holds gs j i ↔ u.Holds gs j i := fun j i => by rw [State.Holds, State.Holds, hkey]
  refine
    { keyless := t.keyless, work := t.work.trans (State.onSite_endWork k _ u).work, memory := t.memory, fresh := fun j hj hw => ?_
      marked := fun j hj hm => ?_, done := fun j hj he => ?_, waiter := fun j hj hw => ?_, taken := fun j hj => ?_, served := t.served
      grants := fun g hg => ?_, grantsOnce := t.grantsOnce, heldDrawn := fun j i hj => t.heldDrawn j i ((hholds j i).1 hj)
      heldOnce := fun j j' i hj hj' => t.heldOnce j j' i ((hholds j i).1 hj) ((hholds j' i).1 hj'), source := fun j i hj hw => ?_
      nonzero := fun j h hj => t.nonzero j h ((hkey j).symm.trans hj), returned := fun j hj he h hkeyj hpulsed => ?_, dry := t.dry
      attn := t.attn, reports := fun j hj => t.reports j fun hjl => hj ((hin j).2 (.inl hjl)) }
  · rw [hin, not_or] at hj
    rw [hother j hj.2, t.fresh j hj.1 hw]
  · obtain hj | rfl := (hin j).1 hj
    · rw [hother j fun hjk => hk (hjk ▸ hj), t.marked j hj hm]
    · rw [hsame, t.fresh j hk hwait]
  · obtain hj | rfl := (hin j).1 hj
    · have hdone := t.done j hj he
      exact hdone.of_kept (hother j fun hjk => hk (hjk ▸ hj)) hdone.noDraw hdone.noRequest hdone.reported
        (fun i hi => ⟨hi, fun _ _ _ => rfl⟩) (fun _ _ _ _ => rfl) fun _ => rfl
    · rw [hends] at he
      cases he
  · rw [hin, not_or] at hj
    have := t.waiter j hj.1 hw
    rw [State.Waiter, hother j hj.2]
    exact this
  · obtain hj | rfl := (hin j).1 hj
    · exact t.taken j hj
    · exact t.served j hwait
  · obtain ⟨hg₁, hg₂, hg₃, hg₄, hg₅⟩ := t.grants g hg
    have hgk : g.site ≠ k := fun hgk => hg₂ (hgk ▸ hwait)
    exact ⟨by rw [hin, not_or]; exact ⟨hg₁, hgk⟩, hg₂, hg₃, (hother _ hgk).trans hg₄, hg₅⟩
  · obtain ⟨k', hk', hsource⟩ := t.source j i ((hholds j i).1 hj) hw
    exact ⟨k', (hin k').2 (.inl hk'), hsource⟩
  · obtain hj | rfl := (hin j).1 hj
    · obtain hloaded | ⟨i, hi, hheld⟩ := t.returned j hj he h hkeyj hpulsed
      · exact .inl hloaded
      · exact .inr ⟨i, hi, (hholds _ _).2 hheld⟩
    · rw [hends] at he
      cases he

/-- A waiting site takes the key grant that is first on its way (R40, R43, R123). -/
theorem State.Turns.deliver {g : KeyGrant} (t : z.Turns stop ends o l u (g :: gs)) : z.Turns stop ends o l (u.takeKeyGrant g) gs := by
  obtain ⟨hgl, hgw, hgu, hgsite, hgnz⟩ := t.grants g List.mem_cons_self
  obtain ⟨y, n, hserved, heq⟩ := State.takeKeyGrant_served (s := u) hgnz
  have hwork := State.takeKeyGrant_endWork g u
  set v := u.takeKeyGrant g with hv
  have hsame : v.site g.site = y := by rw [heq]; exact look_put_same _ _ _
  have hother : ∀ j, j ≠ g.site → v.site j = u.site j := fun j hj => by rw [heq]; exact look_put_other _ _ _ _ (Ne.symm hj)
  have hreq : ∀ j, j ≠ g.site → look v.arbiter.requests j = look u.arbiter.requests j := fun j hj => by
    rw [heq]
    exact look_put_other _ _ _ _ (Ne.symm hj)
  have hpool : v.pool = u.pool := by rw [heq]
  have hmem : v.mem = u.mem := by rw [heq]
  have hsched : v.sched = u.sched := by rw [heq]
  have hslot : ∀ i, v.slotState i = u.slotState i := fun i => by rw [State.slotState, hpool]; rfl
  have hnil : (u.site g.site).seq.key = none := by rw [hgsite]; exact t.keyless _ hgw
  have honce := t.grantsOnce
  rw [List.map_cons, List.nodup_cons] at honce
  obtain ⟨hnotin, honce⟩ := honce
  obtain ⟨hkeyy, hkey, hkeyslot, hkeynz⟩ := hserved.key
  have hholds : ∀ j i, v.Holds gs j i → u.Holds (g :: gs) j i := fun j i hj => by
    by_cases hjg : j = g.site
    · subst hjg
      obtain ⟨h, hh, rfl⟩ | ⟨g', hg', hsite, rfl⟩ := hj
      · rw [hsame, hkey] at hh
        obtain rfl := Option.some.inj hh
        exact .inr ⟨g, List.mem_cons_self, rfl, hkeyslot.symm⟩
      · exact .inr ⟨g', List.mem_cons_of_mem _ hg', hsite, rfl⟩
    · obtain ⟨h, hh, rfl⟩ | ⟨g', hg', hsite, rfl⟩ := hj
      · exact .inl ⟨h, by rw [← hother j hjg]; exact hh, rfl⟩
      · exact .inr ⟨g', List.mem_cons_of_mem _ hg', hsite, rfl⟩
  have hholds' : ∀ j i, u.Holds (g :: gs) j i → v.Holds gs j i := fun j i hj => by
    obtain ⟨h, hh, rfl⟩ | ⟨g', hg', rfl, rfl⟩ := hj
    · have hjg : j ≠ g.site := fun hjg => by
        rw [hjg, hnil] at hh
        cases hh
      exact .inl ⟨h, by rw [hother j hjg]; exact hh, rfl⟩
    · obtain rfl | hg' := List.mem_cons.1 hg'
      · exact .inl ⟨hkeyy, by rw [hsame]; exact hkey, hkeyslot⟩
      · exact .inr ⟨g', hg', rfl, rfl⟩
  refine
    { keyless := t.keyless, work := t.work.trans hwork.work, memory := fun a hf ha => by rw [hmem]; exact t.memory a hf ha
      fresh := fun j hj hw => ?_, marked := fun j hj hm => ?_, done := fun j hj he => ?_, waiter := fun j hj hw => ?_
      taken := fun j hj => by rw [hpool]; exact t.taken j hj, served := fun j hj => by rw [hpool]; exact t.served j hj
      grants := fun g' hg' => ?_, grantsOnce := honce, heldDrawn := fun j i hj => by rw [hslot]; exact t.heldDrawn j i (hholds j i hj)
      heldOnce := fun j j' i hj hj' => t.heldOnce j j' i (hholds j i hj) (hholds j' i hj')
      source := fun j i hj hw => t.source j i (hholds j i hj) hw, nonzero := fun j h hj => ?_
      returned := fun j hj he h hkeyj hpulsed => ?_, dry := ?_, attn := fun hnone => absurd (hnone g.site) hgw
      reports := fun j hj => by rw [hsched]; exact t.reports j hj }
  · rw [hother j fun hjg => hgw (hjg ▸ hw), t.fresh j hj hw]
  · rw [hother j fun hjg => hgl (hjg ▸ hj), t.marked j hj hm]
  · have hjg : j ≠ g.site := fun hjg => hgl (hjg ▸ hj)
    have hdone := t.done j hj he
    refine hdone.of_kept (hother j hjg) (by rw [hpool]; exact hdone.noDraw) (by rw [hreq j hjg]; exact hdone.noRequest)
      (by rw [hsched]; exact hdone.reported) (fun i hi => ⟨(hslot i).trans hi, fun _ _ _ => by rw [hmem]⟩) (fun _ _ _ _ => by rw [hmem])
      fun _ => by rw [hmem]
  · by_cases hjg : j = g.site
    · subst hjg
      refine .inr (.inr ⟨by rw [hpool]; exact hgu, ?_, g.slot, ?_⟩)
      · rw [heq]
        show look (put _ _ _) _ ≠ none
        rw [look_put_same]
        nofun
      · rw [hsame, ← hgsite]
        exact hserved
    · obtain ⟨hw', hsite⟩ | ⟨g', hg', hsite⟩ | ⟨hnone, hr, i, hi⟩ := t.waiter j hj hw
      · exact .inl ⟨by rw [hpool]; exact hw', (hother j hjg).trans hsite⟩
      · obtain rfl | hg' := List.mem_cons.1 hg'
        · exact absurd hsite.symm hjg
        · exact .inr (.inl ⟨g', hg', hsite⟩)
      · exact .inr (.inr ⟨by rw [hpool]; exact hnone, by rw [hreq j hjg]; exact hr, i, by rw [hother j hjg]; exact hi⟩)
  · obtain ⟨hg₁, hg₂, hg₃, hg₄, hg₅⟩ := t.grants g' (List.mem_cons_of_mem _ hg')
    have hgg : g'.site ≠ g.site := fun hgg => hnotin (hgg ▸ List.mem_map_of_mem hg')
    exact ⟨hg₁, hg₂, by rw [hpool]; exact hg₃, (hother _ hgg).trans hg₄, hg₅⟩
  · by_cases hjg : j = g.site
    · rw [hjg, hsame, hkey] at hj
      obtain rfl := Option.some.inj hj
      exact hkeynz
    · rw [hother j hjg] at hj
      exact t.nonzero j h hj
  · rw [hslot]
    obtain hloaded | ⟨i, hi, hheld⟩ := t.returned j hj he h hkeyj hpulsed
    · exact .inl hloaded
    · exact .inr ⟨i, hi, hholds' _ _ hheld⟩
  · intro hw
    rw [hpool] at hw ⊢
    obtain ⟨hredraw, hloaded⟩ := t.dry hw
    exact ⟨hredraw, fun i => by rw [hslot]; exact hloaded i⟩

/-- All key grants on their way are taken. -/
theorem State.Turns.deliverAll (t : z.Turns stop ends o l u gs) : z.Turns stop ends o l (u.deliver gs) [] := by
  unfold State.deliver
  induction gs generalizing u with
  | nil => exact t
  | cons g gs ih => exact ih t.deliver

/-- The supply unit's own business does not matter to the turns. -/
theorem State.Turns.onSupply (t : z.Turns stop ends o l u gs) (g : Supply → Supply) : z.Turns stop ends o l (u.onSupply g) gs :=
  { t with
    work := t.work.trans ⟨_, _, _, _, _, _, _, rfl⟩
    done := fun k hk he => (t.done k hk he).of_kept (v := u.onSupply g) rfl (t.done k hk he).noDraw (t.done k hk he).noRequest
      (t.done k hk he).reported (fun _ hi => ⟨hi, fun _ _ _ => rfl⟩) (fun _ _ _ _ => rfl) fun _ => rfl }

end Turns

end Sys2Proof.Machine

/-!
PROOF. The turn that ends a site keeps `State.Turns` (R51 to R53, R121, R127, R128).
-/

namespace Sys2Proof.Machine

section EndingTurn

variable {z u v : State} {stop : SiteNo → StopTaken} {ends : SiteNo → Bool} {o : SiteOutcome} {l : List SiteNo} {gs gs' : List KeyGrant}
  {f : FrameNo} {k : SiteNo}

/-- How a site that no key grant is on its way to stands before its turn (R40, R121). -/
theorem State.Turns.before (t : z.Turns stop ends o l u gs) (hk : k ∉ l) (hgs : ∀ g ∈ gs, g.site ≠ k) :
    u.site k = z.site k ∨ (look z.pool.waiting k ≠ none ∧ (z.site k).seq.key = none ∧ ∃ i, (z.site k).Served (u.site k) i) := by
  by_cases hwait : look z.pool.waiting k = none
  · exact .inl (t.fresh k hk hwait)
  · obtain ⟨-, hsite⟩ | ⟨g, hg, hsite⟩ | ⟨-, -, hserved⟩ := t.waiter k hk hwait
    · exact .inl hsite
    · exact absurd hsite (hgs g hg)
    · exact .inr ⟨hwait, t.keyless k hwait, hserved⟩

/-- The slot whose key the ending site held is the only one whose state the turn may change, and it is DRAWN before it. -/
theorem State.EndTurn.slot_kept (e : u.EndTurn f k o v gs') {i : SlotNo}
    (hdrawn : ∀ h, (u.site k).seq.key = some h → u.slotState h.slot = .drawn) (hi : u.slotState i ≠ .drawn) :
    v.slotState i = u.slotState i :=
  e.slots i fun h hkey hslot => hi (hslot ▸ hdrawn h hkey)

/-- A key grant that the end of site k makes: site k held the key, no pulse was issued with it, and the site it goes to waited (R121, R128). -/
theorem State.EndTurn.grant (e : u.EndTurn f k o v gs') {g : KeyGrant} (hg : g ∈ gs') :
    ∃ h, (u.site k).seq.key = some h ∧ (u.site k).seq.pulsed = false ∧ g.slot = h.slot ∧ gs' = [g] ∧ g.site ≠ k
      ∧ look u.pool.waiting g.site ≠ none ∧ (KeyIsNonzero h.buffer → KeyIsNonzero g.buffer) ∧ v.slotState h.slot = .drawn
      ∧ v.pool.redraw = [] ∧ v.pool.waiting = put (put u.pool.waiting k none) g.site none := by
  have hspent := e.spent
  cases hkey : (u.site k).seq.key with
  | none =>
    obtain ⟨hnil, -⟩ := hspent (.inl hkey)
    rw [hnil] at hg
    exact absurd hg List.not_mem_nil
  | some h =>
    cases hpulsed : (u.site k).seq.pulsed with
    | true =>
      obtain ⟨hnil, -⟩ := hspent (.inr hpulsed)
      rw [hnil] at hg
      exact absurd hg List.not_mem_nil
    | false =>
      obtain ⟨-, hnil, -⟩ | ⟨j, len, g', hnext, hgs, rfl, hslot, hnz, hstate, hredraw, hwait⟩ := e.returned h hkey hpulsed
      · rw [hnil] at hg
        exact absurd hg List.not_mem_nil
      · rw [hgs] at hg
        obtain rfl := List.mem_singleton.1 hg
        have hwaits : look (put u.pool.waiting k none) g.site = some len := Pool.nextWaiting_waits hnext
        have hne : g.site ≠ k := fun hgk => by
          rw [hgk, look_put_same] at hwaits
          cases hwaits
        rw [look_put_other _ _ _ _ (Ne.symm hne)] at hwaits
        exact ⟨h, rfl, rfl, hslot, hgs, hne, by rw [hwaits]; nofun, hnz, hstate, hredraw, hwait⟩

/-- Without a grant the end of site k only takes its own draw request off the list (R51). -/
theorem State.EndTurn.waiting_of_no_grant (e : u.EndTurn f k o v []) : v.pool.waiting = put u.pool.waiting k none := by
  cases hkey : (u.site k).seq.key with
  | none => exact (e.spent (.inl hkey)).2.1
  | some h =>
    cases hpulsed : (u.site k).seq.pulsed with
    | true => exact (e.spent (.inr hpulsed)).2.1
    | false =>
      obtain ⟨-, -, -, hwait⟩ | ⟨_, _, _, -, hg, -⟩ := e.returned h hkey hpulsed
      · exact hwait
      · cases hg

/-- Who waits after the end of site k: neither it nor the site its key is granted to (R51, R121). -/
theorem State.EndTurn.waiting (e : u.EndTurn f k o v gs') (j : SiteNo) :
    (look v.pool.waiting j = none ∧ (j = k ∨ ∃ g ∈ gs', g.site = j)) ∨ (j ≠ k ∧ look v.pool.waiting j = look u.pool.waiting j) := by
  by_cases hgs : gs' = []
  · subst hgs
    rw [e.waiting_of_no_grant, look_put]
    by_cases hj : k = j
    · exact .inl ⟨if_pos hj, .inl hj.symm⟩
    · exact .inr ⟨Ne.symm hj, if_neg hj⟩
  · obtain ⟨g, hg⟩ := List.exists_mem_of_ne_nil gs' hgs
    obtain ⟨-, -, -, -, -, -, -, -, -, -, hwait⟩ := e.grant hg
    rw [hwait, look_put, look_put]
    by_cases hjg : g.site = j
    · exact .inl ⟨if_pos hjg, .inr ⟨g, hg, hjg⟩⟩
    · rw [if_neg hjg]
      by_cases hj : k = j
      · exact .inl ⟨if_pos hj, .inl hj.symm⟩
      · exact .inr ⟨Ne.symm hj, if_neg hj⟩

/-- Still no slot is drawable while a site waits (R121, R128). -/
theorem State.EndTurn.dry (e : u.EndTurn f k o v gs') (h : u.Dry) : v.Dry := by
  rintro ⟨j, hj⟩
  obtain ⟨hnone, -⟩ | ⟨hjk, hwait⟩ := e.waiting j
  · exact absurd hnone hj
  rw [hwait] at hj
  obtain ⟨hredraw, hloaded⟩ := h ⟨j, hj⟩
  cases hkey : (u.site k).seq.key with
  | none => exact ⟨(e.spent (.inl hkey)).2.2.trans hredraw, fun i => by rw [e.slots i (by rw [hkey]; nofun)]; exact hloaded i⟩
  | some held =>
    have hother : v.slotState held.slot ≠ .loaded → ∀ i, v.slotState i ≠ .loaded := fun hheld i => by
      by_cases hi : held.slot = i
      · rwa [← hi]
      · rw [e.slots i (by rw [hkey]; rintro _ ⟨⟩; exact hi)]
        exact hloaded i
    cases hpulsed : (u.site k).seq.pulsed with
    | true =>
      refine ⟨(e.spent (.inr hpulsed)).2.2.trans hredraw, hother ?_⟩
      rw [(e.voided held hkey hpulsed).1]
      nofun
    | false =>
      obtain ⟨hnone, -⟩ | ⟨_, _, _, -, -, -, -, -, hstate, hredraw', -⟩ := e.returned held hkey hpulsed
      · exact absurd (hnone j hjk) hj
      · exact ⟨hredraw', hother (by rw [hstate]; nofun)⟩

/-- The end of site k leaves it with no key and no grant on its way. -/
theorem State.EndTurn.holds_iff (e : u.EndTurn f k o v gs') (hgs : ∀ g ∈ gs, g.site ≠ k) (j : SiteNo) (i : SlotNo) :
    v.Holds (gs ++ gs') j i ↔ (j ≠ k ∧ u.Holds gs j i) ∨ ∃ g ∈ gs', g.site = j ∧ g.slot = i := by
  have hsame : v.site k = (u.site k).asEnded o := by rw [State.site, e.sites]; exact look_put_same _ _ _
  have hother : ∀ j, j ≠ k → v.site j = u.site j := fun j hj => by rw [State.site, e.sites]; exact look_put_other _ _ _ _ (Ne.symm hj)
  constructor
  · rintro (⟨h, hkey, rfl⟩ | ⟨g, hg, rfl, rfl⟩)
    · have hj : j ≠ k := fun hj => by
        rw [hj, hsame] at hkey
        cases hkey
      exact .inl ⟨hj, .inl ⟨h, by rw [← hother j hj]; exact hkey, rfl⟩⟩
    · obtain hg | hg := List.mem_append.1 hg
      · exact .inl ⟨hgs g hg, .inr ⟨g, hg, rfl, rfl⟩⟩
      · exact .inr ⟨g, hg, rfl, rfl⟩
  · rintro (⟨hj, ⟨h, hkey, rfl⟩ | ⟨g, hg, rfl, rfl⟩⟩ | ⟨g, hg, rfl, rfl⟩)
    · exact .inl ⟨h, by rw [hother j hj]; exact hkey, rfl⟩
    · exact .inr ⟨g, List.mem_append_left _ hg, rfl, rfl⟩
    · exact .inr ⟨g, List.mem_append_right _ hg, rfl, rfl⟩

/-- What the record of the site whose turn it is says of its key. -/
theorem State.Turns.recordNames (t : z.Turns stop ends o l u gs) (hk : k ∉ l) (hgs : ∀ g ∈ gs, g.site ≠ k) :
    z.RecordNames k (u.site k).keyFate (u.site k).seq.heldSerial := by
  obtain hsite | ⟨hwait, hkey, i, hserved⟩ := t.before hk hgs
  · rw [hsite, State.RecordNames, Site.keyFate, Sequencer.heldSerial]
    cases (z.site k).seq.key with
    | none => exact .inl ⟨rfl, rfl⟩
    | some h => exact ⟨rfl, rfl⟩
  · obtain ⟨h, hkey', -⟩ := hserved.key
    rw [State.RecordNames, hkey]
    refine .inr ⟨hwait, ?_⟩
    simp only [Site.keyFate, hkey', hserved.pulsed, Bool.false_eq_true, if_false]

/-- Before its turn a site stands at its die, and what its end looks at is as it was at the start. -/
theorem State.Turns.mapEntry (t : z.Turns stop ends o l u gs) (hk : k ∉ l) (hgs : ∀ g ∈ gs, g.site ≠ k) :
    (u.site k).seq.dieX = (z.site k).seq.dieX ∧ (u.site k).seq.dieY = (z.site k).seq.dieY ∧ u.mapEntryOf k = z.mapEntryOf k := by
  obtain hsite | ⟨-, -, i, hserved⟩ := t.before hk hgs
  · exact ⟨by rw [hsite], by rw [hsite], by rw [State.mapEntryOf, hsite]; rfl⟩
  · obtain ⟨hx, hy, -⟩ := hserved.kept
    exact ⟨hx, hy, by rw [State.mapEntryOf, hx, hy]; rfl⟩

theorem frameBytes_outside {f : FrameNo} {k : SiteNo} {i : Nat} (hi : i < 38) :
    frameBase f + 0x400 ≤ siteRecordBase f k + i ∧ siteRecordBase f k + i < frameBase f + 0x800 := by
  unfold siteRecordBase
  omega

theorem le_mapEntryOf (s : State) (k : SiteNo) : 0xC000 ≤ s.mapEntryOf k := by
  unfold State.mapEntryOf mapBase
  omega

theorem slotBase_range (i : SlotNo) : 0x4000 ≤ slotBase i ∧ slotBase i + 0x40 ≤ 0x8000 := by
  unfold slotBase
  omega

theorem slotBase_apart {i j : SlotNo} (h : i ≠ j) : slotBase i + 0x40 ≤ slotBase j ∨ slotBase j + 0x40 ≤ slotBase i := by
  have : i.val ≠ j.val := fun hv => h (Fin.ext hv)
  unfold slotBase
  omega

/-- The site whose turn it is has ended. -/
theorem State.Turns.endedIn (t : z.Turns stop ends o l u gs) (hk : k ∉ l) (hgs : ∀ g ∈ gs, g.site ≠ k) (hf : z.sched.running = some f)
    (e : (u.onSite k (Site.stopped (stop k))).EndTurn f k o v gs') : z.EndedIn v (stop k) o k := by
  set w := u.onSite k (Site.stopped (stop k)) with hw
  have hwsite : w.site k = (u.site k).stopped (stop k) := State.onSite_site_same _ _ _
  have hwaitk := e.waiting k
  obtain ⟨hx, hy, hentry⟩ := t.mapEntry hk hgs
  have hwentry : w.mapEntryOf k = z.mapEntryOf k := by rw [← hentry, State.mapEntryOf, hwsite]; rfl
  have hrecipe : w.workingRecipe = z.workingRecipe := t.work.workingRecipe
  have hfate : (w.site k).keyFate = (u.site k).keyFate := by rw [hwsite]; rfl
  have hserial : (w.site k).seq.heldSerial = (u.site k).seq.heldSerial := by rw [hwsite]; rfl
  refine ⟨?_, ?_, ?_, ⟨(u.site k).stopped (stop k), ?_, fun hwait => ?_, (u.site k).keyFate, (u.site k).seq.heldSerial,
    t.recordNames hk hgs, fun f' hf' i hi => ?_⟩, fun h hkey hpulsed => ?_, fun hon _ hnone => ?_⟩
  · obtain ⟨hnone, -⟩ | ⟨hne, -⟩ := hwaitk
    · exact hnone
    · exact absurd rfl hne
  · rw [e.arbiter, State.withdrawBurst_request]
  · rw [e.ended, look_put_same]
  · rw [State.site, e.sites, hwsite]
    exact look_put_same _ _ _
  · rw [t.fresh k hk hwait]
  · obtain rfl : f = f' := by rw [hf] at hf'; exact Option.some.inj hf'
    have := e.record i hi
    rwa [hfate, hserial, hrecipe, hwsite] at this
  · have hwait : look z.pool.waiting k = none := by
      by_contra hwait
      rw [t.keyless k hwait] at hkey
      cases hkey
    have hsite := t.fresh k hk hwait
    obtain ⟨hstate, hnames⟩ := e.voided h (by rw [hwsite, hsite]; exact hkey) (by rw [hwsite, hsite]; exact hpulsed)
    refine ⟨hstate, fun f' hf' => ?_⟩
    obtain rfl : f = f' := by rw [hf] at hf'; exact Option.some.inj hf'
    have hseq : w.frameSeq f = z.frameSeq f := Memory.read32_congr fun j hj => t.memory _
      (fun g hg => by
        obtain rfl : f = g := by rw [hf] at hg; exact Option.some.inj hg
        omega)
      (by have := frameBase_le f; omega)
    have hwafer : w.waferId = z.waferId := Memory.read32_congr fun j hj => t.memory _
      (fun g _ => by
        have := le_frameBase g
        unfold waferBase
        omega)
      (by unfold waferBase; omega)
    rw [hseq] at hnames
    unfold State.DispositionNames at hnames ⊢
    rw [hwafer, hwsite, hsite] at hnames
    exact hnames
  · have hpulsed : (u.site k).seq.pulsed = (z.site k).seq.pulsed := by
      obtain hsite | ⟨-, hkey, i, hserved⟩ := t.before hk hgs
      · rw [hsite]
      · rw [hserved.pulsed, hnone hkey]
    have hcode := e.map (by rw [hwsite]; show onMap (u.site k).seq.dieX (u.site k).seq.dieY = true; rw [hx, hy]; exact hon)
    rw [hwentry, hwsite] at hcode
    rw [hcode, ← hpulsed]
    rfl

/-- A running site has its turn and ends (R51 to R53, R121, R127, R128). -/
theorem State.Turns.endTurn (t : z.Turns stop ends o l u gs) (hk : k ∉ l) (hends : ends k = true) (hgs : ∀ g ∈ gs, g.site ≠ k)
    (hrun : (z.site k).seq.state.isRunning = true) (hf : z.sched.running = some f)
    (e : (u.onSite k (Site.stopped (stop k))).EndTurn f k o v gs') : z.Turns stop ends o (l ++ [k]) v (gs ++ gs') := by
  have hended := t.endedIn hk hgs hf e
  obtain ⟨-, -, hentry⟩ := t.mapEntry hk hgs
  set w := u.onSite k (Site.stopped (stop k)) with hw
  have hwsite : w.site k = (u.site k).stopped (stop k) := State.onSite_site_same _ _ _
  have hwother : ∀ j, j ≠ k → w.site j = u.site j := fun j hj => look_put_other _ _ _ _ (Ne.symm hj)
  have hwkey : ∀ j, (w.site j).seq.key = (u.site j).seq.key := fun j => by
    by_cases hj : j = k
    · rw [hj, hwsite]
      rfl
    · rw [hwother j hj]
  have hwpulsed : (w.site k).seq.pulsed = (u.site k).seq.pulsed := by rw [hwsite]; rfl
  have hwholds : ∀ j i, w.Holds gs j i ↔ u.Holds gs j i := fun j i => by rw [State.Holds, State.Holds, hwkey]
  have hwentry : w.mapEntryOf k = z.mapEntryOf k := by rw [← hentry, State.mapEntryOf, hwsite]; rfl
  have hwork := (State.onSite_endWork k (Site.stopped (stop k)) u).trans e.work
  have hrunning : u.sched.running = z.sched.running := by
    obtain ⟨-, -, hr, -⟩ := t.work.sched_kept
    exact hr
  have hin : ∀ j, j ∈ l ++ [k] ↔ j ∈ l ∨ j = k := fun j => by simp
  have hvother : ∀ j, j ≠ k → v.site j = u.site j := fun j hj => by
    rw [State.site, e.sites, look_put_other _ _ _ _ (Ne.symm hj)]
    exact hwother j hj
  have hholds : ∀ j i, v.Holds (gs ++ gs') j i ↔ (j ≠ k ∧ u.Holds gs j i) ∨ ∃ g ∈ gs', g.site = j ∧ g.slot = i := fun j i => by
    rw [e.holds_iff hgs, hwholds]
  have hheldk : ∀ h, (w.site k).seq.key = some h → u.Holds gs k h.slot := fun h hkey => .inl ⟨h, (hwkey k).symm.trans hkey, rfl⟩
  have hdrawn : ∀ h, (w.site k).seq.key = some h → w.slotState h.slot = .drawn := fun h hkey => t.heldDrawn k _ (hheldk h hkey)
  have hkept : ∀ i, u.slotState i ≠ .drawn → v.slotState i = u.slotState i := fun i hi => e.slot_kept hdrawn hi
  have hreq : ∀ j, j ≠ k → look v.arbiter.requests j = look u.arbiter.requests j := fun j hj => by
    rw [e.arbiter, State.withdrawBurst_eq]
    exact look_put_other _ _ _ _ (Ne.symm hj)
  have hnone : ∀ j, look u.pool.waiting j = none → look v.pool.waiting j = none := fun j hj => by
    obtain ⟨hnone, -⟩ | ⟨-, hwait⟩ := e.waiting j
    · exact hnone
    · exact hwait.trans hj
  have hgrant : ∀ g ∈ gs', look z.pool.waiting g.site ≠ none ∧ look u.pool.waiting g.site ≠ none ∧ g.site ≠ k ∧ g.site ∉ l := fun g hg => by
    obtain ⟨-, -, -, -, -, hne, hwaits, -⟩ := e.grant hg
    exact ⟨fun hz => hwaits (t.served _ hz), hwaits, hne, fun hgl => hwaits (t.taken _ hgl)⟩
  have honce : ∀ j i, j ≠ k → u.Holds gs j i → ∀ g ∈ gs', g.slot ≠ i := fun j i hj hheld g hg hslot => by
    obtain ⟨h, hkey, -, hgslot, -⟩ := e.grant hg
    exact hj (t.heldOnce j k i hheld (by rw [← hslot, hgslot]; exact hheldk h hkey))
  -- a slot that some site has returned stays LOADED or with a holder that waited
  have hback : ∀ i, (u.slotState i = .loaded ∨ ∃ j, look z.pool.waiting j ≠ none ∧ u.Holds gs j i) →
      v.slotState i = .loaded ∨ ∃ j, look z.pool.waiting j ≠ none ∧ v.Holds (gs ++ gs') j i := by
    rintro i (hloaded | ⟨j, hwait, hheld⟩)
    · exact .inl ((hkept i (by rw [hloaded]; nofun)).trans hloaded)
    · by_cases hj : j = k
      · subst hj
        obtain ⟨h, hkey, rfl⟩ := hheld.resolve_right fun ⟨g, hg, hsite, _⟩ => hgs g hg hsite
        have hpulsed : (u.site j).seq.pulsed = false := by
          obtain hsite | ⟨-, -, i, hserved⟩ := t.before hk hgs
          · rw [hsite, t.keyless j hwait] at hkey
            cases hkey
          · exact hserved.pulsed
        obtain ⟨-, -, hstate, -⟩ | ⟨j', _, g, -, rfl, hsite, hslot, -⟩ := e.returned h (by rw [hwkey]; exact hkey)
          (by rw [hwpulsed]; exact hpulsed)
        · exact .inl hstate
        · exact .inr ⟨g.site, (hgrant g List.mem_cons_self).1, (hholds _ _).2 (.inr ⟨g, List.mem_cons_self, rfl, hslot⟩)⟩
      · exact .inr ⟨j, hwait, (hholds j i).2 (.inl ⟨hj, hheld⟩)⟩
  refine
    { keyless := t.keyless, work := t.work.trans hwork.work
      memory := fun a hframe ha => (hwork.memory a (by rw [hrunning]; exact hframe) ha).trans (t.memory a hframe ha)
      fresh := fun j hj hwait => ?_, marked := fun j hj hm => ?_, done := fun j hj he => ?_, waiter := fun j hj hwait => ?_
      taken := fun j hj => ?_, served := fun j hj => hnone j (t.served j hj), grants := fun g hg => ?_, grantsOnce := ?_
      heldDrawn := fun j i hj => ?_, heldOnce := fun j j' i hj hj' => ?_, source := fun j i hj hwait => ?_, nonzero := fun j h hj => ?_
      returned := fun j hj he h hkeyj hpulsed => ?_, dry := e.dry t.dry, attn := fun hno => ?_
      reports := fun j hj => ?_ }
  · rw [hin, not_or] at hj
    rw [hvother j hj.2, t.fresh j hj.1 hwait]
  · obtain hj | rfl := (hin j).1 hj
    · rw [hvother j fun hjk => hk (hjk ▸ hj), t.marked j hj hm]
    · rw [hends] at hm
      cases hm
  · obtain hj | rfl := (hin j).1 hj
    · have hjk : j ≠ k := fun hjk => hk (hjk ▸ hj)
      have hdone := t.done j hj he
      have hlow := fun f j => siteRecordBase_lt f j
      have hhigh := fun s j => le_mapEntryOf s j
      have hslots := slotBase_range
      refine hdone.of_kept (hvother j hjk) (hnone j hdone.noDraw) (by rw [hreq j hjk]; exact hdone.noRequest) ?_
        (fun i hi => ⟨(hkept i (by rw [hi]; nofun)).trans hi, fun a hlo hhi => ?_⟩) (fun f' hf' i hi => ?_) fun hapart => ?_
      · rw [e.ended, look_put_other _ _ _ _ (Ne.symm hjk)]
        exact hdone.reported
      · have := hlow f k
        have := hhigh w k
        have := hslots i
        refine e.memory a (by omega) (by omega) fun h hkey => ?_
        have := slotBase_apart (i := i) (j := h.slot) fun hih => by
          have := hdrawn h hkey
          rw [← hih] at this
          exact absurd (this.symm.trans hi) nofun
        omega
      · obtain rfl : f = f' := by rw [hf] at hf'; exact Option.some.inj hf'
        have := hlow f j
        have := hhigh w k
        have := siteRecordBase_apart f hjk
        refine e.memory _ (by omega) (by omega) fun h hkey => ?_
        have := hslots h.slot
        omega
      · have := hlow f k
        have := hhigh z j
        refine e.memory _ (by omega) ?_ fun h hkey => ?_
        · rw [hwentry]
          exact Ne.symm (hapart k (Ne.symm hjk) hrun)
        · have := hslots h.slot
          omega
    · exact hended
  · rw [hin, not_or] at hj
    obtain ⟨hjl, hjk⟩ := hj
    obtain ⟨hwait', hsite⟩ | ⟨g, hg, hsite⟩ | ⟨hno, hr, hserved⟩ := t.waiter j hjl hwait
    · obtain ⟨-, hjk' | ⟨g, hg, hsite'⟩⟩ | ⟨-, hsame⟩ := e.waiting j
      · exact absurd hjk' hjk
      · exact .inr (.inl ⟨g, List.mem_append_right _ hg, hsite'⟩)
      · exact .inl ⟨hsame.trans hwait', (hvother j hjk).trans hsite⟩
    · exact .inr (.inl ⟨g, List.mem_append_left _ hg, hsite⟩)
    · exact .inr (.inr ⟨hnone j hno, by rw [hreq j hjk]; exact hr, by rw [hvother j hjk]; exact hserved⟩)
  · obtain hj | rfl := (hin j).1 hj
    · exact hnone j (t.taken j hj)
    · exact hended.noDraw
  · obtain hg | hg := List.mem_append.1 hg
    · obtain ⟨hg₁, hg₂, hg₃, hg₄, hg₅⟩ := t.grants g hg
      have hgk := hgs g hg
      exact ⟨by rw [hin, not_or]; exact ⟨hg₁, hgk⟩, hg₂, hnone _ hg₃, (hvother _ hgk).trans hg₄, hg₅⟩
    · obtain ⟨hz, hu, hgk, hgl⟩ := hgrant g hg
      obtain ⟨h, hkey, -, -, -, -, -, hnz, -, -, hwait⟩ := e.grant hg
      refine ⟨by rw [hin, not_or]; exact ⟨hgl, hgk⟩, hz, by rw [hwait, look_put_same], (hvother _ hgk).trans ?_,
        hnz (t.nonzero k h ((hwkey k).symm.trans hkey))⟩
      obtain ⟨-, hsite⟩ | ⟨g', hg', hsite⟩ | ⟨hno, -⟩ := t.waiter _ hgl hz
      · exact hsite
      · obtain ⟨-, -, hno, -⟩ := t.grants g' hg'
        rw [hsite] at hno
        exact absurd hno hu
      · exact absurd hno hu
  · rw [List.map_append, List.nodup_append]
    refine ⟨t.grantsOnce, ?_, fun a ha b hb hab => ?_⟩
    · cases hgs' : gs' with
      | nil => exact List.nodup_nil
      | cons g rest =>
        obtain ⟨-, -, -, -, hone, -⟩ := e.grant (g := g) (by rw [hgs']; exact List.mem_cons_self)
        rw [← hgs', hone]
        exact List.nodup_singleton _
    · obtain ⟨g, hg, rfl⟩ := List.mem_map.1 ha
      obtain ⟨g', hg', rfl⟩ := List.mem_map.1 hb
      obtain ⟨-, -, hno, -⟩ := t.grants g hg
      exact (hgrant g' hg').2.1 (hab ▸ hno)
  · obtain ⟨hjk, hheld⟩ | ⟨g, hg, -, hslot⟩ := (hholds j i).1 hj
    · rw [e.slots i fun h hkey hslot => hjk (t.heldOnce j k i hheld (hslot ▸ hheldk h hkey))]
      exact t.heldDrawn j i hheld
    · obtain ⟨h, -, -, hgslot, -, -, -, -, hstate, -⟩ := e.grant hg
      rw [← hslot, hgslot, hstate]
  · obtain ⟨hjk, hheld⟩ | ⟨g, hg, hsite, hslot⟩ := (hholds j i).1 hj
    · obtain ⟨hjk', hheld'⟩ | ⟨g', hg', -, hslot'⟩ := (hholds j' i).1 hj'
      · exact t.heldOnce j j' i hheld hheld'
      · exact absurd hslot' (honce j i hjk hheld g' hg')
    · obtain ⟨hjk', hheld'⟩ | ⟨g', hg', hsite', -⟩ := (hholds j' i).1 hj'
      · exact absurd hslot (honce j' i hjk' hheld' g hg)
      · obtain ⟨-, -, -, -, hone, -⟩ := e.grant hg
        rw [hone] at hg'
        rw [← hsite, ← hsite', List.mem_singleton.1 hg']
  · obtain ⟨-, hheld⟩ | ⟨g, hg, -, hslot⟩ := (hholds j i).1 hj
    · obtain ⟨k', hk', hsource⟩ := t.source j i hheld hwait
      exact ⟨k', (hin k').2 (.inl hk'), hsource⟩
    · obtain ⟨h, hkey, hpulsed, hgslot, -⟩ := e.grant hg
      by_cases hwaitk : look z.pool.waiting k = none
      · have hsite := t.fresh k hk hwaitk
        rw [hwkey, hsite] at hkey
        rw [hwpulsed, hsite] at hpulsed
        exact ⟨k, (hin k).2 (.inr rfl), hends, h, hkey, hpulsed, hgslot.symm.trans hslot⟩
      · obtain ⟨k', hk', hsource⟩ := t.source k i (by rw [← hslot, hgslot]; exact hheldk h hkey) hwaitk
        exact ⟨k', (hin k').2 (.inl hk'), hsource⟩
  · have hjk : j ≠ k := fun hjk => by
      rw [hjk, State.site, e.sites, look_put_same] at hj
      cases hj
    rw [hvother j hjk] at hj
    exact t.nonzero j h hj
  · obtain hj | rfl := (hin j).1 hj
    · exact hback _ (t.returned j hj he h hkeyj hpulsed)
    · have hsite := t.fresh j hk (by
        by_contra hwait
        rw [t.keyless j hwait] at hkeyj
        cases hkeyj)
      obtain ⟨-, -, hstate, -⟩ | ⟨_, _, g, -, rfl, -, hslot, -⟩ := e.returned h (by rw [hwkey, hsite]; exact hkeyj)
        (by rw [hwpulsed, hsite]; exact hpulsed)
      · exact .inl hstate
      · exact .inr ⟨g.site, (hgrant g List.mem_cons_self).1, (hholds _ _).2 (.inr ⟨g, List.mem_cons_self, rfl, hslot⟩)⟩
  · have hnil : gs' = [] := List.eq_nil_iff_forall_not_mem.2 fun g hg => (hgrant g hg).1 (hno _)
    exact (e.attn hnil).trans (t.attn hno)
  · have hjk : j ≠ k := fun hjk => by
      have := hj ((hin j).2 (.inr hjk))
      rw [hjk, hends] at this
      cases this
    rw [e.ended, look_put_other _ _ _ _ (Ne.symm hjk)]
    exact t.reports j fun hjl => hj ((hin j).2 (.inl hjl))

end EndingTurn

end Sys2Proof.Machine

/-!
PROOF. A stop as the sites of the running frame take it, in whatever order (R52, R55 to R57, R127 to R129).
-/

namespace Sys2Proof.Machine

/-! ### One site takes a stop -/

/-- Site k takes a stop, which ends it if it finds its boundary at once (R55, R56). -/
def State.stopTurn (stop : StopTaken) (ends : Bool) (k : SiteNo) (s : State) : State :=
  if ends then (s.onSite k (Site.stopped stop)).endSite k .aborted else s.onSite k (Site.stopped stop)

/-- The sites that a HARD stop ends at once (R55). -/
def State.hardEnds (s : State) (k : SiteNo) : Bool := (s.site k).seq.state.boundaryAtOnce

/-- The sites that a SOFT stop ends at once (R56). -/
def State.softEnds (s : State) (k : SiteNo) : Bool := (s.site k).seq.state.boundaryAtOnce && !(s.site k).seq.holdsPulsedKey

theorem Site.stopped_self {stop : StopTaken} {x : Site} (h : x.seq.stopTaken = stop) : x.stopped stop = x := by
  subst h
  rfl

theorem State.onSite_self {k : SiteNo} {g : Site → Site} {s : State} (h : g (s.site k) = s.site k) : s.onSite k g = s := by
  rw [State.onSite, h]
  show { s with sites := put s.sites k (look s.sites k) } = s
  rw [put_look]

theorem State.takeHard_eq {s : State} {k : SiteNo} (hrun : (s.site k).seq.state.isRunning = true) (hstop : (s.site k).seq.stopTaken ≠ .hard) :
    s.takeHard k = State.stopTurn .hard (s.hardEnds k) k s := by
  have hne : ((s.site k).seq.stopTaken != .hard) = true := by simpa using hstop
  rw [State.takeHard, hrun, hne]
  rfl

theorem State.takeSoft_eq {s : State} {k : SiteNo} (hrun : (s.site k).seq.state.isRunning = true) (hstop : (s.site k).seq.stopTaken = .none) :
    s.takeSoft k = State.stopTurn .soft (s.softEnds k) k s := by
  rw [State.takeSoft, hrun, hstop]
  rfl

/-- A site that has taken a HARD stop takes no other (R57). -/
theorem State.takeHard_of_taken {s : State} {k : SiteNo} (hstop : (s.site k).seq.stopTaken = .hard) : s.takeHard k = s := by
  simp [State.takeHard, hstop]

/-! ### The sites take their stops one after the other -/

section Stops

variable {z u : State} {st : StopTaken} {ends : SiteNo → Bool} {l : List SiteNo} {f : FrameNo}

/-- A site that waits for a key is in KEYWAIT, and a key given to it leaves it in BURN_WAIT with no pulse issued: either way a stop ends it as
it would have at the start (R40, R55, R56). -/
theorem State.Turns.stopTurn_congr (t : z.Turns (fun _ => st) ends .aborted l u []) (hwaits : ∀ k, look z.pool.waiting k ≠ none →
    (z.site k).seq.state = .keywait) {k : SiteNo} (hk : k ∉ l) (hrun : (z.site k).seq.state.isRunning = true) :
    (u.site k).seq.state.isRunning = true ∧ (u.site k).seq.stopTaken = (z.site k).seq.stopTaken ∧ u.hardEnds k = z.hardEnds k
      ∧ u.softEnds k = z.softEnds k := by
  obtain hsite | ⟨hwait, hkey, i, hserved⟩ := t.before hk nofun
  · refine ⟨by rw [hsite]; exact hrun, by rw [hsite], by rw [State.hardEnds, hsite]; rfl, by rw [State.softEnds, hsite]; rfl⟩
  · obtain ⟨-, -, hstop⟩ := hserved.kept
    refine ⟨by rw [hserved.state]; rfl, hstop, ?_, ?_⟩
    · rw [State.hardEnds, State.hardEnds, hserved.state, hwaits k hwait]
      rfl
    · rw [State.softEnds, State.softEnds, hserved.state, hwaits k hwait, Sequencer.holdsPulsedKey, Sequencer.holdsPulsedKey, hserved.pulsed,
        hkey]
      simp [SiteState.boundaryAtOnce]

theorem State.Turns.stopTurn (t : z.Turns (fun _ => st) ends .aborted l u []) (hf : z.sched.running = some f) {k : SiteNo} (hk : k ∉ l)
    (hrun : (z.site k).seq.state.isRunning = true) (hrun' : (u.site k).seq.state.isRunning = true)
    (hwait : ends k = false → look z.pool.waiting k = none) : z.Turns (fun _ => st) ends .aborted (l ++ [k]) (u.stopTurn st (ends k) k) [] := by
  unfold State.stopTurn
  split
  · rename_i hends
    have hrunning : u.sched.running = some f := by
      obtain ⟨-, -, hr, -⟩ := t.work.sched_kept
      exact hr.trans hf
    have hturn := State.endSiteWith_turn (u := u.onSite k (Site.stopped st)) (k := k) (o := .aborted) nofun (fun p => by cases p <;> rfl) hrunning
      (by rw [State.onSite_site_same]; exact hrun') t.dry
    exact (t.endTurn hk hends nofun hrun hf hturn).deliverAll
  · rename_i hends
    have hends : ends k = false := by simpa using hends
    exact t.mark hk hends (hwait hends)

/-- Sites that have not had their turns have them in the order of a list. -/
theorem State.Turns.stops {act : SiteNo → State → State} (hf : z.sched.running = some f)
    (hact : ∀ l u k, z.Turns (fun _ => st) ends .aborted l u [] → k ∉ l → (z.site k).seq.state.isRunning = true →
      (u.site k).seq.state.isRunning = true ∧ act k u = u.stopTurn st (ends k) k)
    (hwait : ∀ k, ends k = false → look z.pool.waiting k = none) (t : z.Turns (fun _ => st) ends .aborted l u []) (more : List SiteNo)
    (hnodup : (l ++ more).Nodup) (hrun : ∀ k ∈ more, (z.site k).seq.state.isRunning = true) :
    z.Turns (fun _ => st) ends .aborted (l ++ more) (more.foldl (fun t k => act k t) u) [] := by
  induction more generalizing l u with
  | nil => rwa [List.append_nil]
  | cons k more ih =>
    have hk : k ∉ l := fun hk => (List.nodup_append.1 hnodup).2.2 k hk k List.mem_cons_self rfl
    have hrunk := hrun k List.mem_cons_self
    obtain ⟨hrun', heq⟩ := hact l u k t hk hrunk
    have hturn := t.stopTurn hf hk hrunk hrun' (hwait k)
    rw [← heq] at hturn
    rw [show l ++ k :: more = (l ++ [k]) ++ more by simp] at hnodup ⊢
    exact ih hturn hnodup fun j hj => hrun j (List.mem_cons_of_mem _ hj)

/-! ### When every running site has taken its stop -/

/-- Every running site of z has taken its stop in u (R55, R56, R127, R128). -/
structure State.AllStopped (z : State) (st : StopTaken) (ends : SiteNo → Bool) (u : State) : Prop where
  recipe : u.workingRecipe = z.workingRecipe
  ended : ∀ k, (z.site k).seq.state.isRunning = true → ends k = true → z.EndedIn u st .aborted k
  marked : ∀ k, (z.site k).seq.state.isRunning = true → ends k = false → u.site k = (z.site k).stopped st
  idle : ∀ k, (z.site k).seq.state.isRunning = false → u.site k = z.site k
  returned : ∀ k h, (z.site k).seq.state.isRunning = true → ends k = true → (z.site k).seq.key = some h → (z.site k).seq.pulsed = false →
    u.slotState h.slot = .loaded
  reports : ∀ k, ((z.site k).seq.state.isRunning = true → ends k = false) → look u.sched.ended k = look z.sched.ended k

theorem State.Turns.allStopped (t : z.Turns (fun _ => st) ends .aborted l u []) (hall : ∀ k, k ∈ l ↔ (z.site k).seq.state.isRunning = true)
    (hwaits : ∀ k, look z.pool.waiting k ≠ none → (z.site k).seq.state = .keywait)
    (hends : ∀ k, look z.pool.waiting k ≠ none → ends k = true) : z.AllStopped st ends u where
  recipe := t.work.workingRecipe
  ended := fun k hrun he => t.done k ((hall k).2 hrun) he
  marked := fun k hrun he => t.marked k ((hall k).2 hrun) he
  idle := fun k hidle => by
    refine t.fresh k (fun hk => ?_) ?_
    · rw [(hall k).1 hk] at hidle
      cases hidle
    · by_contra hwait
      rw [hwaits k hwait] at hidle
      cases hidle
  returned := fun k h hrun he hkey hpulsed => by
    refine (t.returned k ((hall k).2 hrun) he h hkey hpulsed).resolve_right ?_
    rintro ⟨j, hwait, ⟨h, hkey, -⟩ | ⟨g, hg, -⟩⟩
    · have hj : j ∈ l := (hall j).2 (by rw [hwaits j hwait]; rfl)
      obtain ⟨y, hy, -⟩ := (t.done j hj (hends j hwait)).site
      rw [hy] at hkey
      cases hkey
    · exact absurd hg List.not_mem_nil
  reports := fun k hk => t.reports k fun hkl => hk ((hall k).1 hkl)

/-- A store into the header of the running frame leaves the sites' work alone. -/
theorem State.AllStopped.store (h : z.AllStopped st ends u) (hf : z.sched.running = some f) {a : Nat} {bs : List Byte}
    (hhi : a + bs.length ≤ frameBase f + 0x400) : z.AllStopped st ends (u.store a bs) where
  recipe := h.recipe
  ended := fun k hrun he => by
    have hdone := h.ended k hrun he
    have hkept : ∀ x, frameBase f + 0x400 ≤ x → Memory.read (u.store a bs).mem x = Memory.read u.mem x := fun x hx =>
      Memory.read_writeBytes_outside _ _ (by omega)
    have hbase := frameBase_le f
    refine hdone.of_kept rfl hdone.noDraw hdone.noRequest hdone.reported (fun i hi => ⟨hi, fun x hx _ => ?_⟩) (fun f' hf' i hi => ?_)
      fun _ => ?_
    · have := slotBase_range i
      exact hkept x (by omega)
    · obtain rfl : f = f' := by rw [hf] at hf'; exact Option.some.inj hf'
      exact hkept _ (frameBytes_outside hi).1
    · have := le_mapEntryOf z k
      exact hkept _ (by omega)
  marked := h.marked
  idle := h.idle
  returned := h.returned
  reports := h.reports

theorem State.EndedIn.endedAs {o : SiteOutcome} {k : SiteNo} (h : z.EndedIn u st o k) : u.EndedAs k o := by
  obtain ⟨y, hy, -⟩ := h.site
  exact State.endedAs_of_site hy h.noDraw h.noRequest h.reported

/-- What the turns leave of an ended site, as the statements say it. -/
theorem State.EndedIn.amongOthers {o : SiteOutcome} {k : SiteNo} (h : z.EndedIn u st o k) (hf : z.sched.running = some f)
    (hrecipe : u.workingRecipe = z.workingRecipe) : z.EndedAmongOthers u f k o st := by
  have hended := h.endedAs
  obtain ⟨-, -, -, ⟨y, hy, hstop, d, serial, hnames, hread⟩, hvoided, hmap⟩ := h
  have hshows : u.RecordShows f k o d.code serial := State.recordShows_of_read fun i hi => by
    rw [hread f hf i hi, hrecipe, hy]
    rfl
  refine ⟨hended, fun hwait => by rw [hy, hstop hwait]; rfl, ?_, fun held hkey hpulsed => ?_, hmap⟩
  · unfold State.RecordNames at hnames
    cases hkey : (z.site k).seq.key with
    | none =>
      rw [hkey] at hnames
      obtain ⟨rfl, rfl⟩ | ⟨hwait, rfl⟩ := hnames
      · exact .inl hshows
      · exact .inr ⟨hwait, serial, hshows⟩
    | some held =>
      rw [hkey] at hnames
      obtain ⟨rfl, rfl⟩ := hnames
      cases hpulsed : (z.site k).seq.pulsed <;> rw [hpulsed] at hshows <;> exact hshows
  · obtain ⟨hstate, hdisp⟩ := hvoided held hkey hpulsed
    exact ⟨hstate, hdisp f hf⟩

/-- A HARD stop of all sites, site by site (R55, R57). -/
theorem State.AllStopped.hardStopped (h : z.AllStopped .hard z.hardEnds u) (k : SiteNo) : z.HardStopped u k := by
  have hended := h.ended k
  have hmarked := h.marked k
  have hidle := h.idle k
  unfold State.HardStopped
  unfold State.hardEnds at hended hmarked
  cases hstate : (z.site k).seq.state <;> rw [hstate] at hended hmarked hidle
  case idle | ended => exact hidle rfl
  case contact | keywait | burnWait => exact (hended rfl rfl).endedAs
  case refer | blank | pulse | verify | final => exact hmarked rfl rfl

/-- A SOFT stop of all sites, site by site (R56, R57). -/
theorem State.AllStopped.softStopped (h : z.AllStopped .soft z.softEnds u) (k : SiteNo) : z.SoftStopped u k := by
  have hended := h.ended k
  have hmarked := h.marked k
  have hidle := h.idle k
  have hholds : (z.site k).seq.holdsPulsedKey = true ↔ (z.site k).seq.pulsed = true ∧ (z.site k).seq.key ≠ none := by
    rw [Sequencer.holdsPulsedKey, Bool.and_eq_true, Option.isSome_iff_ne_none]
  unfold State.SoftStopped
  unfold State.softEnds at hended hmarked
  cases hstate : (z.site k).seq.state <;> rw [hstate] at hended hmarked hidle
  case idle | ended => exact hidle rfl
  case contact | keywait | burnWait =>
    dsimp only
    split
    · rename_i hpulsed
      exact hmarked rfl (by rw [hholds.2 hpulsed]; rfl)
    · rename_i hpulsed
      refine (hended rfl ?_).endedAs
      rw [Bool.eq_false_iff.2 (mt hholds.1 hpulsed)]
      rfl
  case refer | blank | pulse | verify | final => exact hmarked rfl rfl

/-- Whether a site has ended after the stop tells whether the stop ended it. -/
theorem State.AllStopped.ends_of_ended (h : z.AllStopped st ends u) {k : SiteNo} (hrun : (z.site k).seq.state.isRunning = true)
    (hstate : (u.site k).seq.state = .ended) : ends k = true := by
  by_contra hends
  rw [h.marked k hrun (by simpa using hends)] at hstate
  rw [show (z.site k).seq.state = .ended from hstate] at hrun
  cases hrun

end Stops

end Sys2Proof.Machine

/-!
PROOF. The stop of the running frame as a whole (R136, R144): O26.
-/

namespace Sys2Proof.Machine

/-- The state in which the sites take a stop: it is in force, the frame is STOPPING, one choice is made (R144, R148). -/
def State.stopStarts (s : State) (f : FrameNo) (stop : FrameStop) : State := (s.setStop f stop).chosen

theorem State.mem_stopOrder (s : State) (f : FrameNo) (stop : FrameStop) (k : SiteNo) :
    k ∈ (s.setStop f stop).takingOrder ↔ (s.site k).seq.state.isRunning = true := State.mem_takingOrder (s.setStop f stop) k

/-- What the statements say of a stop the sites of frame f have taken. -/
theorem State.AllStopped.settles {s u : State} {f : FrameNo} {stop : FrameStop} {st : StopTaken} {ends : SiteNo → Bool}
    (h : (s.stopStarts f stop).AllStopped st ends u) (hf : s.sched.running = some f)
    (hmem : ∀ a, (a < frameBase f ∨ frameBase f + 0x800 ≤ a) → (a < 0x4000 ∨ (0x8000 ≤ a ∧ a < 0xC000) ∨ 0x10000 ≤ a) →
      Memory.read u.mem a = Memory.read s.mem a)
    (hattn : ∀ i, i ≠ 5 → u.attn.getLsbD i = s.attn.getLsbD i)
    (hrest : u.wafer = s.wafer ∧ u.run = s.run ∧ u.droppedWrites = s.droppedWrites ∧ u.sched.postList = s.sched.postList
      ∧ u.sched.frames = (s.stopStarts f stop).sched.frames) : s.StopSettles u f st where
  ends := fun k hrun hstate => by
    have hamong := (h.ended k hrun (h.ends_of_ended hrun hstate)).amongOthers (f := f) hf h.recipe
    exact ⟨hamong.ended, hamong.site, hamong.record, hamong.voided, hamong.map⟩
  returned := fun k held hrun hstate hkey hpulsed => h.returned k held hrun (h.ends_of_ended hrun hstate) hkey hpulsed
  memory := hmem
  attn := hattn
  rest := by
    obtain ⟨hwafer, hr, hdropped, hposts, hframes⟩ := hrest
    refine ⟨hwafer, hr, hdropped, hposts, fun g hg => ?_⟩
    rw [State.frameState, hframes]
    exact look_put_other _ _ _ _ (Ne.symm hg)

section StopRequest

variable {s : State} {f : FrameNo} {stop : FrameStop} {st : StopTaken} {ends : SiteNo → Bool} {act : SiteNo → State → State}

/-- The state after the sites have taken a stop by a request, with the stop in force written back (R136, R144). -/
def State.requestTaken (s : State) (f : FrameNo) (stop : FrameStop) (act : SiteNo → State → State) : State :=
  State.writeBackStop f ((s.setStop f stop).takingOrder.foldl (fun t k => act k t) (s.stopStarts f stop))

theorem State.bytes32_byte (x : Word) {i : Nat} (hi : i < 4) : (bytes32 x).getD i 0 = x.extractLsb' (8 * i) 8 := by
  obtain rfl | rfl | rfl | rfl : i = 0 ∨ i = 1 ∨ i = 2 ∨ i = 3 := by omega
  all_goals rfl

/-- What a stop request leaves of the frame, its stop word and its sites. -/
theorem State.requestTaken_spec (hf : s.sched.running = some f) (hpool : s.PoolCoherent) (hnonzero : s.KeysNonzero) (hbudget : s.BudgetCoherent)
    (hwork : ∀ k t, State.EndWork t (act k t))
    (hact : ∀ l u k, (s.stopStarts f stop).Turns (fun _ => st) ends .aborted l u [] → k ∉ l → (s.site k).seq.state.isRunning = true →
      (u.site k).seq.state.isRunning = true ∧ act k u = u.stopTurn st (ends k) k)
    (hends : ∀ k, (s.site k).seq.state = .keywait → (s.site k).seq.key = none → ends k = true) :
    ((∃ k, (s.site k).seq.state.isRunning = true ∧ ends k = false ∧ look s.sched.ended k = false) →
        (s.requestTaken f stop act).settle = s.requestTaken f stop act)
      ∧ ((∀ k, look s.sched.ended k = true ∨ ((s.site k).seq.state.isRunning = true ∧ ends k = true)) → f ∉ s.sched.postList →
        (s.requestTaken f stop act).settle.frameState f = .done
          ∧ Memory.read (s.requestTaken f stop act).settle.mem (frameBase f + 0x12) = nat8 stop.completionKind
          ∧ Memory.read32 (s.requestTaken f stop act).settle.mem (frameBase f + 0x04) = BitVec.ofNat 32 stop.code)
      ∧ (s.requestTaken f stop act).frameState f = .stopping ∧ (s.requestTaken f stop act).sched.stop = stop
      ∧ Memory.read32 (s.requestTaken f stop act).mem (frameBase f + 0x04) = BitVec.ofNat 32 stop.code
      ∧ (s.stopStarts f stop).AllStopped st ends (s.requestTaken f stop act) ∧ s.StopSettles (s.requestTaken f stop act) f st := by
  set z := s.stopStarts f stop with hz
  obtain ⟨-, -, -, -, -, hwaits, hkeys, -, hreported, -⟩ := hbudget
  have hzf : z.sched.running = some f := hf
  have hkeyless : ∀ k, look z.pool.waiting k ≠ none → (z.site k).seq.key = none := fun k hk => by
    by_contra hkey
    have hstate : (s.site k).seq.state = .keywait := hwaits k hk
    have := hkeys k hkey
    rw [hstate] at this
    simp at this
  have hwaitends : ∀ k, look z.pool.waiting k ≠ none → ends k = true := fun k hk => hends k (hwaits k hk) (hkeyless k hk)
  have hin := s.mem_stopOrder f stop
  have hnodup := State.takingOrder_nodup (s.setStop f stop)
  set order := (s.setStop f stop).takingOrder with horder
  set w := order.foldl (fun t k => act k t) z with hw
  have hturns : z.Turns (fun _ => st) ends .aborted order w [] := by
    have hstart : z.Turns (fun _ => st) ends .aborted [] z [] := State.Turns.start hpool hnonzero hkeyless
    refine hstart.stops hzf hact (fun k hk => ?_) order hnodup fun k hk => (hin k).1 hk
    by_contra hwait
    rw [hwaitends k hwait] at hk
    cases hk
  have hall : z.AllStopped st ends w := hturns.allStopped hin hwaits hwaitends
  have hend : z.EndWork w := State.foldl_endWork hwork order z
  obtain ⟨hframes, hposts, hrunning, hstop, -⟩ := hend.work.sched_kept
  obtain ⟨hrun, -, -, -, hdropped, hwafer, -⟩ := hend.work.kept
  have hstopw : w.sched.stop = stop := hstop
  set u := s.requestTaken f stop act with hu
  have hueq : u = w.store (frameBase f + 0x004) (bytes32 (BitVec.ofNat 32 stop.code)) := by
    rw [hu, State.requestTaken, ← hz, ← horder, ← hw, State.writeBackStop, hstopw]
    rfl
  have hlen : (bytes32 (BitVec.ofNat 32 stop.code)).length = 4 := rfl
  have husched : u.sched = w.sched := by rw [hueq]; rfl
  have hufield : ∀ a, (a < frameBase f + 0x004 ∨ frameBase f + 0x008 ≤ a) → Memory.read u.mem a = Memory.read w.mem a := fun a ha => by
    rw [hueq]
    exact Memory.read_writeBytes_outside _ _ (by omega)
  have huf : u.sched.running = some f := by rw [husched]; exact hrunning.trans hf
  have hallu : z.AllStopped st ends u := by
    rw [hueq]
    exact hall.store hzf (by omega)
  have hword : ∀ i < 4, Memory.read u.mem (frameBase f + 0x004 + i) = (BitVec.ofNat 32 stop.code).extractLsb' (8 * i) 8 := fun i hi => by
    rw [hueq]
    show Memory.read (Memory.writeBytes _ _ _) _ = _
    rw [Memory.read_writeBytes_inside _ _ (by omega), State.bytes32_byte _ hi]
  have hread32 : ∀ m : Memory, (∀ i < 4, Memory.read m (frameBase f + 0x004 + i) = Memory.read u.mem (frameBase f + 0x004 + i)) →
      Memory.read32 m (frameBase f + 0x004) = BitVec.ofNat 32 stop.code := fun m hm =>
    Memory.read32_of_bytes ((hm 0 (by decide)).trans (hword 0 (by decide))) ((hm 1 (by decide)).trans (hword 1 (by decide)))
      ((hm 2 (by decide)).trans (hword 2 (by decide))) ((hm 3 (by decide)).trans (hword 3 (by decide)))
  refine ⟨fun ⟨k, hrun, hk, hended⟩ => ?_, fun hevery hwaits' => ?_, ?_, by rw [husched]; exact hstop, hread32 _ fun _ _ => rfl, hallu, ?_⟩
  · refine State.settle_of_not_ended (k := k) ?_
    rw [hallu.reports k fun _ => hk]
    exact hended
  · have hended : ∀ k, look u.sched.ended k = true := fun k => by
      obtain hk | ⟨hrun, hk⟩ := hevery k
      · rw [hallu.reports k fun hrun => absurd (hrun.symm.trans (hreported k hk)) nofun]
        exact hk
      · exact (hallu.ended k hrun hk).reported
    obtain ⟨hdone, hkind, hheader⟩ := State.settle_ends_frame huf hended (by rw [husched, hposts]; exact hwaits')
    refine ⟨hdone, ?_, hread32 _ fun i hi => hheader _ (by omega) (by omega)⟩
    rw [hkind, husched, hstopw]
  · rw [State.frameState, husched, hframes]
    exact look_put_same _ _ _
  · refine hallu.settles hf (fun a ha hslots => ?_) ?_ ?_
    · rw [hufield a (by omega)]
      refine hend.memory a (fun g hg => ?_) hslots
      obtain rfl : f = g := by rw [hzf] at hg; exact Option.some.inj hg
      omega
    · rw [hueq]
      exact hend.attn
    · rw [hueq]
      exact ⟨hwafer, hrun, hdropped, hposts, hframes⟩

end StopRequest

theorem wordKind_frameStopWord (f : FrameNo) : wordKind (frameStopWord f) = .frameStop f := by
  revert f
  decide +kernel

/-- A stop request written to the running frame (R136, R144). -/
theorem State.takeWrite_stop {s : State} {f : FrameNo} {v : Word} (hstate : s.frameState f = .running ∨ s.frameState f = .stopping) :
    s.takeWrite (frameStopWord f) v = (State.writeBackStop f
      (if v = softValue then s.softStopFrame f else if v = hardValue then s.hardStopFrame f else s)).settle := by
  simp only [State.takeWrite, wordKind_frameStopWord, State.writeStopWord]
  obtain h | h := hstate <;> rw [h]

/-- A site in a state from CONTACT up to END waits for a boundary, or is in CONTACT, KEYWAIT or BURN_WAIT (R55). -/
theorem SiteState.boundaryAtOnce_eq {x : SiteState} (h : x.isRunning = true) : x.boundaryAtOnce = !x.busy := by
  cases x
  case idle | ended => cases h
  all_goals rfl

theorem SiteState.isRunning_of_busy {x : SiteState} (h : x.busy = true) : x.isRunning = true := by
  cases x
  case idle | ended | contact | keywait | burnWait => cases h
  all_goals rfl

theorem Sequencer.holdsPulsedKey_eq_false {q : Sequencer} : q.holdsPulsedKey = false ↔ q.pulsed = false ∨ q.key = none := by
  rw [Sequencer.holdsPulsedKey, Bool.and_eq_false_iff, Option.isSome_eq_false_iff, Option.isNone_iff_eq_none]

/-- Settles O26: the sites' turns under either stop, the stop word written back, and the hand-back that may follow. -/
theorem stopRequestsStopTheRunningFrame : Obligations.StopRequestsStopTheRunningFrame := by
  intro f lanes s hinit hreset hf hstate hpool hnonzero hbudget ⟨htaken, hnone, hsoft⟩
  have hbudget' := hbudget
  obtain ⟨-, -, -, -, -, hwaits, -⟩ := hbudget
  refine ⟨fun hv hstop => ?_, fun hv hstop => ?_⟩
  · have hexec : exec (.softStop f lanes) s = .next (s.requestTaken f .soft State.takeSoft).settle := by
      show Host.Outcome.next (s.testerWrite (frameStopWord f) lanes softValue) = _
      rw [State.testerWrite_eq hinit hreset, hv, State.takeWrite_stop hstate, if_pos (show (1 : Word) = softValue from rfl), State.softStopFrame, if_pos hstop]
      rfl
    obtain ⟨hwait, hall, hstopping, hforce, hword, hstopped, hsettles⟩ := State.requestTaken_spec (stop := .soft) (st := .soft)
      (ends := s.softEnds) hf hpool hnonzero hbudget' (fun k t => State.takeSoft_endWork k t)
      (fun l u k t hk hrun => by
        obtain ⟨hrun', hsame, -, hsoftEnds⟩ := t.stopTurn_congr hwaits hk hrun
        refine ⟨hrun', ?_⟩
        rw [State.takeSoft_eq hrun' (hsame.trans (hnone (.inl hstop) k)), hsoftEnds]
        rfl)
      (fun k hk hkey => by simp [State.softEnds, hk, SiteState.boundaryAtOnce, Sequencer.holdsPulsedKey, hkey])
    refine ⟨_, _, hexec, rfl, fun ⟨k, hk, hended⟩ => hwait ⟨k, ?_, ?_, hended⟩, fun hevery hposts => ?_, hstopping, hforce, hword,
      fun k => hstopped.softStopped k, hsettles⟩
    · obtain hbusy | ⟨hrun, -⟩ := hk
      · exact SiteState.isRunning_of_busy hbusy
      · exact hrun
    · obtain hbusy | ⟨-, hpulsed, hkey⟩ := hk
      · rw [State.softEnds, SiteState.boundaryAtOnce_eq (SiteState.isRunning_of_busy hbusy), hbusy]
        rfl
      · rw [State.softEnds, Sequencer.holdsPulsedKey, hpulsed, Option.isSome_iff_ne_none.2 hkey, Bool.and_true, Bool.not_true, Bool.and_false]
    · refine hall (fun k => (hevery k).imp_right fun ⟨hrun, hbusy, hkey⟩ => ⟨hrun, ?_⟩) hposts
      rw [State.softEnds, SiteState.boundaryAtOnce_eq hrun, hbusy, Sequencer.holdsPulsedKey_eq_false.2 hkey]
      rfl
  · have hexec : exec (.hardStop f lanes) s = .next (s.requestTaken f .hard State.takeHard).settle := by
      show Host.Outcome.next (s.testerWrite (frameStopWord f) lanes hardValue) = _
      rw [State.testerWrite_eq hinit hreset, hv, State.takeWrite_stop hstate, if_neg (by decide), if_pos (show (2 : Word) = hardValue from rfl), State.hardStopFrame,
        if_pos hstop]
      rfl
    have hfresh : ∀ k, (s.site k).seq.stopTaken ≠ .hard := fun k hk => by
      obtain hstop | hstop := hstop
      · rw [hnone (.inl hstop) k] at hk
        cases hk
      · exact hsoft hstop k hk
    obtain ⟨hwait, hall, hstopping, hforce, hword, hstopped, hsettles⟩ := State.requestTaken_spec (stop := .hard) (st := .hard)
      (ends := s.hardEnds) hf hpool hnonzero hbudget' (fun k t => State.takeHard_endWork k t)
      (fun l u k t hk hrun => by
        obtain ⟨hrun', hsame, hhardEnds, -⟩ := t.stopTurn_congr hwaits hk hrun
        refine ⟨hrun', ?_⟩
        rw [State.takeHard_eq hrun' (fun hu => hfresh k (hsame.symm.trans hu)), hhardEnds]
        rfl)
      (fun k hk _ => by rw [State.hardEnds, hk]; rfl)
    refine ⟨_, _, hexec, rfl, fun ⟨k, hbusy, hended⟩ => hwait ⟨k, SiteState.isRunning_of_busy hbusy, ?_, hended⟩, fun hevery hposts => ?_,
      hstopping, hforce, hword, fun k => hstopped.hardStopped k, hsettles⟩
    · rw [State.hardEnds, SiteState.boundaryAtOnce_eq (SiteState.isRunning_of_busy hbusy), hbusy]
      rfl
    · refine hall (fun k => (hevery k).imp_right fun ⟨hrun, hbusy⟩ => ⟨hrun, ?_⟩) hposts
      rw [State.hardEnds, SiteState.boundaryAtOnce_eq hrun, hbusy]
      rfl

end Sys2Proof.Machine

/-!
PROOF. RUN clear: the sites' HARD stops with the supply unit's RUN clear among them (R90, R148): O17.
-/

namespace Sys2Proof.Machine

/-! ### What the end of a site does to the supply unit and the arbiter -/

/-- The arbiter and the supply unit are as they were. -/
def State.KeepsPower (s t : State) : Prop := t.supply = s.supply ∧ t.arbiter = s.arbiter

theorem State.lowerLoaded_keepsPower (s : State) : s.KeepsPower s.lowerLoaded := by
  unfold State.lowerLoaded
  dsimp only
  split <;> exact ⟨rfl, rfl⟩

theorem State.drawSlot_keepsPower (k : SiteNo) (i : SlotNo) (p : Pool) (s : State) : s.KeepsPower (s.drawSlot k i p) := by
  unfold State.drawSlot
  generalize List.replicate 32 (0 : Byte) = zeros
  obtain ⟨hsupply, harb⟩ := State.lowerLoaded_keepsPower (State.store (slotBase i + 0x20) zeros
    { s with pool := { p with slots := put p.slots i .drawn, waiting := put p.waiting k none, draws := sat16 (p.draws + 1) } })
  exact ⟨hsupply, harb⟩

theorem drawTurn_keepsPower (acc : State × List KeyGrant) (k : SiteNo) : acc.1.KeepsPower (drawTurn acc k).1 := by
  unfold drawTurn
  split
  · exact ⟨rfl, rfl⟩
  · unfold State.draw
    cases acc.1.pool.choose with
    | none => exact ⟨rfl, rfl⟩
    | some c => exact State.drawSlot_keepsPower _ _ _ _

theorem State.evaluateDraws_keepsPower (s : State) : s.KeepsPower s.evaluateDraws.1 := by
  suffices h : ∀ (l : List SiteNo) (acc : State × List KeyGrant), acc.1.KeepsPower (l.foldl drawTurn acc).1 from h _ (s, [])
  intro l
  induction l with
  | nil => exact fun acc => ⟨rfl, rfl⟩
  | cons k l ih =>
    intro acc
    obtain ⟨hsupply, harb⟩ := drawTurn_keepsPower acc k
    obtain ⟨hsupply', harb'⟩ := ih (drawTurn acc k)
    exact ⟨hsupply'.trans hsupply, harb'.trans harb⟩

theorem State.settleKey_keepsPower (k : SiteNo) (o : SiteOutcome) (s : State) : s.KeepsPower (s.settleKey k o).1 := by
  unfold State.settleKey
  split
  · exact ⟨rfl, rfl⟩
  · rename_i held _
    split
    · rw [State.bindSlot_eq]
      exact ⟨rfl, rfl⟩
    · split
      · rw [State.voidSlot_eq]
        exact ⟨rfl, rfl⟩
      · obtain ⟨hsupply, harb⟩ := State.evaluateDraws_keepsPower (s.returnSlot held.slot held.buffer)
        rw [State.returnSlot_eq] at hsupply harb
        dsimp only
        rw [State.returnSlot_eq]
        exact ⟨hsupply, harb⟩

/-- The end of a running site withdraws its burst request; that is all the arbiter and the supply unit see of it (R51, R96). -/
theorem State.endSiteWith_power (k : SiteNo) (o : SiteOutcome) {s : State} (hrun : (s.site k).seq.state.isRunning = true) :
    (s.withdrawBurst k).KeepsPower (s.endSiteWith k o).1 := by
  have hsite := s.withdrawBurst_site k k
  obtain ⟨hsupply, harb⟩ := State.settleKey_keepsPower k o ((s.withdrawBurst k).withdrawDraw k)
  rw [State.endSiteWith_withdrawBurst k o hrun, State.endSiteWith_eq (by rw [hsite]; exact hrun) (s.withdrawBurst_request k)]
  dsimp only
  rw [State.fileEnd_kept]
  exact ⟨hsupply, harb⟩

/-- What stops may do to the supply unit while RUN is 0: they may start its idle timer, and the requests of sites that a returned key
reaches arrive at it. -/
structure KeptByStops (P : Supply → Prop) : Prop where
  idles : ∀ p, P p → p.granting = true → P { p with idleTimer := some (p.params.idleTime * 1000) }
  requests : ∀ p, P p → P (p.onRequest false)

section Power

variable {P : Supply → Prop} {s : State}

/-- RUN is 0, the current in use is n and the supply unit has property P. -/
def State.PowerAt (P : Supply → Prop) (n : Nat) (s : State) : Prop := s.run = false ∧ s.arbiter.inUse = n ∧ P s.supply

theorem State.withdrawBurst_powerAt (hP : KeptByStops P) {n : Nat} (h : s.PowerAt P n) (k : SiteNo) : (s.withdrawBurst k).PowerAt P n := by
  obtain ⟨hrun, huse, hp⟩ := h
  unfold State.withdrawBurst
  split
  · exact ⟨hrun, huse, hp⟩
  · unfold State.startIdleIfQuiet
    split
    · rename_i hquiet
      simp only [Bool.and_eq_true] at hquiet
      exact ⟨hrun, huse, hP.idles _ hp hquiet.1.1.1⟩
    · exact ⟨hrun, huse, hp⟩

theorem State.takeKeyGrant_powerAt (hP : KeptByStops P) {n : Nat} (h : s.PowerAt P n) (g : KeyGrant) : (s.takeKeyGrant g).PowerAt P n := by
  obtain ⟨hrun, huse, hp⟩ := h
  rw [State.takeKeyGrant_eq]
  set x := s.onSite g.site (Site.keyed s.workingRecipe.keyLength g) with hx
  cases hrow : firstBurnRow x.workingRecipe.keyLength (x.site g.site).seq.plan 0 with
  | none =>
    rw [State.beginRow_of_none hrow]
    exact ⟨hrun, huse, hp⟩
  | some e =>
    rw [State.beginRow_of_some hrow, State.beginAttempt_eq]
    refine ⟨hrun, huse, ?_⟩
    show P (s.supply.onRequest s.run)
    rw [hrun]
    exact hP.requests _ hp

theorem State.endSite_powerAt (hP : KeptByStops P) {n : Nat} (h : s.PowerAt P n) (k : SiteNo) (o : SiteOutcome) :
    (s.endSite k o).PowerAt P n := by
  have hwith : (s.endSiteWith k o).1.PowerAt P n := by
    cases hrun : (s.site k).seq.state.isRunning with
    | false => simpa [State.endSiteWith, hrun] using h
    | true =>
      obtain ⟨-, huse, hp⟩ := State.withdrawBurst_powerAt hP h k
      obtain ⟨hsupply, harb⟩ := State.endSiteWith_power k o hrun
      obtain ⟨hkept, -⟩ := (State.endSiteWith_endWork k o s).work.kept
      exact ⟨hkept.trans h.1, by rw [harb, huse], by rw [hsupply]; exact hp⟩
  rw [State.endSite, State.deliver]
  generalize (s.endSiteWith k o).2 = gs
  generalize (s.endSiteWith k o).1 = u at hwith
  induction gs generalizing u with
  | nil => exact hwith
  | cons g gs ih => exact ih _ (State.takeKeyGrant_powerAt hP hwith g)

theorem State.takeHard_powerAt (hP : KeptByStops P) {n : Nat} (h : s.PowerAt P n) (k : SiteNo) : (s.takeHard k).PowerAt P n := by
  unfold State.takeHard
  dsimp only
  split
  · split
    · exact State.endSite_powerAt (s := s.onSeq k _) hP h k .aborted
    · exact h
  · exact h

theorem State.foldl_takeHard_powerAt (hP : KeptByStops P) {n : Nat} (l : List SiteNo) {s : State} (h : s.PowerAt P n) :
    (l.foldl (fun t k => t.takeHard k) s).PowerAt P n := by
  induction l generalizing s with
  | nil => exact h
  | cons k l ih => exact ih (State.takeHard_powerAt hP h k)

end Power

/-! ### The supply unit's RUN clear among the stops (R90, log 5) -/

/-- A supply unit that nothing of the stops moves: off pending set with the idle timer stopped, or OFF. -/
def Supply.Settled (p : Supply) : Prop := p.granting = false ∧ p.onRequest false = p

theorem Supply.Settled.keptByStops {q : Supply} (h : q.Settled) : KeptByStops fun p => p = q where
  idles := fun p hp hgrant => by
    rw [hp, h.1] at hgrant
    cases hgrant
  requests := fun p hp => by rw [hp, h.2]

theorem Supply.settled_of_off {q : Supply} (h : q.pump = .off) : q.Settled := by
  refine ⟨by simp [Supply.granting, h], ?_⟩
  simp only [Supply.onRequest, h, Bool.false_and, Bool.false_eq_true, if_false]

/-- Up to the timers, the pump state and off pending, the supply unit is q; and the pump is not OFF. -/
theorem keptByStops_toOff (q : Supply) : KeptByStops fun p => p.toOff = q.toOff ∧ p.pump ≠ .off where
  idles := fun p ⟨hp, hoff⟩ _ => ⟨hp, hoff⟩
  requests := fun p ⟨hp, hoff⟩ => by
    unfold Supply.onRequest
    split
    · rename_i h
      exact absurd h hoff
    · split
      · exact ⟨hp, hoff⟩
      · split <;> exact ⟨hp, nofun⟩
    · rename_i h
      exact ⟨hp, by rw [h]; nofun⟩
    · exact ⟨hp, hoff⟩

/-- The supply unit but for its idle timer. -/
def Supply.withoutIdle (p : Supply) : Supply := { p with idleTimer := none }

theorem Supply.pump_of_withoutIdle {p q : Supply} (h : p.withoutIdle = q.withoutIdle) : p.pump = q.pump :=
  (congrArg (fun x => x.pump) h :)

/-- In RAMP, READY, WAKE and HOLD a request at most stops the idle timer. -/
theorem keptByStops_idleTimer {q : Supply} (h : q.pump = .ramp ∨ q.pump = .ready ∨ q.pump = .wake ∨ q.pump = .hold) :
    KeptByStops fun p => p.withoutIdle = q.withoutIdle where
  idles := fun p hp _ => hp
  requests := fun p hp => by
    have hpump := Supply.pump_of_withoutIdle hp
    unfold Supply.onRequest
    split
    · rename_i hstate
      rw [hpump] at hstate
      rw [hstate] at h
      simp at h
    · rename_i hstate
      rw [hpump] at hstate
      rw [hstate] at h
      simp at h
    · exact hp
    · exact hp

/-- Off pending as RUN clear sets it, with a current in use (R90). -/
def Supply.toOffPending (p : Supply) : Supply :=
  { p with offPending := true, settleTimer := none, wakeTimer := none, idleTimer := none }

theorem Supply.settled_toOffPending (p : Supply) : p.toOffPending.Settled := by
  refine ⟨by simp [Supply.granting, Supply.toOffPending], ?_⟩
  unfold Supply.onRequest Supply.toOffPending
  split
  · rfl
  · rfl
  · rfl
  · rfl

theorem State.supplyRunClear_supply (s : State) : s.supplyRunClear.supply
    = if s.supply.pump = .off then s.supply else if s.arbiter.inUse = 0 then s.supply.toOff else s.supply.toOffPending := by
  unfold State.supplyRunClear
  split
  · rfl
  · by_cases huse : s.arbiter.inUse = 0
    · simp [State.completeOffPending, huse, Supply.toOff]
    · simp [State.completeOffPending, huse, Supply.toOffPending]

theorem State.supplyRunClear_endWork (s : State) : s.EndWork s.supplyRunClear := by
  refine (State.supplyWork_of_supply s.supplyRunClear_frame).endWork ?_
  rw [State.supplyRunClear_supply]
  split
  · rfl
  · split <;> rfl

section RunClear

variable {z : State} {early late : List SiteNo}

/-- The state after the sites' HARD stops with the RUN clear of the supply unit between them (log 5). -/
def State.runClearTaken (z : State) (early late : List SiteNo) : State :=
  late.foldl (fun t k => t.takeHard k) (early.foldl (fun t k => t.takeHard k) z).supplyRunClear

/-- The supply unit after a RUN clear, if the sites' stops before it keep P of it and P determines what the RUN clear makes of it. -/
theorem State.runClearTaken_supply {P : Supply → Prop} {q : Supply} (hP : KeptByStops P) (hrun : z.run = false) (hz : P z.supply)
    (hclear : ∀ s : State, s.arbiter.inUse = z.arbiter.inUse → P s.supply → s.supplyRunClear.supply = q) (hq : q.Settled) :
    (z.runClearTaken early late).supply = q := by
  obtain ⟨hrun', huse, hp⟩ := State.foldl_takeHard_powerAt hP (n := z.arbiter.inUse) early ⟨hrun, rfl, hz⟩
  have hcleared := hclear _ huse hp
  unfold State.runClearTaken
  obtain ⟨p, hframe⟩ := State.supplyRunClear_frame (early.foldl (fun t k => t.takeHard k) z)
  obtain ⟨-, -, hsupply⟩ := State.foldl_takeHard_powerAt hq.keptByStops (n := z.arbiter.inUse) late
    (s := (early.foldl (fun t k => t.takeHard k) z).supplyRunClear) ⟨by rw [hframe]; exact hrun', by rw [hframe]; exact huse, hcleared⟩
  exact hsupply

/-- The three cases of R90. -/
theorem State.runClearTaken_supply_cases (hrun : z.run = false) :
    (z.supply.pump = .off → (z.runClearTaken early late).supply = z.supply)
      ∧ (z.supply.pump ≠ .off → z.arbiter.inUse = 0 → (z.runClearTaken early late).supply = z.supply.toOff)
      ∧ ((z.supply.pump = .ramp ∨ z.supply.pump = .ready ∨ z.supply.pump = .wake ∨ z.supply.pump = .hold) → z.arbiter.inUse ≠ 0 →
          (z.runClearTaken early late).supply = z.supply.toOffPending) := by
  refine ⟨fun hoff => ?_, fun hoff huse => ?_, fun hpump huse => ?_⟩
  · refine State.runClearTaken_supply (Supply.settled_of_off hoff).keptByStops hrun rfl (fun s _ hs => ?_) (Supply.settled_of_off hoff)
    rw [State.supplyRunClear_supply, hs, if_pos hoff]
  · refine State.runClearTaken_supply (keptByStops_toOff z.supply) hrun ⟨rfl, hoff⟩ (fun s huse' ⟨hs, hoff'⟩ => ?_)
      (Supply.settled_of_off rfl)
    rw [State.supplyRunClear_supply, if_neg hoff', if_pos (huse'.trans huse), hs]
  · refine State.runClearTaken_supply (keptByStops_idleTimer hpump) hrun rfl (fun s huse' hs => ?_) (Supply.settled_toOffPending _)
    have hpump' := Supply.pump_of_withoutIdle hs
    rw [State.supplyRunClear_supply, if_neg (by rw [hpump']; rintro h; rw [h] at hpump; simp at hpump), if_neg (by rw [huse']; exact huse)]
    exact (congrArg Supply.toOffPending hs :)

end RunClear

theorem exec_runClear {v : Word} {s : State} (hinit : s.initialising = false) (hreset : s.softReset = false) (hrun : s.run = true)
    (hv₀ : v.getLsbD 0 = false) (hv₁ : v.getLsbD 1 = false) : exec (.runClear v) s = .next s.clearRun := by
  show Host.Outcome.next (s.registerWrite 1 v) = _
  simp only [State.registerWrite, State.writeRunCtrl, hinit, hreset, asksSoftReset, asksRun, hv₀, hv₁, hrun, Bool.false_eq_true, if_false,
    if_true]

/-- A running site takes a HARD stop, whatever stop it has taken before (R55, R57). -/
theorem State.takeHard_stopTurn {s : State} {k : SiteNo} (hrun : (s.site k).seq.state.isRunning = true)
    (htaken : (s.site k).seq.stopTaken = .hard → s.hardEnds k = false) : s.takeHard k = State.stopTurn .hard (s.hardEnds k) k s := by
  by_cases hstop : (s.site k).seq.stopTaken = .hard
  · rw [State.takeHard_of_taken hstop, htaken hstop]
    exact (State.onSite_self (Site.stopped_self hstop)).symm
  · exact State.takeHard_eq hrun hstop

/-- Settles O17: the sites' HARD stops around the supply unit's RUN clear, and the hand-back that may follow. -/
theorem runClearHardStopsTheFrame : Obligations.RunClearHardStopsTheFrame := by
  intro v f s hinit hreset hrun hv₀ hv₁ hf hpool hnonzero hbudget ⟨htaken, _, _⟩
  obtain ⟨-, -, -, -, -, hwaits, hkeys, -, hreported, -⟩ := hbudget
  set y : State := { s with run := false } with hy
  set z := y.stopStarts f .runCleared with hz
  set order := (y.setStop f .runCleared).takingOrder with horder
  set early := order.take (Config.supplyTurn s.choices) with hearly
  set late := order.drop (Config.supplyTurn s.choices) with hlate
  set u := z.runClearTaken early late with hu
  have hexec : exec (.runClear v) s = .next u.settle := by
    rw [exec_runClear hinit hreset hrun hv₀ hv₁, State.clearRun, ← hy, State.takeRunClear, show y.sched.running = some f from hf]
    rfl
  have hin : ∀ k, k ∈ order ↔ (s.site k).seq.state.isRunning = true := fun k => y.mem_stopOrder f .runCleared k
  have hnodup : order.Nodup := State.takingOrder_nodup _
  have hsplit : early ++ late = order := List.take_append_drop _ _
  have hkeyless : ∀ k, look z.pool.waiting k ≠ none → (z.site k).seq.key = none := fun k hk => by
    by_contra hkey
    have hstate : (s.site k).seq.state = .keywait := hwaits k hk
    have := hkeys k hkey
    rw [hstate] at this
    simp at this
  have hends : ∀ k, look z.pool.waiting k ≠ none → z.hardEnds k = true := fun k hk => by
    rw [State.hardEnds, show (z.site k).seq.state = .keywait from hwaits k hk]
    rfl
  have hact : ∀ l w k, z.Turns (fun _ => .hard) z.hardEnds .aborted l w [] → k ∉ l → (z.site k).seq.state.isRunning = true →
      (w.site k).seq.state.isRunning = true ∧ w.takeHard k = w.stopTurn .hard (z.hardEnds k) k := fun l w k t hk hrunk => by
    obtain ⟨hrun', hsame, hhardEnds, -⟩ := t.stopTurn_congr hwaits hk hrunk
    refine ⟨hrun', ?_⟩
    rw [← hhardEnds]
    refine State.takeHard_stopTurn hrun' fun hhard => ?_
    rw [hhardEnds, State.hardEnds, SiteState.boundaryAtOnce_eq hrunk]
    obtain hbusy | hended := htaken k (hsame.symm.trans hhard)
    · rw [show (z.site k).seq.state.busy = true from hbusy]
      rfl
    · rw [show (z.site k).seq.state = .ended from hended] at hrunk
      cases hrunk
  have hwait : ∀ k, z.hardEnds k = false → look z.pool.waiting k = none := fun k hk => by
    by_contra hwait
    rw [hends k hwait] at hk
    cases hk
  have hall : z.AllStopped .hard z.hardEnds u := by
    have hstart : z.Turns (fun _ => .hard) z.hardEnds .aborted [] z [] := State.Turns.start hpool hnonzero hkeyless
    have hzf : z.sched.running = some f := hf
    have hfirst := hstart.stops (act := fun k t => t.takeHard k) hzf hact hwait early (hnodup.sublist (List.take_sublist _ _))
      fun k hk => (hin k).1 (List.mem_of_mem_take hk)
    obtain ⟨p, hp⟩ := State.supplyRunClear_frame (early.foldl (fun t k => t.takeHard k) z)
    have hmiddle := hfirst.onSupply fun _ => p
    rw [show (State.onSupply (fun _ => p) (early.foldl (fun t k => t.takeHard k) z))
      = (early.foldl (fun t k => t.takeHard k) z).supplyRunClear from hp.symm, List.nil_append] at hmiddle
    have hlast := hmiddle.stops (act := fun k t => t.takeHard k) hzf hact hwait late (by rw [hsplit]; exact hnodup)
      fun k hk => (hin k).1 (List.mem_of_mem_drop hk)
    rw [hsplit] at hlast
    exact hlast.allStopped hin hwaits hends
  have hend : z.EndWork u := ((State.foldl_endWork (fun k t => State.takeHard_endWork k t) early z).trans
    (State.supplyRunClear_endWork _)).trans (State.foldl_endWork (fun k t => State.takeHard_endWork k t) late _)
  obtain ⟨hframes, hposts, hrunning, hstop, -⟩ := hend.work.sched_kept
  obtain ⟨hrunu, -, -, -, hdropped, hwafer, -⟩ := hend.work.kept
  obtain ⟨hoff, hzero, hpending⟩ := State.runClearTaken_supply_cases (z := z) (early := early) (late := late) rfl
  have huf : u.sched.running = some f := hrunning.trans hf
  refine ⟨u.settle, u, hexec, rfl, fun ⟨k, hbusy, hended⟩ => ?_, fun hevery => ?_, ?_, hstop, huf, fun k => hall.hardStopped k,
    hall.settles hf (fun a ha hslots => hend.memory a (fun g hg => ?_) hslots) hend.attn ⟨hwafer, hrunu, hdropped, hposts, hframes⟩,
    hoff, hzero, hpending⟩
  · refine State.settle_of_not_ended (k := k) ?_
    rw [hall.reports k fun _ => ?_]
    · exact hended
    · have hrunk : (z.site k).seq.state.isRunning = true := SiteState.isRunning_of_busy hbusy
      rw [State.hardEnds, SiteState.boundaryAtOnce_eq hrunk, show (z.site k).seq.state.busy = true from hbusy]
      rfl
  · have hended : ∀ k, look u.sched.ended k = true := fun k => by
      obtain hk | ⟨hrunk, hbusy⟩ := hevery k
      · rw [hall.reports k fun hrunk => absurd (hrunk.symm.trans (hreported k hk)) nofun]
        exact hk
      · refine (hall.ended k hrunk ?_).reported
        rw [State.hardEnds, SiteState.boundaryAtOnce_eq (x := (z.site k).seq.state) hrunk,
          show (z.site k).seq.state.busy = false from hbusy]
        rfl
    obtain ⟨hback, -⟩ := handBackEndsTheFrame f u huf
    obtain ⟨t, ht, hdone, hnone, -, -, -, -, -, -, hkind, -⟩ := hback hended (.inr hrunu)
    obtain rfl : u.settle = t := Host.Outcome.next.inj ht
    refine ⟨hdone, hnone, BitVec.eq_of_toNat_eq ?_⟩
    rw [hkind, show u.sched.stop = .runCleared from hstop]
    rfl
  · rw [State.frameState, hframes]
    exact look_put_same _ _ _
  · obtain rfl : f = g := Option.some.inj (hf.symm.trans hg)
    omega

end Sys2Proof.Machine

/-!
PROOF. The sites with keys when the hold timer expires (R54, R89, R121): O59.
-/

namespace Sys2Proof.Machine

/-! ### The sites that wait for a key, in the order in which they are served (R121) -/

/-- The sites that wait for a key, in ascending number. -/
def waitersOf (w : Vector (Option KeyLength) 16) : List SiteNo := allSites.filter fun k => (look w k).isSome

theorem mem_waitersOf (w : Vector (Option KeyLength) 16) (k : SiteNo) : k ∈ waitersOf w ↔ look w k ≠ none := by
  simp [waitersOf, Option.isSome_iff_ne_none]

/-- The site served next is the first of the waiting sites, and the others wait on. -/
theorem waitersOf_of_nextWaiting {p : Pool} {j : SiteNo} {len : KeyLength} (h : p.nextWaiting = some (j, len)) :
    waitersOf p.waiting = j :: waitersOf (put p.waiting j none) := by
  suffices hl : ∀ l : List SiteNo, l.Nodup → (l.findSome? fun k => (look p.waiting k).map fun len => (k, len)) = some (j, len) →
      l.filter (fun k => (look p.waiting k).isSome) = j :: l.filter (fun k => (look (put p.waiting j none) k).isSome) from
    hl allSites (List.nodup_finRange 16) h
  intro l
  induction l with
  | nil => exact fun _ => nofun
  | cons i l ih =>
    intro hnodup hfind
    obtain ⟨hi, hl⟩ := List.nodup_cons.1 hnodup
    cases hw : look p.waiting i with
    | none =>
      rw [List.findSome?_cons, hw] at hfind
      have hput : (look (put p.waiting j none) i).isSome = false := by
        rw [look_put]
        split
        · rfl
        · rw [hw]
          rfl
      rw [List.filter_cons_of_neg (by simp [hw]), List.filter_cons_of_neg (by simp [hput])]
      exact ih hl hfind
    | some len' =>
      rw [List.findSome?_cons, hw] at hfind
      obtain ⟨rfl, rfl⟩ : i = j ∧ len' = len := by simpa using hfind
      rw [List.filter_cons_of_pos (by simp [hw]), List.filter_cons_of_neg (by rw [look_put_same]; simp)]
      refine congrArg _ (List.filter_congr fun k hk => ?_)
      rw [look_put_other _ _ _ _ fun hik => hi (by rw [hik]; exact hk)]

/-- In an ascending list the first n elements are those with fewer than n below them. -/
theorem mem_take_iff_countP {l : List SiteNo} (hl : l.Pairwise (· < ·)) {j : SiteNo} (hj : j ∈ l) (n : Nat) :
    j ∈ l.take n ↔ l.countP (fun i => decide (i < j)) < n := by
  induction l generalizing n with
  | nil => exact absurd hj List.not_mem_nil
  | cons x l ih =>
    obtain ⟨hx, hl'⟩ := List.pairwise_cons.1 hl
    cases n with
    | zero => simp
    | succ n =>
      rw [List.take_succ_cons, List.mem_cons, List.countP_cons]
      obtain rfl | hjl := List.mem_cons.1 hj
      · have hnone : l.countP (fun i => decide (i < j)) = 0 := List.countP_eq_zero.2 fun i hi => by
          have := hx i hi
          simpa using le_of_lt this
        rw [hnone]
        simp
      · have hlt := hx j hjl
        rw [ih hl' hjl n, if_pos (by simpa using hlt)]
        constructor
        · rintro (rfl | h)
          · exact absurd hlt (lt_irrefl _)
          · omega
        · exact fun h => .inr (by omega)

theorem mem_take_waitersOf {w : Vector (Option KeyLength) 16} {j : SiteNo} (hj : look w j ≠ none) (n : Nat) :
    j ∈ (waitersOf w).take n ↔ allSites.countP (fun i => decide (i < j) && (look w i).isSome) < n := by
  have hpair : (waitersOf w).Pairwise (· < ·) := (List.pairwise_lt_finRange 16).filter _
  rw [mem_take_iff_countP hpair ((mem_waitersOf w j).2 hj), waitersOf, List.countP_filter]

/-! ### The sites lose their supply one after the other (R89, step 1) -/

/-- The sites that a hold expiry ends, in the order in which they take it (log 4). -/
def State.lossOrder (s : State) : List SiteNo := orderSites s.choices (allSites.filter fun k => s.holdsKey k)

theorem State.mem_lossOrder (s : State) (k : SiteNo) :
    k ∈ s.lossOrder ↔ (s.site k).seq.state.isRunning = true ∧ (s.site k).seq.key ≠ none := by
  rw [State.lossOrder, (orderSites_perm _ _).mem_iff, List.mem_filter, State.holdsKey, Bool.and_eq_true, Option.isSome_iff_ne_none]
  simp

theorem State.lossOrder_nodup (s : State) : s.lossOrder.Nodup := (orderSites_perm _ _).nodup_iff.2 ((List.nodup_finRange 16).filter _)

/-- The site holds a key that no pulse was issued with. -/
def State.holdsUnpulsed (s : State) (k : SiteNo) : Bool := (s.site k).seq.key.isSome && !(s.site k).seq.pulsed

/-- From z the sites of l have lost their supply: the turns so far, the sites served by the keys that went back, and the pump in HOLD. -/
structure State.Losses (z : State) (l : List SiteNo) (u : State) (gs : List KeyGrant) : Prop where
  turns : z.Turns (fun k => (z.site k).seq.stopTaken) (fun _ => true) .supplyLost l u gs
  waiters : waitersOf u.pool.waiting = (waitersOf z.pool.waiting).drop (l.countP z.holdsUnpulsed)
  granted : gs.map KeyGrant.site = (waitersOf z.pool.waiting).take (l.countP z.holdsUnpulsed)
  supply : u.supply = z.supply
  work : z.EndWork u

section Losses

variable {z u : State} {l : List SiteNo} {gs : List KeyGrant}

/-- A list split after one element more. -/
theorem take_succ_of_drop_eq_cons {α : Type} {l rest : List α} {n : Nat} {x : α} (h : l.drop n = x :: rest) :
    l.take (n + 1) = l.take n ++ [x] ∧ l.drop (n + 1) = rest := by
  have hlt : n < l.length := by
    by_contra hle
    rw [List.drop_eq_nil_of_le (by omega)] at h
    cases h
  have hx := List.drop_eq_getElem_cons hlt
  rw [h] at hx
  obtain ⟨rfl, rfl⟩ := List.cons.inj hx
  exact ⟨List.take_succ_eq_append_getElem hlt, rfl⟩

theorem State.Losses.loss (h : z.Losses l u gs) {k : SiteNo} (hk : k ∉ l) (hkey : (z.site k).seq.key ≠ none)
    (hrun : (z.site k).seq.state.isRunning = true) (hrunning : z.sched.running ≠ none) (hhold : z.supply.pump = .hold) :
    z.Losses (l ++ [k]) (loseSupply (u, gs) k).1 (loseSupply (u, gs) k).2 := by
  obtain ⟨f, hf⟩ := Option.ne_none_iff_exists'.1 hrunning
  have t := h.turns
  have hwait : look z.pool.waiting k = none := by
    by_contra hwait
    exact hkey (t.keyless k hwait)
  have hsite := t.fresh k hk hwait
  have hnotk : ∀ g ∈ gs, g.site ≠ k := fun g hg hgk => by
    obtain ⟨-, hg, -⟩ := t.grants g hg
    exact hg (hgk ▸ hwait)
  have hself : u.onSite k (Site.stopped (z.site k).seq.stopTaken) = u := State.onSite_self (Site.stopped_self (by rw [hsite]))
  have hrunu : (u.site k).seq.state.isRunning = true := by rw [hsite]; exact hrun
  have hturn := State.endSiteWith_turn (u := u) (k := k) (o := .supplyLost) nofun (fun p => by cases p <;> rfl) (by
      obtain ⟨-, -, hr, -⟩ := t.work.sched_kept
      exact hr.trans hf) hrunu t.dry
  have hpower := State.endSiteWith_power k .supplyLost hrunu
  have hwork := State.endSiteWith_endWork k .supplyLost u
  rw [show loseSupply (u, gs) k = ((u.endSiteWith k .supplyLost).1, gs ++ (u.endSiteWith k .supplyLost).2) from rfl]
  dsimp only
  generalize (u.endSiteWith k .supplyLost).1 = v at hturn hpower hwork ⊢
  generalize (u.endSiteWith k .supplyLost).2 = gs' at hturn ⊢
  have hput : put u.pool.waiting k none = u.pool.waiting := by
    have := put_look u.pool.waiting k
    rwa [t.served k hwait] at this
  have hcount : (l ++ [k]).countP z.holdsUnpulsed = l.countP z.holdsUnpulsed + if z.holdsUnpulsed k then 1 else 0 := by
    rw [List.countP_append, List.countP_singleton]
  have hserve : waitersOf v.pool.waiting = (waitersOf z.pool.waiting).drop ((l ++ [k]).countP z.holdsUnpulsed)
      ∧ (gs ++ gs').map KeyGrant.site = (waitersOf z.pool.waiting).take ((l ++ [k]).countP z.holdsUnpulsed) := by
    rw [hcount, List.map_append, h.granted]
    obtain ⟨held, hheld⟩ := Option.ne_none_iff_exists'.1 hkey
    have hheldu : (u.site k).seq.key = some held := by rw [hsite]; exact hheld
    cases hpulsed : (z.site k).seq.pulsed with
    | true =>
      obtain ⟨rfl, hw, -⟩ := hturn.spent (.inr (by rw [hsite]; exact hpulsed))
      rw [hw, hput, h.waiters]
      simp [State.holdsUnpulsed, hpulsed]
    | false =>
      have hcounts : z.holdsUnpulsed k = true := by simp [State.holdsUnpulsed, hpulsed, hheld]
      rw [hcounts, if_pos rfl]
      obtain ⟨hnone, rfl, -, hw⟩ | ⟨j, len, g, hnext, rfl, rfl, -, -, -, -, hw⟩ := hturn.returned held hheldu (by rw [hsite]; exact hpulsed)
      · have hempty : waitersOf u.pool.waiting = [] := List.eq_nil_iff_forall_not_mem.2 fun j hj => by
          rw [mem_waitersOf] at hj
          by_cases hjk : j = k
          · exact hj (hjk ▸ t.served k hwait)
          · exact hj (hnone j hjk)
        have hlen := h.waiters
        rw [hempty, eq_comm, List.drop_eq_nil_iff] at hlen
        rw [hw, hput, hempty, List.drop_eq_nil_of_le (by omega), List.take_of_length_le hlen, List.take_of_length_le (by omega)]
        exact ⟨rfl, List.append_nil _⟩
      · have hcons := waitersOf_of_nextWaiting hnext
        dsimp only at hcons
        rw [hput] at hcons hw
        obtain ⟨htake, hdrop⟩ := take_succ_of_drop_eq_cons (h.waiters.symm.trans hcons)
        exact ⟨by rw [hw, hdrop], by rw [htake]; rfl⟩
  refine ⟨?_, hserve.1, hserve.2, ?_, h.work.trans hwork⟩
  · exact t.endTurn hk rfl hnotk hrun hf (by rw [hself]; exact hturn)
  · rw [hpower.1, State.withdrawBurst_eq]
    dsimp only
    split
    · exact h.supply
    · rw [State.idleIfQuiet, if_neg]
      · exact h.supply
      · rintro ⟨hready, -⟩
        rw [show u.supply.pump = .hold by rw [h.supply]; exact hhold] at hready
        cases hready

/-- All sites of a list that hold keys lose their supply. -/
theorem State.Losses.losses (h : z.Losses l u gs) (hhold : z.supply.pump = .hold)
    (hrunning : ∀ k, (z.site k).seq.state.isRunning = true → z.sched.running ≠ none) (more : List SiteNo) (hnodup : (l ++ more).Nodup)
    (hmore : ∀ k ∈ more, (z.site k).seq.state.isRunning = true ∧ (z.site k).seq.key ≠ none) :
    z.Losses (l ++ more) (more.foldl loseSupply (u, gs)).1 (more.foldl loseSupply (u, gs)).2 := by
  induction more generalizing l u gs with
  | nil => rwa [List.append_nil]
  | cons k more ih =>
    have hk : k ∉ l := fun hk => (List.nodup_append.1 hnodup).2.2 k hk k List.mem_cons_self rfl
    obtain ⟨hrun, hkey⟩ := hmore k List.mem_cons_self
    have hloss := h.loss hk hkey hrun (hrunning k hrun) hhold
    rw [show l ++ k :: more = (l ++ [k]) ++ more by simp] at hnodup ⊢
    exact ih hloss hnodup fun j hj => hmore j (List.mem_cons_of_mem _ hj)

end Losses

/-! ### The key grants taken after the pump has gone OFF (R89, step 4) -/

/-- The requests of sites that are given keys reach the pump one after the other; the first alone can move it (R83, R85, R86). -/
theorem State.deliver_supply {gs : List KeyGrant} {s : State} (hnz : ∀ g ∈ gs, KeyIsNonzero g.buffer)
    (honce : (s.supply.onRequest s.run).onRequest s.run = s.supply.onRequest s.run) :
    (s.deliver gs).supply = if gs = [] then s.supply else s.supply.onRequest s.run := by
  unfold State.deliver
  induction gs generalizing s with
  | nil => rfl
  | cons g gs ih =>
    obtain ⟨y, n, -, heq⟩ := State.takeKeyGrant_served (s := s) (hnz g List.mem_cons_self)
    have hsupply : (s.takeKeyGrant g).supply = s.supply.onRequest s.run := by rw [heq]
    have hrun : (s.takeKeyGrant g).run = s.run := by rw [heq]
    rw [List.foldl_cons, ih (fun g' hg' => hnz g' (List.mem_cons_of_mem _ hg')) (by rw [hsupply, hrun, honce, honce]), hsupply, hrun, honce,
      ite_self, if_neg (List.cons_ne_nil _ _)]

/-- A pump that has gone OFF takes the first request by RUN and no other (R83). -/
theorem Supply.onRequest_toOff_twice (p : Supply) (run : Bool) : (p.toOff.onRequest run).onRequest run = p.toOff.onRequest run := by
  cases run <;> rfl

theorem supplyLost_bit (x : BitVec 11) (i : Nat) : (x ||| Cause.supplyLost.mask).getLsbD i = (x.getLsbD i || i == 9) := by
  have hmask : Cause.supplyLost.mask.getLsbD i = (i == 9) := by
    rw [Cause.mask, BitVec.getLsbD_shiftLeft, BitVec.getLsbD_one, show Cause.supplyLost.bit = 9 from rfl, Bool.eq_iff_iff]
    simp only [Bool.and_eq_true, decide_eq_true_eq, Bool.not_eq_true', decide_eq_false_iff_not, beq_iff_eq]
    omega
  rw [BitVec.getLsbD_or, hmask]

/-- A cause raised after the turns does not matter to them. -/
theorem State.Turns.raise {z u : State} {stop : SiteNo → StopTaken} {ends : SiteNo → Bool} {o : SiteOutcome} {l : List SiteNo}
    {gs : List KeyGrant} (t : z.Turns stop ends o l u gs) (c : Cause) : (z.raise c).Turns stop ends o l (u.raise c) gs :=
  { t with
    work := by
      obtain ⟨a, m, p, su, ar, xs, en, rfl⟩ := t.work
      exact ⟨_, m, p, su, ar, xs, en, rfl⟩
    done := fun k hk he => by
      obtain ⟨hdraw, hreq, hended, hsite, hvoided, hmap⟩ := t.done k hk he
      exact ⟨hdraw, hreq, hended, hsite, hvoided, hmap⟩
    attn := fun hnone => congrArg (· ||| c.mask) (t.attn hnone) }

/-- Settles O59: the losses one after the other, the pump OFF, the key grants taken, and the hand-back that may follow. -/
theorem holdExpiryEndsTheSitesWithKeys : Obligations.HoldExpiryEndsTheSitesWithKeys := by
  intro s n
  refine ⟨fun hhold htimer hgrants hpool hnonzero hbudget hn => ?_, fun hnot => if_neg ?_⟩
  · obtain ⟨-, -, -, -, -, hwaits, hkeys, -, -, hidle⟩ := hbudget
    have hkeyless : ∀ k, look s.pool.waiting k ≠ none → (s.site k).seq.key = none := fun k hk => by
      by_contra hkey
      have := hkeys k hkey
      rw [hwaits k hk] at this
      simp at this
    have hholder : ∀ k, (s.site k).seq.key ≠ none → (s.site k).seq.state.isRunning = true := fun k hkey => by
      obtain h | h | h | h := hkeys k hkey <;> rw [h] <;> rfl
    have hstart : s.chosen.Losses [] s.chosen [] :=
      { turns := State.Turns.start hpool hnonzero hkeyless, waiters := rfl, granted := rfl, supply := rfl, work := .refl _ }
    have hlosses := hstart.losses hhold (fun k hrun hnone => absurd (hrun.symm.trans (hidle hnone k)) nofun) s.lossOrder s.lossOrder_nodup
      fun k hk => (s.mem_lossOrder k).1 hk
    rw [List.nil_append] at hlosses
    have hloseAll : s.loseAll = s.lossOrder.foldl loseSupply (s.chosen, []) := rfl
    rw [← hloseAll] at hlosses
    have hin := s.mem_lossOrder
    have hcount : s.lossOrder.countP s.chosen.holdsUnpulsed = n := by
      rw [State.lossOrder, (orderSites_perm _ _).countP_eq, List.countP_filter, hn]
      refine List.countP_congr fun k _ => ?_
      show ((s.site k).seq.key.isSome && !(s.site k).seq.pulsed && ((s.site k).seq.state.isRunning && (s.site k).seq.key.isSome)) = true ↔ _
      simp only [Bool.and_eq_true]
      tauto
    obtain ⟨hturns, hwaiters, hgranted, hsupply, hwork⟩ := hlosses
    rw [hcount] at hwaiters hgranted
    set w := s.loseAll.1 with hw
    set gs := s.loseAll.2 with hgs
    set x := (w.onSupply Supply.toOff).raise .supplyLost with hx
    have hxturns := (hturns.onSupply Supply.toOff).raise .supplyLost
    rw [← hx] at hxturns
    set z := s.chosen.raise .supplyLost with hz
    set u := s.expireHold with hu
    have hueq : u = x.deliver gs := rfl
    have hexec : exec .holdExpiry s = .next u.settle :=
      if_pos ⟨hhold, Option.isSome_iff_ne_none.2 htimer, (Arbiter.noGrant_iff _).2 hgrants⟩
    have hdeliver := State.deliver_endWork gs x
    have hut := hxturns.deliverAll
    rw [← hueq] at hdeliver hut
    have hnone : ∀ {k h}, (s.site k).seq.key = some h → look s.pool.waiting k = none := fun {k h} hkey => by
      by_contra hwait
      rw [hkeyless k hwait] at hkey
      cases hkey
    have hupool : u.pool = w.pool := by
      obtain ⟨p, a, xs, hframe⟩ := State.deliver_supplyWork gs x
      rw [hueq, hframe]
      rfl
    have hrunw : w.run = s.run := by
      obtain ⟨hr, -⟩ := hwork.work.kept
      exact hr
    refine ⟨u.settle, u, hexec, rfl, fun hquiet => ?_, fun k hrun hkey => ?_, fun f k hf hrun hkey => ?_, fun k h hkey hpulsed hno => ?_,
      fun j hj => ?_, fun k hk hwait => ?_, ?_, fun i hi => ?_, fun hno => ?_, ?_⟩
    · refine State.NoHandBackDue.settle_eq ?_
      obtain hquiet | ⟨j, hended, hkey⟩ := hquiet
      · obtain ⟨-, -, hr, -⟩ := hut.work.sched_kept
        exact .inl (hr.trans hquiet)
      · refine .inr ⟨j, ?_⟩
        rw [hut.reports j fun hjl => absurd hkey ((hin j).1 hjl).2]
        exact hended
    · exact (hut.done k ((hin k).2 ⟨hrun, hkey⟩) rfl).endedAs
    · obtain ⟨hended, hsite, hrecord, hvoided, hmap⟩ := (hut.done k ((hin k).2 ⟨hrun, hkey⟩) rfl).amongOthers (f := f) hf
        hut.work.workingRecipe
      exact ⟨hended, hsite, hrecord, hvoided, hmap⟩
    · have hkey' : (s.site k).seq.key ≠ none := by rw [hkey]; nofun
      refine (hut.returned k ((hin k).2 ⟨hholder k hkey', hkey'⟩) rfl h hkey hpulsed).resolve_right ?_
      rintro ⟨j, hj, -⟩
      exact hj (hno j)
    · have hjl : j ∉ s.lossOrder := fun hjl => ((hin j).1 hjl).2 (hkeyless j hj)
      have hjw : j ∈ waitersOf s.pool.waiting := (mem_waitersOf _ j).2 hj
      have hstate := hut.waiter j hjl hj
      split
      · rename_i hlow
        have hjt : j ∈ gs.map KeyGrant.site := by
          rw [hgranted]
          exact (mem_take_waitersOf hj n).2 hlow
        obtain ⟨g, hg, hgj⟩ := List.mem_map.1 hjt
        obtain ⟨-, -, hnow, -⟩ := hturns.grants g hg
        rw [hgj] at hnow
        obtain ⟨hsame, -⟩ | ⟨g', hg', -⟩ | ⟨hno, hreq, i, hserved⟩ := hstate
        · rw [hupool, hnow] at hsame
          exact absurd hsame.symm hj
        · exact absurd hg' List.not_mem_nil
        · obtain ⟨h', hkey', -⟩ := hserved.key
          have hheld : u.Holds [] j h'.slot := .inl ⟨h', hkey', rfl⟩
          obtain ⟨k, -, -, h, hkey, hpulsed, hslot⟩ := hut.source j _ hheld hj
          exact ⟨hserved.state, hno, hreq, k, h, h', hkey, hpulsed, hkey', hslot.symm, by rw [hslot]; exact hut.heldDrawn j _ hheld⟩
      · rename_i hhigh
        have hjd : j ∈ (waitersOf s.pool.waiting).drop n := by
          have hjw : j ∈ (waitersOf s.pool.waiting).take n ++ (waitersOf s.pool.waiting).drop n := by
            rw [List.take_append_drop]
            exact (mem_waitersOf _ j).2 hj
          exact (List.mem_append.1 hjw).resolve_left (mt (mem_take_waitersOf hj n).1 hhigh)
        have hstill : look u.pool.waiting j ≠ none := by
          rw [hupool, ← mem_waitersOf, hwaiters]
          exact hjd
        obtain ⟨hsame, hsite⟩ | ⟨g', hg', -⟩ | ⟨hno, -⟩ := hstate
        · exact ⟨hsite, hsame⟩
        · exact absurd hg' List.not_mem_nil
        · exact absurd hno hstill
    · refine hut.fresh k (fun hkl => ?_) hwait
      obtain ⟨hrun, hkey⟩ := (hin k).1 hkl
      obtain hk | hk := hk
      · rw [hrun] at hk
        cases hk
      · exact hkey hk
    · have hxsupply : x.supply = s.supply.toOff := congrArg Supply.toOff hsupply
      have hxrun : x.run = s.run := hrunw
      have hpump := State.deliver_supply (gs := gs) (s := x) (fun g hg => by
        obtain ⟨-, -, -, -, hnz⟩ := hturns.grants g hg
        exact hnz) (by rw [hxsupply, hxrun]; exact Supply.onRequest_toOff_twice s.supply s.run)
      have hnil : gs = [] ↔ ¬(0 < n ∧ ∃ j, look s.pool.waiting j ≠ none) := by
        rw [← List.map_eq_nil_iff (f := KeyGrant.site), hgranted, List.take_eq_nil_iff, List.eq_nil_iff_forall_not_mem]
        simp only [mem_waitersOf]
        constructor
        · rintro (rfl | hno) ⟨hpos, j, hj⟩
          · exact absurd hpos (lt_irrefl 0)
          · exact hno j hj
        · intro hnot
          by_cases hpos : n = 0
          · exact .inl hpos
          · exact .inr fun j hj => hnot ⟨Nat.pos_of_ne_zero hpos, j, hj⟩
      rw [hueq, hpump, hxsupply, hxrun]
      by_cases hserves : 0 < n ∧ ∃ j, look s.pool.waiting j ≠ none
      · rw [if_neg (fun h => hnil.1 h hserves)]
        cases hr : s.run with
        | true =>
          rw [if_pos ⟨rfl, hserves⟩]
          rfl
        | false =>
          rw [if_neg (fun h => absurd h.1 nofun)]
          rfl
      · rw [if_pos (hnil.2 hserves), if_neg (fun h => hserves h.2)]
        rfl
    · rw [hdeliver.attn i hi]
      show (w.attn ||| _).getLsbD i = _
      rw [supplyLost_bit, hwork.attn i hi]
      rfl
    · exact hut.attn hno
    · obtain ⟨hr, -, -, -, hdropped, hwafer, -⟩ := hut.work.kept
      exact ⟨hwafer, hr, hdropped⟩
  · rintro ⟨hhold, htimer, hgrants⟩
    obtain h | h | ⟨k, h⟩ := hnot
    · exact h hhold
    · rw [h] at htimer
      cases htimer
    · exact h ((Arbiter.noGrant_iff _).1 hgrants k)

end Sys2Proof.Machine

/-!
PROOF. What the sites claim of the shared blocks, seen site by site: the current in use, the requests, the grants and the stops taken (R55, R57,
R92 to R96, R144).
-/

namespace Sys2Proof.Machine

/-! ### One site with what the shared blocks hold for it -/

/-- Site k with its marks at the arbiter, the key pool unit and the scheduler, the running frame and the stop in force. -/
structure SiteView where
  site : Site
  request : Option Nat
  grant : Option Nat
  waiting : Option KeyLength
  ended : Bool
  running : Option FrameNo
  stop : FrameStop

/-- The states in which a site may hold a key (R33). -/
def SiteState.bearsKey : SiteState → Bool
  | .burnWait | .pulse | .verify | .final => true
  | .idle | .contact | .refer | .blank | .keywait | .ended => false

theorem SiteState.bearsKey_iff (x : SiteState) : x.bearsKey = true ↔ x = .burnWait ∨ x = .pulse ∨ x = .verify ∨ x = .final := by
  cases x <;> simp [SiteState.bearsKey]

/-- What `State.BudgetCoherent` says of one site and, with `stops`, what `State.StopsCoherent` says of it. -/
structure SiteView.Coherent (stops : Prop) (v : SiteView) : Prop where
  line : v.grant ≠ none ↔ v.site.port.lineOn = true
  granted : v.grant ≠ none → v.site.seq.state = .pulse
  requested : v.request ≠ none → v.site.seq.state = .burnWait
  waits : v.waiting ≠ none → v.site.seq.state = .keywait
  keyed : v.site.seq.key ≠ none → v.site.seq.state.bearsKey = true
  reading : v.site.port.op = some .referenceRead → v.site.seq.state = .refer ∨ v.site.seq.state.isRunning = false
  reported : v.ended = true → v.site.seq.state.isRunning = false
  framed : v.running = none → v.site.seq.state.isRunning = false
  bounded : stops → v.site.seq.stopTaken = .hard → v.site.seq.state.busy = true ∨ v.site.seq.state = .ended
  unstopped : stops → v.stop = .none ∨ v.running = none → v.site.seq.stopTaken = .none
  soft : stops → v.stop = .soft → v.site.seq.stopTaken ≠ .hard

/-- Two sites that claim the same of the shared blocks. -/
structure Site.ClaimsAlike (x y : Site) : Prop where
  state : y.seq.state = x.seq.state
  key : y.seq.key = x.seq.key
  stopTaken : y.seq.stopTaken = x.seq.stopTaken
  op : y.port.op = x.port.op

theorem Port.lineOn_congr {p q : Port} (h : q.op = p.op) : q.lineOn = p.lineOn := by
  rw [Port.lineOn, Port.lineOn, h]

/-- A site of the running frame with no request and no grant, which has not reported END and has taken no HARD stop: whatever state it goes on
to, it owes nothing for the one it comes from. -/
structure SiteView.GoesOn (stops : Prop) (v : SiteView) : Prop where
  request : v.request = none
  grant : v.grant = none
  waiting : v.waiting = none
  line : v.site.port.lineOn = false
  ended : v.ended = false
  framed : v.running ≠ none
  soft : stops → v.site.seq.stopTaken ≠ .hard
  unstopped : stops → v.stop = .none → v.site.seq.stopTaken = .none

/-- No grant of the site is in flight, and its stop is one that the stop in force allows: it may end. -/
structure SiteView.MayEnd (stops : Prop) (v : SiteView) : Prop where
  grant : v.grant = none
  line : v.site.port.lineOn = false
  unstopped : stops → v.stop = .none ∨ v.running = none → v.site.seq.stopTaken = .none
  soft : stops → v.stop = .soft → v.site.seq.stopTaken ≠ .hard

namespace SiteView

variable {stops : Prop} {v : SiteView} {y : Site}

theorem Coherent.line_off (h : v.Coherent stops) (hgrant : v.grant = none) : v.site.port.lineOn = false := by
  rw [← Bool.not_eq_true, ← h.line, hgrant]
  exact fun hne => hne rfl

theorem Coherent.no_grant (h : v.Coherent stops) (hstate : v.site.seq.state ≠ .pulse) : v.grant = none := by
  by_contra hgrant
  exact hstate (h.granted hgrant)

theorem Coherent.no_request (h : v.Coherent stops) (hstate : v.site.seq.state ≠ .burnWait) : v.request = none := by
  by_contra hreq
  exact hstate (h.requested hreq)

theorem Coherent.no_waiting (h : v.Coherent stops) (hstate : v.site.seq.state ≠ .keywait) : v.waiting = none := by
  by_contra hwait
  exact hstate (h.waits hwait)

theorem Coherent.not_ended (h : v.Coherent stops) (hrun : v.site.seq.state.isRunning = true) : v.ended = false := by
  rw [← Bool.not_eq_true]
  intro hended
  rw [h.reported hended] at hrun
  cases hrun

theorem Coherent.has_frame (h : v.Coherent stops) (hrun : v.site.seq.state.isRunning = true) : v.running ≠ none := by
  intro hnone
  rw [h.framed hnone] at hrun
  cases hrun

theorem Coherent.no_key (h : v.Coherent stops) (hstate : v.site.seq.state.bearsKey = false) : v.site.seq.key = none := by
  by_contra hkey
  rw [h.keyed hkey] at hstate
  cases hstate

/-- A running site that waits for no boundary has taken no HARD stop (R55). -/
theorem Coherent.not_hard (h : v.Coherent stops) (hrun : v.site.seq.state.isRunning = true) (hbusy : v.site.seq.state.busy = false)
    (hs : stops) : v.site.seq.stopTaken ≠ .hard := by
  intro hhard
  obtain hbound | hended := h.bounded hs hhard
  · rw [hbound] at hbusy
    cases hbusy
  · rw [hended] at hrun
    cases hrun

/-- A site that does not run claims nothing. -/
theorem Coherent.of_not_running (h : v.Coherent stops) (hrun : v.site.seq.state.isRunning = false) :
    v.request = none ∧ v.grant = none ∧ v.waiting = none ∧ v.site.seq.key = none := by
  have hne : ∀ x : SiteState, x.isRunning = true → v.site.seq.state ≠ x := fun x hx he => by
    rw [he, hx] at hrun
    cases hrun
  refine ⟨h.no_request (hne _ rfl), h.no_grant (hne _ rfl), h.no_waiting (hne _ rfl), h.no_key (Bool.eq_false_iff.2 fun hbears => ?_)⟩
  obtain hs | hs | hs | hs := (SiteState.bearsKey_iff _).1 hbears <;> exact hne _ rfl hs

theorem Coherent.of_alike (h : v.Coherent stops) (hy : v.site.ClaimsAlike y) : Coherent stops { v with site := y } := by
  obtain ⟨hstate, hkey, hstop, hop⟩ := hy
  have hline := Port.lineOn_congr hop
  constructor <;> dsimp only <;> simp only [hstate, hkey, hstop, hop, hline]
  exacts [h.line, h.granted, h.requested, h.waits, h.keyed, h.reading, h.reported, h.framed, h.bounded, h.unstopped, h.soft]

/-- A draw request may always be taken back. -/
theorem Coherent.unwait (h : v.Coherent stops) : Coherent stops { v with waiting := none } :=
  { h with waits := fun hne => absurd rfl hne }

theorem Coherent.mayEnd (h : v.Coherent stops) (hgrant : v.grant = none) : v.MayEnd stops :=
  ⟨hgrant, h.line_off hgrant, h.unstopped, h.soft⟩

theorem Coherent.goesOn (h : v.Coherent stops) (hrun : v.site.seq.state.isRunning = true) (hreq : v.request = none)
    (hgrant : v.grant = none) (hwait : v.waiting = none) (hhard : stops → v.site.seq.stopTaken ≠ .hard) : v.GoesOn stops :=
  ⟨hreq, hgrant, hwait, h.line_off hgrant, h.not_ended hrun, h.has_frame hrun, hhard, fun hs hstop => h.unstopped hs (.inl hstop)⟩

/-- A site that goes on may change its members but for the stop taken, and issue a read. -/
theorem GoesOn.of_site (h : v.GoesOn stops) (hstop : y.seq.stopTaken = v.site.seq.stopTaken) (hline : y.port.lineOn = false) :
    GoesOn stops { v with site := y } :=
  { h with line := hline, soft := by rw [hstop]; exact h.soft, unstopped := by rw [hstop]; exact h.unstopped }

/-- What a site that goes on owes in the state that it has reached, with a request or a draw request of its own. -/
theorem GoesOn.coherent (h : v.GoesOn stops) {r : Option Nat} {q : Option KeyLength}
    (hreq : r ≠ none → v.site.seq.state = .burnWait) (hwait : q ≠ none → v.site.seq.state = .keywait)
    (hkey : v.site.seq.key ≠ none → v.site.seq.state.bearsKey = true)
    (hread : v.site.port.op = some .referenceRead → v.site.seq.state = .refer) :
    Coherent stops { v with request := r, waiting := q } where
  line := by
    rw [h.grant, h.line]
    simp
  granted := fun hne => absurd h.grant hne
  requested := hreq
  waits := hwait
  keyed := hkey
  reading := fun hop => .inl (hread hop)
  reported := fun hended => by
    rw [h.ended] at hended
    cases hended
  framed := fun hnone => absurd hnone h.framed
  bounded := fun hs hhard => absurd hhard (h.soft hs)
  unstopped := fun hs hor => hor.elim (h.unstopped hs) fun hnone => absurd hnone h.framed
  soft := fun hs _ => h.soft hs

/-- A site that ends with no key and no pulse in flight claims nothing (R51). -/
theorem MayEnd.coherent (h : v.MayEnd stops) {ended : Bool} (hstate : y.seq.state = .ended) (hkey : y.seq.key = none)
    (hstop : y.seq.stopTaken = v.site.seq.stopTaken) (hline : y.port.lineOn = false) :
    Coherent stops { v with site := y, request := none, waiting := none, ended := ended } where
  line := by
    rw [h.grant, hline]
    simp
  granted := fun hne => absurd h.grant hne
  requested := fun hne => absurd rfl hne
  waits := fun hne => absurd rfl hne
  keyed := fun hne => absurd hkey hne
  reading := fun _ => .inr (by rw [hstate]; rfl)
  reported := fun _ => by rw [hstate]; rfl
  framed := fun _ => by rw [hstate]; rfl
  bounded := fun _ _ => .inr hstate
  unstopped := fun hs hor => hstop.trans (h.unstopped hs hor)
  soft := fun hs hsoft => by rw [hstop]; exact h.soft hs hsoft

end SiteView

/-! ### All sites -/

/-- Site k of s as its claims are judged. -/
def State.view (s : State) (k : SiteNo) : SiteView where
  site := s.site k
  request := look s.arbiter.requests k
  grant := look s.arbiter.grants k
  waiting := look s.pool.waiting k
  ended := look s.sched.ended k
  running := s.sched.running
  stop := s.sched.stop

/-- Current that grants in flight amount to, at a current for each cell. -/
def grantedCurrent (cell : Nat) (grants : Vector (Option Nat) 16) : Nat := (allSites.map fun k => (look grants k).getD 0 * cell).sum

/-- The current in use is what the grants in flight amount to, and at most the budget (R92). -/
structure State.WithinBudget (s : State) : Prop where
  granted : s.arbiter.inUse = grantedCurrent s.supply.params.cellCurrent s.arbiter.grants
  bound : s.arbiter.inUse ≤ s.supply.params.budget

/-- The current in use is within the budget, and every site but the one that an operation is at work on claims what it may. -/
structure State.CoherentBut (stops : Prop) (out : Option SiteNo) (s : State) : Prop where
  budget : s.WithinBudget
  views : ∀ k, out ≠ some k → (s.view k).Coherent stops

/-- The budget is kept, and with `stops` the stops taken are those in force. -/
abbrev State.Coherent (stops : Prop) (s : State) : Prop := s.CoherentBut stops none

theorem State.Coherent.view {stops : Prop} {s : State} (h : s.Coherent stops) (k : SiteNo) : (s.view k).Coherent stops := h.views k nofun

theorem State.coherent_iff (stops : Prop) (s : State) : s.Coherent stops ↔ s.BudgetCoherent ∧ (stops → s.StopsCoherent) := by
  constructor
  · intro h
    have v := fun k => h.view k
    exact ⟨⟨h.budget.granted, h.budget.bound, fun k => (v k).line, fun k => (v k).granted, fun k => (v k).requested, fun k => (v k).waits,
      fun k hkey => (SiteState.bearsKey_iff _).1 ((v k).keyed hkey), fun k => (v k).reading,
       fun k => (v k).reported, fun hnone k => (v k).framed hnone⟩,
      fun hs => ⟨fun k => (v k).bounded hs, fun hor k => (v k).unstopped hs hor, fun hsoft k => (v k).soft hs hsoft⟩⟩
  · rintro ⟨⟨hsum, hbound, hline, hgranted, hrequested, hwaits, hkeyed, hreading, hreported, hframed⟩, hstops⟩
    refine ⟨⟨hsum, hbound⟩, fun k _ => ⟨hline k, hgranted k, hrequested k, hwaits k, fun hkey => (SiteState.bearsKey_iff _).2 (hkeyed k hkey),
       hreading k, hreported k,
      fun hnone => hframed hnone k, fun hs => ?_, fun hs hor => ?_, fun hs hsoft => ?_⟩⟩
    · obtain ⟨hbounded, -, -⟩ := hstops hs
      exact hbounded k
    · obtain ⟨-, hunstopped, -⟩ := hstops hs
      exact hunstopped hor k
    · obtain ⟨-, -, hsoft'⟩ := hstops hs
      exact hsoft' hsoft k

/-! ### What leaves the claims of all sites, or of all but one -/

/-- The supply parameters, the grants in flight and the current in use are as they were. -/
structure State.SameGrants (s t : State) : Prop where
  params : t.supply.params = s.supply.params
  grants : t.arbiter.grants = s.arbiter.grants
  inUse : t.arbiter.inUse = s.arbiter.inUse

/-- t differs from s, in what the claims are judged by, at site k alone. -/
structure State.WorksAt (s : State) (k : SiteNo) (t : State) : Prop where
  same : s.SameGrants t
  others : ∀ j, j ≠ k → t.view j = s.view j

/-- t differs from s in nothing that the claims are judged by. -/
structure State.Unseen (s t : State) : Prop where
  same : s.SameGrants t
  views : ∀ j, t.view j = s.view j

theorem State.SameGrants.trans {s t u : State} (h : s.SameGrants t) (h' : t.SameGrants u) : s.SameGrants u :=
  ⟨h'.params.trans h.params, h'.grants.trans h.grants, h'.inUse.trans h.inUse⟩

theorem State.WorksAt.trans {s t u : State} {k : SiteNo} (h : s.WorksAt k t) (h' : t.WorksAt k u) : s.WorksAt k u :=
  ⟨h.same.trans h'.same, fun j hj => (h'.others j hj).trans (h.others j hj)⟩

theorem State.Unseen.trans {s t u : State} (h : s.Unseen t) (h' : t.Unseen u) : s.Unseen u :=
  ⟨h.same.trans h'.same, fun j => (h'.views j).trans (h.views j)⟩

theorem State.Unseen.worksAt {s t : State} (h : s.Unseen t) (k : SiteNo) : s.WorksAt k t := ⟨h.same, fun j _ => h.views j⟩

theorem State.WithinBudget.of_same {s t : State} (h : s.WithinBudget) (hst : s.SameGrants t) : t.WithinBudget :=
  ⟨by rw [hst.inUse, hst.params, hst.grants]; exact h.granted, by rw [hst.inUse, hst.params]; exact h.bound⟩

section Coherent

variable {stops : Prop} {out : Option SiteNo} {s t : State} {k : SiteNo}

theorem State.CoherentBut.of_unseen (h : s.CoherentBut stops out) (hst : s.Unseen t) : t.CoherentBut stops out :=
  ⟨h.budget.of_same hst.same, fun j hj => by rw [hst.views]; exact h.views j hj⟩

theorem State.Coherent.of_unseen (h : s.Coherent stops) (hst : s.Unseen t) : t.Coherent stops := State.CoherentBut.of_unseen h hst

theorem State.Coherent.but (h : s.Coherent stops) (k : SiteNo) : s.CoherentBut stops (some k) := ⟨h.budget, fun j _ => h.view j⟩

theorem State.CoherentBut.work (h : s.CoherentBut stops (some k)) (hst : s.WorksAt k t) : t.CoherentBut stops (some k) :=
  ⟨h.budget.of_same hst.same, fun j hj => by
    rw [hst.others j fun hjk => hj (congrArg some hjk.symm)]
    exact h.views j hj⟩

theorem State.CoherentBut.done (h : s.CoherentBut stops (some k)) (hk : (s.view k).Coherent stops) : s.Coherent stops :=
  ⟨h.budget, fun j _ => by
    by_cases hj : j = k
    · rw [hj]
      exact hk
    · exact h.views j fun hkj => hj (Option.some.inj hkj).symm⟩

/-- Work at one site of a coherent state, judged by what it leaves of that site. -/
theorem State.Coherent.after (h : s.Coherent stops) (hst : s.WorksAt k t) (hk : (t.view k).Coherent stops) : t.Coherent stops :=
  ((h.but k).work hst).done hk

end Coherent

/-! ### The plain updates -/

theorem State.onSite_worksAt (k : SiteNo) (f : Site → Site) (s : State) : s.WorksAt k (s.onSite k f) :=
  ⟨⟨rfl, rfl, rfl⟩, fun j hj => by
    show SiteView.mk _ _ _ _ _ _ _ = _
    rw [State.onSite_site_other s f (Ne.symm hj)]
    rfl⟩

@[simp] theorem State.onSite_view (k : SiteNo) (f : Site → Site) (s : State) :
    (s.onSite k f).view k = { s.view k with site := f (s.site k) } := by
  show SiteView.mk _ _ _ _ _ _ _ = _
  rw [State.onSite_site_same]
  rfl

end Sys2Proof.Machine

/-!
PROOF. Grants, releases and what the supply unit adds to them, for the sites' claims on the shared blocks (R67, R83, R93 to R96): O9.
-/

namespace Sys2Proof.Machine

theorem Supply.onRequest_params (run : Bool) (p : Supply) : (p.onRequest run).params = p.params := by
  unfold Supply.onRequest
  split
  · split <;> rfl
  · split
    · rfl
    · split <;> rfl
  · rfl
  · rfl

theorem State.idleIfQuiet_params (s : State) : s.idleIfQuiet.params = s.supply.params := by
  unfold State.idleIfQuiet
  split <;> rfl

theorem State.completeOffPending_params (s : State) : s.completeOffPending.supply.params = s.supply.params := by
  unfold State.completeOffPending
  split <;> rfl

/-- An update of the supply unit that keeps its parameters is not seen. -/
theorem State.unseen_of_supply {s : State} {p : Supply} (h : p.params = s.supply.params) : s.Unseen { s with supply := p } :=
  ⟨⟨h, rfl, rfl⟩, fun _ => rfl⟩

theorem State.startIdleIfQuiet_unseen (s : State) : s.Unseen s.startIdleIfQuiet := by
  rw [State.startIdleIfQuiet_eq]
  exact State.unseen_of_supply s.idleIfQuiet_params

theorem State.completeOffPending_unseen (s : State) : s.Unseen s.completeOffPending := by
  have hparams := s.completeOffPending_params
  obtain ⟨p, hp⟩ := s.completeOffPending_frame
  rw [hp] at hparams ⊢
  exact State.unseen_of_supply hparams

/-- A site's request changes at the arbiter, with whatever that does to the supply unit. -/
theorem State.worksAt_of_request {s : State} (k : SiteNo) (r : Option Nat) {p : Supply} (hp : p.params = s.supply.params) :
    s.WorksAt k { s with arbiter := { s.arbiter with requests := put s.arbiter.requests k r }, supply := p } :=
  ⟨⟨hp, rfl, rfl⟩, fun j hj => by
    simp only [State.view, look_put_other _ _ _ _ (Ne.symm hj)]
    rfl⟩

theorem State.requestBurst_worksAt (k : SiteNo) (n : Nat) (s : State) : s.WorksAt k (s.requestBurst k n) :=
  State.worksAt_of_request k (some n) (Supply.onRequest_params _ _)

@[simp] theorem State.requestBurst_view (k : SiteNo) (n : Nat) (s : State) :
    (s.requestBurst k n).view k = { s.view k with request := some n } := by
  simp only [State.view, State.requestBurst, look_put_same]
  rfl

theorem State.withdrawBurst_worksAt (k : SiteNo) (s : State) : s.WorksAt k (s.withdrawBurst k) := by
  rw [State.withdrawBurst_eq]
  refine State.worksAt_of_request k none ?_
  split
  · rfl
  · exact State.idleIfQuiet_params _

@[simp] theorem State.withdrawBurst_view (k : SiteNo) (s : State) : (s.withdrawBurst k).view k = { s.view k with request := none } := by
  rw [State.withdrawBurst_eq]
  simp only [State.view, look_put_same]
  rfl

/-- Site k enters or takes back a draw request. -/
theorem State.enterWaiting_worksAt (k : SiteNo) (q : Option KeyLength) (s : State) :
    s.WorksAt k (s.onPool fun p => { p with waiting := put p.waiting k q }) :=
  ⟨⟨rfl, rfl, rfl⟩, fun j hj => by
    simp only [State.view, State.onPool, look_put_other _ _ _ _ (Ne.symm hj)]
    rfl⟩

@[simp] theorem State.enterWaiting_view (k : SiteNo) (q : Option KeyLength) (s : State) :
    (s.onPool fun p => { p with waiting := put p.waiting k q }).view k = { s.view k with waiting := q } := by
  simp only [State.view, State.onPool, look_put_same]
  rfl

/-- Record, map code and report of site k. -/
theorem State.fileEnd_worksAt (k : SiteNo) (o : SiteOutcome) (d : Disposition) (serial : Word) (s : State) :
    s.WorksAt k (s.fileEnd k o d serial) := by
  rw [State.fileEnd_kept]
  exact ⟨⟨rfl, rfl, rfl⟩, fun j hj => by
    simp only [State.view, look_put_other _ _ _ _ (Ne.symm hj)]
    rfl⟩

@[simp] theorem State.fileEnd_view (k : SiteNo) (o : SiteOutcome) (d : Disposition) (serial : Word) (s : State) :
    (s.fileEnd k o d serial).view k = { s.view k with ended := true } := by
  rw [State.fileEnd_kept]
  simp only [State.view, look_put_same]
  rfl

/-! ### Grants -/

/-- What one entry adds to the current of the grants in flight. -/
theorem grantedCurrent_put (cell : Nat) (grants : Vector (Option Nat) 16) (k : SiteNo) (x : Option Nat) :
    grantedCurrent cell (put grants k x) + (look grants k).getD 0 * cell = grantedCurrent cell grants + x.getD 0 * cell := by
  have hsum : ∀ v : Vector (Option Nat) 16,
      grantedCurrent cell v = (look v k).getD 0 * cell + ∑ j ∈ Finset.univ.erase k, (look v j).getD 0 * cell := fun v => by
    rw [Finset.add_sum_erase _ (fun j => (look v j).getD 0 * cell) (Finset.mem_univ k), Fin.sum_univ_def]
    rfl
  have hothers : ∑ j ∈ Finset.univ.erase k, (look (put grants k x) j).getD 0 * cell
      = ∑ j ∈ Finset.univ.erase k, (look grants j).getD 0 * cell :=
    Finset.sum_congr rfl fun j hj => by rw [look_put_other _ _ _ _ (Finset.ne_of_mem_erase hj).symm]
  rw [hsum, hsum grants, hothers, look_put_same]
  omega

/-- With no grant in flight no current is granted, whatever a cell takes. -/
theorem grantedCurrent_of_none (cell : Nat) {grants : Vector (Option Nat) 16} (h : ∀ k, look grants k = none) :
    grantedCurrent cell grants = 0 := by
  simp [grantedCurrent, h]

section Coherent

variable {stops : Prop} {out : Option SiteNo} {s t : State} {k : SiteNo}

/-- A site that waits in BURN_WAIT takes its grant (R44, R94). -/
theorem SiteView.Coherent.granted_of_request {v : SiteView} (h : v.Coherent stops) (hreq : v.request ≠ none) {y : Site} {g : Nat} {ticks : Nat}
    (hstate : y.seq.state = .pulse) (hstop : y.seq.stopTaken = v.site.seq.stopTaken) (hop : y.port.op = some (.pulse ticks)) :
    SiteView.Coherent stops { v with site := y, request := none, grant := some g } := by
  have hwait := h.requested hreq
  have hrun : v.site.seq.state.isRunning = true := by rw [hwait]; rfl
  have hnodraw := h.no_waiting (by rw [hwait]; decide)
  exact {
    line := by simp [Port.lineOn, hop]
    granted := fun _ => hstate
    requested := fun hne => absurd rfl hne
    waits := fun hne => absurd hnodraw hne
    keyed := fun _ => by rw [hstate]; rfl
    reading := fun hread => by
      rw [hop] at hread
      cases hread
    reported := fun hended => by
      rw [h.not_ended hrun] at hended
      cases hended
    framed := fun hnone => absurd hnone (h.has_frame hrun)
    bounded := fun _ _ => .inl (by rw [hstate]; rfl)
    unstopped := fun hs hor => hstop.trans (h.unstopped hs hor)
    soft := fun hs hsoft => by rw [hstop]; exact h.soft hs hsoft }

theorem State.grant_view_same (k : SiteNo) (g : Nat) (chopped : Bool) (s : State) : (s.grant k g chopped).view k
    = { s.view k with site := (s.site k).issuePulse s.workingRecipe g chopped, request := none, grant := some g } := by
  simp only [State.view, State.grant_site_same]
  simp only [State.grant, State.onSite_arbiter, State.onSite_pool, State.onSite_sched, look_put_same]

theorem State.grant_view_other {j k : SiteNo} (h : j ≠ k) (g : Nat) (chopped : Bool) (s : State) : (s.grant k g chopped).view j = s.view j := by
  simp only [State.view, State.grant_site_other h]
  simp only [State.grant, State.onSite_arbiter, State.onSite_pool, State.onSite_sched, look_put_other _ _ _ _ (Ne.symm h)]

/-- A grant that fits in what is left of the budget (R94). -/
theorem State.CoherentBut.grant (h : s.CoherentBut stops out) {g : Nat} (chopped : Bool) (hreq : look s.arbiter.requests k ≠ none)
    (hk : out ≠ some k) (hfits : s.fits g = true) : (s.grant k g chopped).CoherentBut stops out := by
  have hview := h.views k hk
  have hwait := hview.requested hreq
  have hnone : look s.arbiter.grants k = none := hview.no_grant (by rw [hwait]; decide)
  refine ⟨⟨?_, ?_⟩, fun j hj => ?_⟩
  · have hput := grantedCurrent_put s.supply.params.cellCurrent s.arbiter.grants k (some g)
    rw [hnone, Option.getD_none, Nat.zero_mul, Nat.add_zero, ← h.budget.granted, Option.getD_some] at hput
    exact hput.symm
  · exact (State.fits_iff _ _).1 hfits
  · by_cases hjk : j = k
    · rw [hjk, State.grant_view_same]
      exact hview.granted_of_request hreq rfl rfl rfl
    · rw [State.grant_view_other hjk]
      exact h.views j hj

/-- A turn of a pass, where the site that an operation is at work on does not wait (R94). -/
theorem State.CoherentBut.grantTurn (h : s.CoherentBut stops out) (hout : ∀ j, out = some j → look s.arbiter.requests j = none) (k : SiteNo) :
    (s.grantTurn k).CoherentBut stops out := by
  cases hreq : look s.arbiter.requests k with
  | none =>
    rw [State.grantTurn_of_none hreq]
    exact h
  | some n =>
    have hwaits : look s.arbiter.requests k ≠ none := by rw [hreq]; exact nofun
    have hk : out ≠ some k := fun hk => hwaits (hout k hk)
    rw [State.grantTurn_of_some hreq]
    split
    · exact h.grant _ hwaits hk ‹_›
    · split
      · rename_i hchop
        exact h.grant _ hwaits hk hchop.2
      · exact h

/-- An evaluation keeps the current in use within the budget (R92, R94). -/
theorem State.CoherentBut.evaluate (h : s.CoherentBut stops out) (hout : ∀ j, out = some j → look s.arbiter.requests j = none) :
    s.evaluate.CoherentBut stops out := by
  have hturns : ∀ (l : List SiteNo) {t : State}, t.CoherentBut stops out → (∀ j, out = some j → look t.arbiter.requests j = none) →
      (l.foldl (fun u k => u.grantTurn k) t).CoherentBut stops out := by
    intro l
    induction l with
    | nil => exact fun ht _ => ht
    | cons k l ih =>
      exact fun ht hnone => ih (ht.grantTurn hnone k) fun j hj => (State.grantTurn_passesBy (hnone j hj) k).request
  unfold State.evaluate
  split
  · exact hturns _ h hout
  · exact h

/-! ### Releases -/

theorem State.lowerInUse_view_other {j k : SiteNo} (hj : j ≠ k) (g : Nat) (s : State) : (s.lowerInUse k g).view j = s.view j := by
  rw [State.lowerInUse_eq]
  simp only [State.view, look_put_other _ _ _ _ (Ne.symm hj)]
  rfl

/-- The current of a grant in flight is given back (R95). -/
theorem State.CoherentBut.lowerInUse (h : s.CoherentBut stops (some k)) {g : Nat} (hgrant : look s.arbiter.grants k = some g) :
    (s.lowerInUse k g).CoherentBut stops (some k) := by
  have hparams : (s.lowerInUse k g).supply.params = s.supply.params := by
    rw [State.lowerInUse_eq]
    dsimp only
    split <;> rfl
  refine ⟨⟨?_, ?_⟩, fun j hj => ?_⟩
  · have hput := grantedCurrent_put s.supply.params.cellCurrent s.arbiter.grants k none
    rw [hgrant, ← h.budget.granted, Option.getD_none, Option.getD_some] at hput
    rw [hparams, State.lowerInUse_eq]
    dsimp only
    omega
  · have hbound := h.budget.bound
    rw [hparams, State.lowerInUse_eq]
    dsimp only
    omega
  · rw [State.lowerInUse_view_other fun hjk => hj (congrArg some hjk.symm)]
    exact h.views j hj

/-- A release at a site whose line is off already, and which does not wait (R95). -/
theorem State.CoherentBut.release (h : s.CoherentBut stops (some k)) (hreq : look s.arbiter.requests k = none) :
    (s.release k).CoherentBut stops (some k) := by
  have hout : ∀ {t : State}, look t.arbiter.requests k = none → ∀ j, some k = some j → look t.arbiter.requests j = none :=
    fun ht j hj => Option.some.inj hj ▸ ht
  unfold State.release
  split
  · exact h
  · rename_i g hgrant
    have hpass := State.evaluate_passesBy hreq
    have hlow := (h.evaluate (hout hreq)).lowerInUse (hpass.grant.trans hgrant)
    refine (hlow.evaluate (hout ?_)).of_unseen (State.startIdleIfQuiet_unseen _)
    rw [State.lowerInUse_eq]
    exact hpass.request

end Coherent

end Sys2Proof.Machine

/-!
PROOF. Pulses and draws, for the sites' claims on the shared blocks (R30, R40, R43, R72, R121): O9.
-/

namespace Sys2Proof.Machine

section Pulse

variable {stops : Prop} {s : State} {k : SiteNo}

/-- A site whose pulse is over, and whose grant is released, stays in PULSE with nothing in flight (R10, R95). -/
theorem SiteView.Coherent.pulse_over {v : SiteView} (h : v.Coherent stops) {y : Site} (hstate : v.site.seq.state = .pulse)
    (hseq : y.seq = v.site.seq) (hop : y.port.op = none) :
    SiteView.Coherent stops { v with site := y, request := none, grant := none } where
  line := by simp [Port.lineOn, hop]
  granted := fun hne => absurd rfl hne
  requested := fun hne => absurd rfl hne
  waits := fun hne => absurd (h.no_waiting (by rw [hstate]; decide)) hne
  keyed := by rw [hseq]; exact h.keyed
  reading := fun hread => by
    rw [hop] at hread
    cases hread
  reported := by rw [hseq]; exact h.reported
  framed := by rw [hseq]; exact h.framed
  bounded := by rw [hseq]; exact h.bounded
  unstopped := by rw [hseq]; exact h.unstopped
  soft := by rw [hseq]; exact h.soft

theorem State.pulseDone_worksAt (s : State) (k : SiteNo) (truncated : Bool) : s.WorksAt k (s.pulseDone k truncated) :=
  State.onSite_worksAt k (fun x => { x with
    port := { x.port with op := none }
    monitor := { x.monitor with phase := .noPulse, limits := none, sample := none, truncated := x.monitor.truncated || truncated } }) s

/-- A pulse in flight finds its site in PULSE with a grant and no request (R92). -/
theorem State.Coherent.pulsing (h : s.Coherent stops) (hpulse : s.pulsing k = true) :
    (s.site k).seq.state = .pulse ∧ (∃ g, look s.arbiter.grants k = some g) ∧ look s.arbiter.requests k = none := by
  have hview := h.view k
  have hgrant : look s.arbiter.grants k ≠ none := hview.line.2 hpulse
  have hstate := hview.granted hgrant
  exact ⟨hstate, Option.ne_none_iff_exists'.1 hgrant, hview.no_request (by rw [hstate]; decide)⟩

/-- A site after its pulse, with no grant, no request and nothing in flight. -/
structure State.PulseOver (s : State) (k : SiteNo) : Prop where
  state : (s.site k).seq.state = .pulse
  op : (s.site k).port.op = none
  grant : look s.arbiter.grants k = none

/-- A pulse ends, by completion or truncation, and its grant is released (R10, R92, R95). -/
theorem State.Coherent.pulseEnds (h : s.Coherent stops) (hpulse : s.pulsing k = true) (truncated : Bool) :
    ((s.pulseDone k truncated).release k).Coherent stops ∧ ((s.pulseDone k truncated).release k).PulseOver k := by
  obtain ⟨hstate, ⟨g, hgrant⟩, hreq⟩ := h.pulsing hpulse
  obtain ⟨-, hsite, hnoreq, hnogrant⟩ := State.pulseDone_release hgrant hreq truncated
  have hwork := State.pulseDone_release_supplyWork s k truncated
  have hview : ((s.pulseDone k truncated).release k).view k
      = { s.view k with site := (s.pulseDone k truncated).site k, request := none, grant := none } := by
    obtain ⟨p, a, xs, hframe⟩ := hwork
    rw [State.view, hsite, hnoreq, hnogrant, hframe]
    rfl
  have hbut := ((h.but k).work (s.pulseDone_worksAt k truncated)).release hreq
  refine ⟨hbut.done ?_, ?_, ?_, hnogrant⟩
  · rw [hview]
    exact (h.view k).pulse_over hstate (by rw [State.pulseDone_site_same]; rfl) (by rw [State.pulseDone_site_same])
  · rw [hsite, State.pulseDone_site_same]
    exact hstate
  · rw [hsite, State.pulseDone_site_same]

end Pulse

/-! ### Draws -/

theorem Pool.choose_keeps_waiting {p q : Pool} {i : SlotNo} (h : p.choose = some (i, q)) : q.waiting = p.waiting := by
  unfold Pool.choose at h
  split at h
  · cases h
    rfl
  · split at h
    · cases h
      rfl
    · cases h

/-- The draw requests of the sites of a list are answered, and nothing else is seen of it by the sites, the supply unit, the arbiter and the
scheduler. -/
structure State.Draws (s : State) (served : List SiteNo) (t : State) : Prop where
  sites : t.sites = s.sites
  supply : t.supply = s.supply
  arbiter : t.arbiter = s.arbiter
  sched : t.sched = s.sched
  waiting : ∀ k, look t.pool.waiting k = if k ∈ served then none else look s.pool.waiting k
  asked : ∀ k ∈ served, look s.pool.waiting k ≠ none
  nodup : served.Nodup

theorem State.Draws.refl (s : State) : s.Draws [] s := ⟨rfl, rfl, rfl, rfl, fun _ => rfl, nofun, List.nodup_nil⟩

theorem State.Draws.trans {s t u : State} {l l' : List SiteNo} (h : s.Draws l t) (h' : t.Draws l' u) : s.Draws (l ++ l') u where
  sites := h'.sites.trans h.sites
  supply := h'.supply.trans h.supply
  arbiter := h'.arbiter.trans h.arbiter
  sched := h'.sched.trans h.sched
  waiting := fun k => by
    rw [h'.waiting, h.waiting]
    by_cases hk : k ∈ l <;> simp [hk]
  asked := fun k hk => by
    obtain hk | hk := List.mem_append.1 hk
    · exact h.asked k hk
    · have hasked := h'.asked k hk
      rw [h.waiting] at hasked
      split at hasked
      · exact absurd rfl hasked
      · exact hasked
  nodup := List.nodup_append.2 ⟨h.nodup, h'.nodup, fun a ha b hb hab => by
    have hasked := h'.asked b hb
    rw [h.waiting, if_pos (hab ▸ ha)] at hasked
    exact hasked rfl⟩

theorem State.lowerLoaded_waiting (s : State) : s.lowerLoaded.pool.waiting = s.pool.waiting := by
  unfold State.lowerLoaded
  dsimp only
  split <;> rfl

/-- A draw for a site, with or without a request of its own (R123). -/
theorem State.draw_waiting {s t : State} {k : SiteNo} {len : KeyLength} {g : KeyGrant} (h : s.draw k len = some (t, g)) :
    g.site = k ∧ t.sites = s.sites ∧ t.supply = s.supply ∧ t.arbiter = s.arbiter ∧ t.sched = s.sched
      ∧ t.pool.waiting = put s.pool.waiting k none := by
  have hsites := State.draw_sites h
  have hsched := State.draw_sched h
  unfold State.draw at h
  cases hchoose : s.pool.choose with
  | none =>
    rw [hchoose] at h
    cases h
  | some c =>
    obtain ⟨i, p⟩ := c
    rw [hchoose] at h
    obtain ⟨ht, hg⟩ := Prod.mk.inj (Option.some.inj h)
    obtain ⟨hsupply, harb⟩ := State.drawSlot_keepsPower k i p s
    subst ht
    refine ⟨by rw [← hg], hsites, hsupply, harb, hsched, ?_⟩
    rw [State.drawSlot, State.lowerLoaded_waiting, ← Pool.choose_keeps_waiting hchoose]
    rfl

theorem State.draw_draws {s t : State} {k : SiteNo} {len : KeyLength} {g : KeyGrant} (h : s.draw k len = some (t, g))
    (hk : look s.pool.waiting k ≠ none) : s.Draws [g.site] t := by
  obtain ⟨rfl, hsites, hsupply, harb, hsched, hwaiting⟩ := State.draw_waiting h
  refine ⟨hsites, hsupply, harb, hsched, fun j => ?_, fun j hj => ?_, List.nodup_singleton _⟩
  · rw [hwaiting, look_put]
    simp only [List.mem_singleton, eq_comm]
  · rw [List.mem_singleton.1 hj]
    exact hk

/-- The sites that a list of key grants goes to. -/
def grantSites (gs : List KeyGrant) : List SiteNo := gs.map KeyGrant.site

theorem drawTurn_draws (acc : State × List KeyGrant) (k : SiteNo) :
    ∃ gs, (drawTurn acc k).2 = acc.2 ++ gs ∧ acc.1.Draws (grantSites gs) (drawTurn acc k).1 := by
  cases hwait : look acc.1.pool.waiting k with
  | none =>
    rw [drawTurn_of_not_waiting hwait]
    exact ⟨[], (List.append_nil _).symm, .refl _⟩
  | some len =>
    cases hdraw : acc.1.draw k len with
    | none =>
      simp only [drawTurn, hwait, hdraw]
      exact ⟨[], (List.append_nil _).symm, .refl _⟩
    | some r =>
      obtain ⟨t, g⟩ := r
      simp only [drawTurn, hwait, hdraw]
      exact ⟨[g], rfl, State.draw_draws hdraw (by rw [hwait]; exact nofun)⟩

/-- An evaluation of the waiting sites answers the requests of the sites that it makes key grants for (R121). -/
theorem State.evaluateDraws_draws (s : State) : s.Draws (grantSites s.evaluateDraws.2) s.evaluateDraws.1 := by
  have hturns : ∀ (l : List SiteNo) (acc : State × List KeyGrant),
      ∃ gs, (l.foldl drawTurn acc).2 = acc.2 ++ gs ∧ acc.1.Draws (grantSites gs) (l.foldl drawTurn acc).1 := by
    intro l
    induction l with
    | nil => exact fun acc => ⟨[], (List.append_nil _).symm, .refl _⟩
    | cons k l ih =>
      intro acc
      obtain ⟨gs, hgs, hdraws⟩ := drawTurn_draws acc k
      obtain ⟨gs', hgs', hdraws'⟩ := ih (drawTurn acc k)
      refine ⟨gs ++ gs', by rw [List.foldl_cons, hgs', hgs, List.append_assoc], ?_⟩
      rw [grantSites, List.map_append]
      exact hdraws.trans hdraws'
  obtain ⟨gs, hgs, hdraws⟩ := hturns allSites (s, [])
  rw [State.evaluateDraws, hgs, List.nil_append]
  exact hdraws

/-- The settlement of a key answers the requests of the sites that a returned key is drawn for (R127, R128). -/
theorem State.settleKey_draws (k : SiteNo) (o : SiteOutcome) (s : State) : s.Draws (grantSites (s.settleKey k o).2.2) (s.settleKey k o).1 := by
  unfold State.settleKey
  split
  · exact .refl s
  · split
    · rw [State.bindSlot_eq]
      exact ⟨rfl, rfl, rfl, rfl, fun _ => rfl, nofun, List.nodup_nil⟩
    · split
      · rw [State.voidSlot_eq]
        exact ⟨rfl, rfl, rfl, rfl, fun _ => rfl, nofun, List.nodup_nil⟩
      · rename_i held _ _ _
        have hreturn : s.Draws [] (s.returnSlot held.slot held.buffer) := by
          rw [State.returnSlot_eq]
          exact ⟨rfl, rfl, rfl, rfl, fun _ => rfl, nofun, List.nodup_nil⟩
        dsimp only
        generalize s.returnSlot held.slot held.buffer = r at hreturn ⊢
        have hdraws := hreturn.trans r.evaluateDraws_draws
        rwa [List.nil_append] at hdraws

/-! ### Sites that a key was drawn for and that have not taken it -/

/-- The sites of a list, each once, wait in KEYWAIT for a key that has been drawn for them. -/
structure State.Awaits (s : State) (l : List SiteNo) : Prop where
  nodup : l.Nodup
  state : ∀ k ∈ l, (s.site k).seq.state = .keywait
  waiting : ∀ k ∈ l, look s.pool.waiting k = none

theorem State.Awaits.nil (s : State) : s.Awaits [] := ⟨List.nodup_nil, nofun, nofun⟩

section Draws

variable {stops : Prop} {out : Option SiteNo} {s t : State} {l served : List SiteNo} {k : SiteNo}

theorem State.Draws.site (h : s.Draws l t) (k : SiteNo) : t.site k = s.site k := by
  rw [State.site, h.sites]
  rfl

theorem State.Draws.view (h : s.Draws l t) (k : SiteNo) :
    t.view k = { s.view k with waiting := if k ∈ l then none else look s.pool.waiting k } := by
  rw [State.view, h.site, h.arbiter, h.sched, h.waiting]
  rfl

theorem State.Draws.view_of_not_mem (h : s.Draws l t) (hk : k ∉ l) : t.view k = s.view k := by
  rw [h.view, if_neg hk]
  rfl

theorem State.Draws.sameGrants (h : s.Draws l t) : s.SameGrants t := ⟨by rw [h.supply], by rw [h.arbiter], by rw [h.arbiter]⟩

theorem State.CoherentBut.draws (h : s.CoherentBut stops out) (hdraws : s.Draws l t) : t.CoherentBut stops out :=
  ⟨h.budget.of_same hdraws.sameGrants, fun k hk => by
    by_cases hkl : k ∈ l
    · rw [hdraws.view, if_pos hkl]
      exact (h.views k hk).unwait
    · rw [hdraws.view_of_not_mem hkl]
      exact h.views k hk⟩

/-- The sites that a key was drawn for before the draws still await it, and those that one is drawn for await theirs. -/
theorem State.Awaits.draws (ha : s.Awaits served) (h : s.CoherentBut stops out) (hout : ∀ k, out = some k → look s.pool.waiting k = none)
    (hdraws : s.Draws l t) : t.Awaits (served ++ l) where
  nodup := List.nodup_append.2 ⟨ha.nodup, hdraws.nodup, fun a has b hbl hab =>
    hdraws.asked b hbl (hab ▸ ha.waiting a has)⟩
  state := fun k hk => by
    rw [hdraws.site]
    obtain hk | hk := List.mem_append.1 hk
    · exact ha.state k hk
    · have hasked := hdraws.asked k hk
      exact (h.views k fun hko => hasked (hout k hko)).waits hasked
  waiting := fun k hk => by
    rw [hdraws.waiting]
    obtain hk | hk := List.mem_append.1 hk
    · split
      · rfl
      · exact ha.waiting k hk
    · rw [if_pos hk]

/-- Work at another site leaves the sites that await a key. -/
theorem State.Awaits.work (ha : s.Awaits served) (hst : s.WorksAt k t) (hk : k ∉ served) : t.Awaits served := by
  have hview : ∀ j ∈ served, t.view j = s.view j := fun j hj => hst.others j fun hjk => hk (hjk ▸ hj)
  exact ⟨ha.nodup, fun j hj => (congrArg (fun v : SiteView => v.site.seq.state) (hview j hj)).trans (ha.state j hj),
    fun j hj => (congrArg SiteView.waiting (hview j hj)).trans (ha.waiting j hj)⟩

end Draws

end Sys2Proof.Machine

/-!
PROOF. A site that goes on, a key that is granted and a site that ends, for the sites' claims on the shared blocks (R51 to R57, R127): O9.
-/

namespace Sys2Proof.Machine

/-! ### A site that goes on -/

/-- Site k goes on, with no reference read in flight. -/
structure State.GoesOn (stops : Prop) (s : State) (k : SiteNo) : Prop where
  view : (s.view k).GoesOn stops
  op : (s.site k).port.op ≠ some .referenceRead

/-- Site k runs with nothing in flight and nothing asked for. -/
structure State.AtRest (s : State) (k : SiteNo) : Prop where
  running : (s.site k).seq.state.isRunning = true
  op : (s.site k).port.op = none
  request : look s.arbiter.requests k = none
  grant : look s.arbiter.grants k = none
  waiting : look s.pool.waiting k = none

section GoesOn

variable {stops : Prop} {s t : State} {k : SiteNo} {f : Site → Site}

theorem SiteView.GoesOn.with_request {v : SiteView} (h : v.GoesOn stops) (n : Nat) (hstate : v.site.seq.state = .burnWait)
    (hop : v.site.port.op ≠ some .referenceRead) : SiteView.Coherent stops { v with request := some n } :=
  h.coherent (q := v.waiting) (fun _ => hstate) (fun hne => absurd h.waiting hne) (fun _ => by rw [hstate]; rfl) fun hread => absurd hread hop

theorem SiteView.GoesOn.at_state {v : SiteView} (h : v.GoesOn stops)
    (hkey : v.site.seq.key ≠ none → v.site.seq.state.bearsKey = true)
    (hread : v.site.port.op = some .referenceRead → v.site.seq.state = .refer) : v.Coherent stops :=
  h.coherent (r := v.request) (q := v.waiting) (fun hne => absurd h.request hne) (fun hne => absurd h.waiting hne) hkey hread

theorem State.Coherent.not_reading (h : s.Coherent stops) (hrun : (s.site k).seq.state.isRunning = true)
    (hstate : (s.site k).seq.state ≠ .refer) : (s.site k).port.op ≠ some .referenceRead := by
  intro hop
  obtain hrefer | hidle := (h.view k).reading hop
  · exact hstate hrefer
  · rw [show (s.site k).seq.state.isRunning = false from hidle] at hrun
    cases hrun

theorem State.Coherent.goesOn (h : s.Coherent stops) (hrest : s.AtRest k) (hhard : stops → (s.site k).seq.stopTaken ≠ .hard) :
    s.GoesOn stops k :=
  ⟨(h.view k).goesOn hrest.running hrest.request hrest.grant hrest.waiting hhard, by rw [hrest.op]; exact nofun⟩

/-- A running site that waits for no boundary and has asked for nothing goes on. -/
theorem State.Coherent.goesOn_of_state (h : s.Coherent stops) {x : SiteState} (hstate : (s.site k).seq.state = x) (hrun : x.isRunning = true)
    (hbusy : x.busy = false) (hburn : x ≠ .burnWait) (hwait : look s.pool.waiting k = none) : s.GoesOn stops k := by
  subst hstate
  have hview := h.view k
  have hne : ∀ y : SiteState, y.busy = true → (s.site k).seq.state ≠ y := fun y hy he => by
    rw [he, hy] at hbusy
    cases hbusy
  exact ⟨hview.goesOn hrun (hview.no_request hburn) (hview.no_grant (hne _ rfl)) hwait (hview.not_hard hrun hbusy),
    h.not_reading hrun (hne _ rfl)⟩

/-- A site that runs, with nothing in flight, and is in none of the states with a claim is at rest. -/
theorem State.Coherent.atRest (h : s.Coherent stops) (hrun : (s.site k).seq.state.isRunning = true) (hop : (s.site k).port.op = none)
    (hpulse : (s.site k).seq.state ≠ .pulse) (hburn : (s.site k).seq.state ≠ .burnWait) (hkey : (s.site k).seq.state ≠ .keywait) :
    s.AtRest k :=
  have hview := h.view k
  ⟨hrun, hop, hview.no_request hburn, hview.no_grant hpulse, hview.no_waiting hkey⟩

theorem State.PulseOver.atRest (hover : s.PulseOver k) (h : s.Coherent stops) : s.AtRest k :=
  have hview := h.view k
  have hne : ∀ x : SiteState, x ≠ .pulse → (s.view k).site.seq.state ≠ x := fun x hx he => hx (he.symm.trans hover.state)
  ⟨by rw [hover.state]; rfl, hover.op, hview.no_request (hne _ (by decide)), hover.grant, hview.no_waiting (hne _ (by decide))⟩

theorem State.AtRest.onSite (h : s.AtRest k) (hstate : (f (s.site k)).seq.state = (s.site k).seq.state)
    (hop : (f (s.site k)).port.op = (s.site k).port.op) : (s.onSite k f).AtRest k :=
  ⟨by rw [State.onSite_site_same, hstate]; exact h.running, by rw [State.onSite_site_same, hop]; exact h.op, h.request, h.grant, h.waiting⟩

/-- A site that goes on may change any member but the stop taken and the operation in flight. -/
theorem State.GoesOn.onSite (h : s.GoesOn stops k) (hstop : (f (s.site k)).seq.stopTaken = (s.site k).seq.stopTaken)
    (hop : (f (s.site k)).port.op = (s.site k).port.op) : (s.onSite k f).GoesOn stops k := by
  refine ⟨?_, ?_⟩
  · rw [State.onSite_view]
    exact h.view.of_site hstop ((Port.lineOn_congr hop).trans h.view.line)
  · rw [State.onSite_site_same, hop]
    exact h.op

/-- An update of a site that leaves what it claims. -/
theorem State.Coherent.onSite_alike (h : s.Coherent stops) (k : SiteNo) (hf : (s.site k).ClaimsAlike (f (s.site k))) :
    (s.onSite k f).Coherent stops :=
  h.after (State.onSite_worksAt k f s) (by
    rw [State.onSite_view]
    exact (h.view k).of_alike hf)

/-! ### A site's way through its rows -/

theorem State.CoherentBut.requestCurrent (h : s.CoherentBut stops (some k)) (hgo : s.GoesOn stops k) : (s.requestCurrent k).Coherent stops := by
  have hwait : (s.onSeq k fun q => { q with state := .burnWait }).GoesOn stops k := hgo.onSite (k := k) rfl rfl
  refine (h.work ((State.onSite_worksAt k _ s).trans (State.requestBurst_worksAt k _ _))).done ?_
  rw [State.requestBurst_view]
  refine hwait.view.with_request _ ?_ hwait.op
  show ((s.onSeq k _).site k).seq.state = _
  rw [State.onSeq_site_same]

theorem State.CoherentBut.beginAttempt (h : s.CoherentBut stops (some k)) (hgo : s.GoesOn stops k) (row : Row) (n : Nat) (pending : ColSet) :
    (s.beginAttempt k row n pending).Coherent stops :=
  ((h.work (State.onSite_worksAt k _ s)).work (State.onSite_worksAt k _ _)).requestCurrent
    ((hgo.onSite (k := k) (f := fun x => { x with seq := { x.seq with row := some row, attempt := n, pendingSet := pending } }) rfl rfl).onSite
      (k := k) rfl rfl)

/-- A site that goes on changes its members and may issue a read of a row. -/
theorem State.CoherentBut.onSite_goes (h : s.CoherentBut stops (some k)) (hgo : s.GoesOn stops k)
    (hstop : (f (s.site k)).seq.stopTaken = (s.site k).seq.stopTaken) (hline : (f (s.site k)).port.lineOn = false)
    (hkey : (f (s.site k)).seq.key ≠ none → (f (s.site k)).seq.state.bearsKey = true)
    (hread : (f (s.site k)).port.op = some .referenceRead → (f (s.site k)).seq.state = .refer) : (s.onSite k f).Coherent stops := by
  refine (h.work (State.onSite_worksAt k f s)).done ?_
  rw [State.onSite_view]
  exact (hgo.view.of_site hstop hline).at_state hkey hread

theorem State.issueVerify_onSeq (k : SiteNo) (row : Row) (q : Sequencer → Sequencer) (s : State) : (s.onSeq k q).issueVerify k row
    = s.onSite k fun x => { x with seq := q x.seq, port := { x.port with op := some (.rowRead row .nominal) } } := by
  rw [State.issueVerify, State.issueOp_eq, State.onSeq_eq, State.onSite_onSite]

theorem State.CoherentBut.enterFinal (h : s.CoherentBut stops (some k)) (hgo : s.GoesOn stops k) : (s.enterFinal k).Coherent stops := by
  rw [State.enterFinal, State.issueVerify_onSeq]
  exact h.onSite_goes hgo rfl rfl (fun _ => rfl) nofun

theorem State.CoherentBut.beginRow (h : s.CoherentBut stops (some k)) (hgo : s.GoesOn stops k) (row : Row) : (s.beginRow k row).Coherent stops := by
  unfold State.beginRow
  split
  · exact h.beginAttempt hgo _ _ _
  · exact h.enterFinal hgo

theorem State.Coherent.beginLocking (h : s.Coherent stops) (hgo : s.GoesOn stops k) : (s.beginLocking k).Coherent stops :=
  ((h.but k).work (State.onSite_worksAt k _ s)).beginAttempt (hgo.onSite (k := k) rfl rfl) _ _ _

theorem State.Coherent.afterGoodPulse (h : s.Coherent stops) (hgo : s.GoesOn stops k) : (s.afterGoodPulse k).Coherent stops := by
  have hformer : (s.onFormer k (Former.afterGood (s.burstSize k))).Coherent stops := h.onSite_alike k ⟨rfl, rfl, rfl, rfl⟩
  have hgo' : (s.onFormer k (Former.afterGood (s.burstSize k))).GoesOn stops k := hgo.onSite (k := k) rfl rfl
  unfold State.afterGoodPulse
  dsimp only
  split
  · split
    · rw [State.issueVerify_onSeq]
      exact (hformer.but k).onSite_goes hgo' rfl rfl (fun _ => rfl) nofun
    · exact hformer
  · exact (hformer.but k).requestCurrent hgo'

/-! ### Key grants -/

/-- A site in KEYWAIT takes the key that was drawn for it (R40). -/
theorem State.Coherent.takeKeyGrant (h : s.Coherent stops) {g : KeyGrant} (hstate : (s.site g.site).seq.state = .keywait)
    (hwait : look s.pool.waiting g.site = none) : (s.takeKeyGrant g).Coherent stops := by
  have hgo : s.GoesOn stops g.site := h.goesOn_of_state hstate rfl rfl nofun hwait
  rw [State.takeKeyGrant_eq]
  exact ((h.but g.site).work (State.onSite_worksAt _ _ s)).beginRow (hgo.onSite rfl rfl) 0

theorem State.takeKeyGrant_worksAt (g : KeyGrant) (s : State) : s.WorksAt g.site (s.takeKeyGrant g) := by
  have hattempt : ∀ (row : Row) (n : Nat) (pending : ColSet) (t : State), t.WorksAt g.site (t.beginAttempt g.site row n pending) :=
    fun row n pending t => by
      rw [State.beginAttempt_eq]
      exact (State.onSite_worksAt _ _ t).trans (State.requestBurst_worksAt _ _ _)
  rw [State.takeKeyGrant_eq]
  refine (State.onSite_worksAt _ (Site.keyed s.workingRecipe.keyLength g) s).trans ?_
  unfold State.beginRow
  split
  · exact hattempt _ _ _ _
  · rw [State.enterFinal, State.issueVerify_onSeq]
    exact State.onSite_worksAt _ _ _

/-- The sites that a key was drawn for take their keys one after the other (R121, R123). -/
theorem State.Coherent.deliver {gs : List KeyGrant} (h : s.Coherent stops) (ha : s.Awaits (grantSites gs)) : (s.deliver gs).Coherent stops := by
  unfold State.deliver
  induction gs generalizing s with
  | nil => exact h
  | cons g gs ih =>
    obtain ⟨hnodup, hstate, hwait⟩ := ha
    obtain ⟨hg, hgs⟩ := List.nodup_cons.1 hnodup
    have hrest : s.Awaits (grantSites gs) :=
      ⟨hgs, fun k hk => hstate k (List.mem_cons_of_mem _ hk), fun k hk => hwait k (List.mem_cons_of_mem _ hk)⟩
    exact ih (h.takeKeyGrant (hstate _ List.mem_cons_self) (hwait _ List.mem_cons_self))
      (hrest.work (State.takeKeyGrant_worksAt g s) hg)

theorem State.Coherent.evaluatePool (h : s.Coherent stops) : s.evaluatePool.Coherent stops := by
  have ha := (State.Awaits.nil s).draws h nofun s.evaluateDraws_draws
  rw [List.nil_append] at ha
  have hdrawn : s.evaluateDraws.1.Coherent stops := h.draws s.evaluateDraws_draws
  exact hdrawn.deliver ha

/-- A draw for the lowest waiting site (R123). -/
theorem State.Coherent.draw_takeKeyGrant (h : s.Coherent stops) {len : KeyLength} {g : KeyGrant}
    (hstate : (s.site k).seq.state = .keywait) (hdraw : s.draw k len = some (t, g)) : (t.takeKeyGrant g).Coherent stops := by
  obtain ⟨rfl, hsites, hsupply, harb, hsched, hwaiting⟩ := State.draw_waiting hdraw
  have hsite : ∀ j, t.site j = s.site j := fun j => by rw [State.site, hsites]; rfl
  have hview : t.view g.site = { s.view g.site with waiting := none } := by
    rw [State.view, hsite, harb, hsched, hwaiting, look_put_same]
    rfl
  have hwork : s.WorksAt g.site t := ⟨⟨by rw [hsupply], by rw [harb], by rw [harb]⟩, fun j hj => by
    rw [State.view, hsite, harb, hsched, hwaiting, look_put_other _ _ _ _ (Ne.symm hj)]
    rfl⟩
  have ht : t.Coherent stops := h.after hwork (by
    rw [hview]
    exact (h.view g.site).unwait)
  refine ht.takeKeyGrant (by rw [hsite]; exact hstate) ?_
  rw [hwaiting, look_put_same]

end GoesOn

/-! ### The end of a site -/

section Ends

variable {stops : Prop} {s t : State} {served : List SiteNo} {k : SiteNo}

/-- A running site ends: the other sites claim what they did but for draw requests that are answered, and the sites that await a key still
do (R51, R52, R128). -/
structure State.Ended (stops : Prop) (s : State) (served : List SiteNo) (k : SiteNo) (r : State × List KeyGrant) : Prop where
  coherent : r.1.Coherent stops
  awaits : r.1.Awaits (served ++ grantSites r.2)
  sites : ∀ j, j ≠ k → r.1.site j = s.site j
  grants : r.1.arbiter.grants = s.arbiter.grants

theorem Site.asEnded_line (o : SiteOutcome) {x : Site} (h : x.port.lineOn = false) : (x.asEnded o).port.lineOn = false := by
  unfold Site.asEnded
  dsimp only
  split
  · rfl
  · exact h

theorem State.CoherentBut.endSiteWith (h : s.CoherentBut stops (some k)) (hend : (s.view k).MayEnd stops)
    (hrun : (s.site k).seq.state.isRunning = true) (o : SiteOutcome) (ha : s.Awaits served) (hk : k ∉ served) :
    State.Ended stops s served k (s.endSiteWith k o) := by
  set w := (s.withdrawBurst k).withdrawDraw k with hw
  have hworkw : s.WorksAt k w := (State.withdrawBurst_worksAt k s).trans (State.enterWaiting_worksAt k none _)
  have hvieww : w.view k = { s.view k with request := none, waiting := none } := by
    rw [hw, State.withdrawDraw, State.enterWaiting_view, State.withdrawBurst_view]
  have hnowait : look w.pool.waiting k = none := congrArg SiteView.waiting hvieww
  have hsitew : ∀ j, w.site j = s.site j := fun j => State.withdrawBurst_site k j s
  have hdraws := State.settleKey_draws k o w
  have hkserved : k ∉ grantSites (w.settleKey k o).2.2 := fun hmem => hdraws.asked k hmem hnowait
  have hbut := (h.work hworkw).draws hdraws
  have hawaits := (ha.work hworkw hk).draws (h.work hworkw) (fun j hj => Option.some.inj hj ▸ hnowait) hdraws
  have heq : s.endSiteWith k o = (State.fileEnd k o (w.settleKey k o).2.1 (s.site k).seq.heldSerial
      ((w.settleKey k o).1.onSite k (Site.asEnded o)), (w.settleKey k o).2.2) := by
    rw [State.endSiteWith_withdrawBurst k o hrun, State.endSiteWith_eq (by rw [State.withdrawBurst_site]; exact hrun) (s.withdrawBurst_request k),
      State.withdrawBurst_site]
  have hview := hdraws.view_of_not_mem hkserved
  have hlast : (w.settleKey k o).1.WorksAt k (s.endSiteWith k o).1 := by
    rw [heq]
    exact (State.onSite_worksAt k _ _).trans (State.fileEnd_worksAt k _ _ _ _)
  have hnotserved : k ∉ served ++ grantSites (s.endSiteWith k o).2 := by
    rw [heq]
    exact fun hmem => (List.mem_append.1 hmem).elim hk hkserved
  generalize w.settleKey k o = settled at *
  refine ⟨(hbut.work hlast).done ?_, ?_, fun j hj => ?_, ?_⟩
  · rw [heq]
    dsimp only
    rw [State.fileEnd_view, State.onSite_view, hview, hvieww]
    have hsite : settled.1.site k = s.site k := (hdraws.site k).trans (hsitew k)
    rw [hsite]
    exact hend.coherent rfl rfl rfl (Site.asEnded_line o hend.line)
  · refine State.Awaits.work ?_ hlast hnotserved
    rw [heq]
    exact hawaits
  · have hj := hlast.others j hj
    exact (congrArg SiteView.site hj).trans ((hdraws.site j).trans (hsitew j))
  · rw [hlast.same.grants, hdraws.arbiter]
    exact hworkw.same.grants

theorem State.CoherentBut.endSite (h : s.CoherentBut stops (some k)) (hend : (s.view k).MayEnd stops)
    (hrun : (s.site k).seq.state.isRunning = true) (o : SiteOutcome) : (s.endSite k o).Coherent stops := by
  have hended := h.endSiteWith hend hrun o (.nil s) List.not_mem_nil
  have ha := hended.awaits
  rw [List.nil_append] at ha
  exact hended.coherent.deliver ha

/-- A site with no grant in flight ends, if it runs (R51, R52). -/
theorem State.Coherent.endSite (h : s.Coherent stops) (hgrant : look s.arbiter.grants k = none) (o : SiteOutcome) :
    (s.endSite k o).Coherent stops := by
  by_cases hrun : (s.site k).seq.state.isRunning = true
  · exact (h.but k).endSite ((h.view k).mayEnd hgrant) hrun o
  · rw [State.endSite_of_not_running (Bool.eq_false_iff.2 hrun)]
    exact h

theorem State.Coherent.unlessStopped (h : s.Coherent stops) (hgrant : look s.arbiter.grants k = none) {go : State → State}
    (hgo : (s.site k).seq.stopTaken ≠ .hard → (go s).Coherent stops) : (s.unlessStopped k go).Coherent stops := by
  unfold State.unlessStopped
  split
  · exact h.endSite hgrant _
  · rename_i hdue
    exact hgo fun hhard => hdue (Sequencer.stopDue_of_hard hhard)

end Ends

end Sys2Proof.Machine

/-!
PROOF. The events of a site, for the sites' claims on the shared blocks (R22, R28, R41 to R48, R101): O9.
-/

namespace Sys2Proof.Machine

/-! ### Updates that are not seen -/

theorem State.unseen_of_kept {s t : State} (hsites : t.sites = s.sites) (hparams : t.supply.params = s.supply.params)
    (harb : t.arbiter = s.arbiter) (hwaiting : t.pool.waiting = s.pool.waiting) (hended : t.sched.ended = s.sched.ended)
    (hrunning : t.sched.running = s.sched.running) (hstop : t.sched.stop = s.sched.stop) : s.Unseen t :=
  ⟨⟨hparams, by rw [harb], by rw [harb]⟩, fun j => by
    rw [State.view, State.site, hsites, harb, hwaiting, hended, hrunning, hstop]
    rfl⟩

theorem State.store_unseen (a : Nat) (bs : List Byte) (s : State) : s.Unseen (s.store a bs) :=
  State.unseen_of_kept rfl rfl rfl rfl rfl rfl rfl

theorem State.raise_unseen (c : Cause) (s : State) : s.Unseen (s.raise c) := State.unseen_of_kept rfl rfl rfl rfl rfl rfl rfl

theorem State.setSlot_unseen (i : SlotNo) (x : SlotState) (s : State) : s.Unseen (s.setSlot i x) :=
  State.unseen_of_kept rfl rfl rfl rfl rfl rfl rfl

theorem State.setFrame_unseen (f : FrameNo) (x : FrameState) (s : State) : s.Unseen (s.setFrame f x) :=
  State.unseen_of_kept rfl rfl rfl rfl rfl rfl rfl

theorem State.onPool_unseen {g : Pool → Pool} (s : State) (h : (g s.pool).waiting = s.pool.waiting) : s.Unseen (s.onPool g) :=
  State.unseen_of_kept rfl rfl rfl h rfl rfl rfl

theorem State.dropWrite_unseen (s : State) : s.Unseen s.dropWrite := State.unseen_of_kept rfl rfl rfl rfl rfl rfl rfl

theorem State.attn_unseen (a : BitVec 11) (s : State) : s.Unseen { s with attn := a } := State.unseen_of_kept rfl rfl rfl rfl rfl rfl rfl

theorem State.softReset_unseen (b : Bool) (s : State) : s.Unseen { s with softReset := b } :=
  State.unseen_of_kept rfl rfl rfl rfl rfl rfl rfl

theorem State.lowerLoaded_unseen (s : State) : s.Unseen s.lowerLoaded := by
  have hpool := s.onPool_unseen (g := fun p => { p with loadedCount := p.loadedCount - 1 }) rfl
  unfold State.lowerLoaded
  dsimp only
  split
  · exact hpool.trans (State.raise_unseen _ _)
  · exact hpool

theorem State.writeRecord_unseen (k : SiteNo) (o : SiteOutcome) (d : Disposition) (serial : Word) (s : State) :
    s.Unseen (s.writeRecord k o d serial) := by
  unfold State.writeRecord
  split
  · exact State.store_unseen _ _ s
  · exact ⟨⟨rfl, rfl, rfl⟩, fun _ => rfl⟩

theorem State.completeClose_unseen (s : State) : s.Unseen s.completeClose := by
  rw [State.completeClose_eq]
  exact State.unseen_of_kept rfl rfl rfl rfl rfl rfl rfl

theorem State.supplyRunSet_unseen (s : State) : s.Unseen s.supplyRunSet := by
  unfold State.supplyRunSet
  split
  · exact State.unseen_of_supply rfl
  · exact ⟨⟨rfl, rfl, rfl⟩, fun _ => rfl⟩

theorem State.supplyRunClear_unseen (s : State) : s.Unseen s.supplyRunClear := by
  have hparams : s.supplyRunClear.supply.params = s.supply.params := by
    rw [State.supplyRunClear_supply]
    split
    · rfl
    · split <;> rfl
  obtain ⟨p, hp⟩ := s.supplyRunClear_frame
  rw [hp] at hparams ⊢
  exact State.unseen_of_supply hparams

theorem State.writeHeader_unseen (f : FrameNo) (seq : Word) (reason : Nat) (flags : Word) (s : State) :
    s.Unseen (s.writeHeader f seq reason flags) := (State.store_unseen _ _ s).trans (State.store_unseen _ _ _)

theorem State.acceptPost_unseen (f : FrameNo) (raw : RawRecipe) (s : State) : s.Unseen (s.acceptPost f raw) :=
  (State.writeHeader_unseen f s.sched.nextSeq 0 raw.clampFlags s).trans (State.unseen_of_kept rfl rfl rfl rfl rfl rfl rfl)

theorem State.rejectPost_unseen (f : FrameNo) (why : RejectReason) (raw : RawRecipe) (s : State) : s.Unseen (s.rejectPost f why raw) :=
  ((State.writeHeader_unseen f 0 why.code raw.clampFlags s).trans (State.setFrame_unseen _ _ _)).trans (State.raise_unseen _ _)

theorem State.cancelFrame_unseen (f : FrameNo) (s : State) : s.Unseen (s.cancelFrame f) :=
  State.unseen_of_kept rfl rfl rfl rfl rfl rfl rfl

theorem State.clearDisposition_unseen (i : SlotNo) (reason : Nat) (s : State) : s.Unseen (s.clearDisposition i reason) := by
  unfold State.clearDisposition
  exact ((State.store_unseen _ _ s).trans (State.store_unseen _ _ _)).trans (State.store_unseen _ _ _)

theorem State.refuseLoad_unseen (i : SlotNo) (why : RefusalReason) (s : State) : s.Unseen (s.refuseLoad i why) := by
  unfold State.refuseLoad
  exact (((State.setSlot_unseen i _ s).trans (State.clearDisposition_unseen _ _ _)).trans (State.onPool_unseen _ rfl)).trans
    (State.raise_unseen _ _)

theorem State.acceptLoad_unseen (i : SlotNo) (s : State) : s.Unseen (s.acceptLoad i) := by
  unfold State.acceptLoad
  exact ((State.setSlot_unseen i _ s).trans (State.clearDisposition_unseen _ _ _)).trans (State.onPool_unseen _ rfl)

theorem State.takeReclaim_unseen (i : SlotNo) (s : State) : s.Unseen (s.takeReclaim i) := by
  unfold State.takeReclaim
  exact ((State.setSlot_unseen i _ s).trans (State.store_unseen _ _ _)).trans (State.store_unseen _ _ _)

theorem State.takeWithdraw_unseen (i : SlotNo) (s : State) : s.Unseen (s.takeWithdraw i) := by
  unfold State.takeWithdraw
  exact (((State.setSlot_unseen i _ s).trans (State.store_unseen _ _ _)).trans (State.onPool_unseen _ rfl)).trans
    (State.lowerLoaded_unseen _)

theorem State.wafer_unseen (w : WaferState) (s : State) : s.Unseen { s with wafer := w } :=
  State.unseen_of_kept rfl rfl rfl rfl rfl rfl rfl

theorem State.takeOpen_unseen (s : State) : s.Unseen s.takeOpen := by
  unfold State.takeOpen
  split
  · exact State.raise_unseen _ s
  · exact ((((State.store_unseen _ _ s).trans (State.store_unseen _ _ _)).trans (State.store_unseen _ _ _)).trans
      (State.wafer_unseen .opened _)).trans (State.raise_unseen _ _)

theorem State.takeClose_unseen (s : State) : s.Unseen s.takeClose := by
  unfold State.takeClose
  split
  · split
    · exact s.completeClose_unseen
    · exact (State.store_unseen _ _ s).trans (State.wafer_unseen .closing _)
  · exact ⟨⟨rfl, rfl, rfl⟩, fun _ => rfl⟩

theorem State.idleReport_unseen (s : State) : s.Unseen s.idleReport := by
  unfold State.idleReport
  split
  · exact s.completeClose_unseen
  · exact ⟨⟨rfl, rfl, rfl⟩, fun _ => rfl⟩

section Sites

variable {stops : Prop} {s t : State} {k : SiteNo} {f : Site → Site}

theorem State.Coherent.onEverySite_alike (h : s.Coherent stops) (hf : ∀ x : Site, x.ClaimsAlike (f x)) : (s.onEverySite f).Coherent stops :=
  ⟨h.budget.of_same ⟨rfl, rfl, rfl⟩, fun k _ => by
    rw [State.view, State.onEverySite_site]
    exact (h.view k).of_alike (hf _)⟩

/-- Without a grant in flight, the operation at the port of a site may change for another that is neither a pulse nor a reference read. -/
theorem SiteView.Coherent.of_quiet {v : SiteView} {y : Site} (h : v.Coherent stops) (hgrant : v.grant = none)
    (hstate : y.seq.state = v.site.seq.state) (hkey : y.seq.key = v.site.seq.key) (hstop : y.seq.stopTaken = v.site.seq.stopTaken)
    (hline : y.port.lineOn = false) (hread : y.port.op ≠ some .referenceRead) : SiteView.Coherent stops { v with site := y } := by
  constructor <;> dsimp only <;> simp only [hstate, hkey, hstop, hline, hgrant]
  exacts [by simp, fun hne => absurd rfl hne, h.requested, h.waits, h.keyed, fun hop => absurd hop hread, h.reported, h.framed, h.bounded,
    h.unstopped, h.soft]

theorem State.Coherent.onSite_quiet (h : s.Coherent stops) (hgrant : look s.arbiter.grants k = none)
    (hstate : (f (s.site k)).seq.state = (s.site k).seq.state) (hkey : (f (s.site k)).seq.key = (s.site k).seq.key)
    (hstop : (f (s.site k)).seq.stopTaken = (s.site k).seq.stopTaken) (hline : (f (s.site k)).port.lineOn = false)
    (hread : (f (s.site k)).port.op ≠ some .referenceRead) : (s.onSite k f).Coherent stops :=
  h.after (State.onSite_worksAt k f s) (by
    rw [State.onSite_view]
    exact (h.view k).of_quiet hgrant hstate hkey hstop hline hread)

theorem State.Coherent.no_grant_of_not_pulsing (h : s.Coherent stops) (hpulse : s.pulsing k = false) : look s.arbiter.grants k = none := by
  by_contra hgrant
  have hline : (s.site k).port.lineOn = true := (h.view k).line.1 hgrant
  rw [State.pulsing, hline] at hpulse
  cases hpulse

theorem State.Coherent.no_grant_of_op (h : s.Coherent stops) {op : PortOp} (hop : s.opOf k = some op) (hne : ∀ w, op ≠ .pulse w) :
    look s.arbiter.grants k = none := by
  refine h.no_grant_of_not_pulsing (Bool.eq_false_iff.2 fun hpulse => ?_)
  obtain ⟨w, hw⟩ := (s.pulsing_iff k).1 hpulse
  exact hne w (Option.some.inj (hop.symm.trans hw))

theorem State.Coherent.no_grant_of_state (h : s.Coherent stops) (hstate : (s.site k).seq.state ≠ .pulse) : look s.arbiter.grants k = none :=
  (h.view k).no_grant hstate

/-! ### Contact, reference and verifies -/

theorem State.Coherent.takeSample (h : s.Coherent stops) (hsampling : s.sampling k = true) (code : SenseCode) :
    (s.takeSample k code).Coherent stops := by
  obtain ⟨hstate, hop⟩ : (s.site k).seq.state = .contact ∧ s.opOf k = some .contactSample := by
    simpa [State.sampling] using hsampling
  have hview := h.view k
  have hgo : s.GoesOn stops k := h.goesOn_of_state hstate rfl rfl nofun
    (hview.no_waiting (by rw [show (s.view k).site.seq.state = .contact from hstate]; exact nofun))
  have hkey : (s.site k).seq.key = none := hview.no_key (by rw [show (s.view k).site.seq.state = .contact from hstate]; rfl)
  unfold State.takeSample
  dsimp only
  split
  · rw [State.issueOp_eq, State.onSeq_eq, State.onSeq_eq, State.onSite_onSite, State.onSite_onSite]
    exact (h.but k).onSite_goes hgo rfl rfl (fun hne => absurd hkey hne) fun _ => rfl
  · exact h.onSite_alike k ⟨rfl, rfl, rfl, rfl⟩

/-- The reference read of a running site finds it in REFER (R38). -/
theorem State.Coherent.refer_of_reading (h : s.Coherent stops) (hop : s.opOf k = some .referenceRead)
    (hrun : (s.site k).seq.state.isRunning = true) : (s.site k).seq.state = .refer := by
  by_contra hstate
  exact h.not_reading hrun hstate hop

theorem State.Coherent.recordRefs_afterRefs (h : s.Coherent stops) (hop : s.opOf k = some .referenceRead)
    (hrun : (s.site k).seq.state.isRunning = true) (o b : SenseCode) : ((s.recordRefs k o b).afterRefs k o b).Coherent stops := by
  have hrefer := h.refer_of_reading hop hrun
  have hgrant := h.no_grant_of_op hop nofun
  obtain ⟨t, ht⟩ : ∃ t, t = s.recordRefs k o b := ⟨_, rfl⟩
  have hsite : t.site k = { s.site k with
      seq := { (s.site k).seq with refs := takeRefs s.workingRecipe o b }, port := { (s.site k).port with op := none } } := by
    rw [ht, State.recordRefs, State.endOp_site_same, State.onSeq_site_same]
  have hcoherent : t.Coherent stops := by
    rw [ht, State.recordRefs, State.endOp_eq, State.onSeq_eq, State.onSite_onSite]
    exact h.onSite_quiet hgrant rfl rfl rfl rfl nofun
  have hgrant' : look t.arbiter.grants k = none := by rw [ht]; exact hgrant
  have hstate : (t.site k).seq.state = .refer := by rw [hsite]; exact hrefer
  have hne : ∀ x : SiteState, x ≠ .refer → (t.site k).seq.state ≠ x := fun x hx he => hx (he.symm.trans hstate)
  have hrest : t.AtRest k := hcoherent.atRest (by rw [hstate]; rfl) (by rw [hsite]) (hne _ (by decide)) (hne _ (by decide))
    (hne _ (by decide))
  have hkey : (t.site k).seq.key = none :=
    (hcoherent.view k).no_key (by rw [show (t.view k).site.seq.state = .refer from hstate]; rfl)
  rw [← ht]
  unfold State.afterRefs
  split
  · refine hcoherent.unlessStopped hgrant' fun hhard => ?_
    rw [State.issueVerify_onSeq]
    exact (hcoherent.but k).onSite_goes (hcoherent.goesOn hrest fun _ => hhard) rfl rfl
      (fun hne => absurd hkey hne) nofun
  · exact hcoherent.endSite hgrant' _

/-- A site without a key asks for one (R40, R41, R120). -/
theorem State.Coherent.enterKeywait (h : s.Coherent stops) (hgo : s.GoesOn stops k) (hkey : (s.site k).seq.key = none) :
    (s.enterKeywait k).Coherent stops := by
  have hasks : (s.onSite k (Site.asKeywait s.workingRecipe)).Coherent stops :=
    (h.but k).onSite_goes hgo rfl hgo.view.line (fun hne => absurd hkey hne) fun hread => absurd hread hgo.op
  have hstate : ((s.onSite k (Site.asKeywait s.workingRecipe)).site k).seq.state = .keywait := by rw [State.onSite_site_same]; rfl
  rw [State.enterKeywait_eq]
  generalize s.onSite k (Site.asKeywait s.workingRecipe) = t at hasks hstate ⊢
  have hdry : (t.raise .poolDry).Coherent stops := hasks.of_unseen (State.raise_unseen _ t)
  split
  · exact hasks.draw_takeKeyGrant hstate ‹_›
  · split
    · exact hdry.endSite (hdry.no_grant_of_state (by rw [State.raise_site, hstate]; decide)) _
    · refine hdry.after (State.enterWaiting_worksAt k _ _) ?_
      rw [State.enterWaiting_view]
      exact { hdry.view k with waits := fun _ => hstate }

/-- A site that has verified a row and goes on to the next read. -/
theorem State.Coherent.issueVerify (h : s.Coherent stops) (hgrant : look s.arbiter.grants k = none) (row : Row) :
    (s.issueVerify k row).Coherent stops := by
  rw [State.issueVerify, State.issueOp_eq]
  exact h.onSite_quiet hgrant rfl rfl rfl rfl nofun

theorem State.Coherent.blankVerified (h : s.Coherent stops) (hrest : s.AtRest k) (hstate : (s.site k).seq.state = .blank) (row : Row) :
    (s.blankVerified k row).Coherent stops := by
  have hkey : (s.site k).seq.key = none := (h.view k).no_key (by rw [show (s.view k).site.seq.state = .blank from hstate]; rfl)
  unfold State.blankVerified
  dsimp only
  split
  · split
    · exact h.endSite hrest.grant _
    · exact h.endSite hrest.grant _
    · exact h.unlessStopped hrest.grant fun hhard =>
        h.enterKeywait (h.goesOn hrest fun _ => hhard) hkey
  · exact h.unlessStopped hrest.grant fun _ => h.issueVerify hrest.grant _

theorem State.Coherent.rowDone (h : s.Coherent stops) (hrest : s.AtRest k) (row : Row) : (s.rowDone k row).Coherent stops := by
  have hleft : (s.rowLeft k).Coherent stops := by
    rw [State.rowLeft_eq]
    exact h.onSite_alike k ⟨rfl, rfl, rfl, rfl⟩
  have hrest' : (s.rowLeft k).AtRest k := by
    rw [State.rowLeft_eq]
    exact hrest.onSite rfl rfl
  rw [State.rowDone_eq]
  split
  · exact hleft.endSite hrest'.grant _
  · exact hleft.unlessStopped hrest'.grant fun hhard => (hleft.but k).beginRow (hleft.goesOn hrest' fun _ => hhard) _

theorem State.Coherent.burnVerified (h : s.Coherent stops) (hrest : s.AtRest k) (row : Row) (v : RowVerify) :
    (s.burnVerified k row v).Coherent stops := by
  unfold State.burnVerified
  dsimp only
  split
  · exact h.endSite hrest.grant _
  · split
    · exact h.unlessStopped hrest.grant fun hhard =>
        (h.but k).beginAttempt (h.goesOn hrest fun _ => hhard) _ _ _
    · exact h.rowDone hrest row

theorem State.Coherent.finalVerified (h : s.Coherent stops) (hrest : s.AtRest k) (row : Row) (v : RowVerify) :
    (s.finalVerified k row v).Coherent stops := by
  have hfold : (s.foldFinal k (planImage (s.site k).seq.plan row) v).Coherent stops := by
    rw [State.foldFinal, State.onSeq_eq]
    exact h.onSite_alike k ⟨rfl, rfl, rfl, rfl⟩
  have hrest' : (s.foldFinal k (planImage (s.site k).seq.plan row) v).AtRest k := by
    rw [State.foldFinal, State.onSeq_eq]
    exact hrest.onSite rfl rfl
  unfold State.finalVerified
  dsimp only
  split
  · exact hfold.endSite hrest'.grant _
  · split
    · split
      · exact hfold.unlessStopped hrest'.grant fun hhard =>
          hfold.beginLocking (hfold.goesOn hrest' fun _ => hhard)
      · exact hfold.endSite hrest'.grant _
    · refine hfold.unlessStopped hrest'.grant fun _ => ?_
      rw [State.issueVerify_onSeq]
      exact hfold.onSite_quiet hrest'.grant rfl rfl rfl rfl nofun

/-- A verify has completed at a running site (R39, R45 to R50). -/
theorem State.Coherent.recordVerify_afterVerify (h : s.Coherent stops) {row : Row} (hop : s.opOf k = some (.rowRead row .margin))
    (v : RowVerify) : ((s.recordVerify k row v).afterVerify k row v).Coherent stops := by
  have hgrant := h.no_grant_of_op hop nofun
  have hcoherent : (s.recordVerify k row v).Coherent stops := by
    rw [State.recordVerify, State.endOp_eq, State.onSeq_eq, State.onSite_onSite]
    exact h.onSite_quiet hgrant rfl rfl rfl rfl nofun
  have hnoop : ((s.recordVerify k row v).site k).port.op = none := by rw [State.recordVerify, State.endOp_site_same]
  generalize s.recordVerify k row v = t at hcoherent hnoop
  have hrest : ∀ x : SiteState, (t.site k).seq.state = x → x.isRunning = true → x ≠ .pulse →
      x ≠ .burnWait → x ≠ .keywait → t.AtRest k :=
    fun x hx hrunx hpulse hburn hkey =>
      hcoherent.atRest (by rw [hx]; exact hrunx) hnoop (by rw [hx]; exact hpulse) (by rw [hx]; exact hburn) (by rw [hx]; exact hkey)
  unfold State.afterVerify
  split
  · rename_i hstate
    exact hcoherent.blankVerified (hrest _ hstate rfl nofun nofun nofun) hstate row
  · rename_i hstate
    exact hcoherent.burnVerified (hrest _ hstate rfl nofun nofun nofun) row v
  · rename_i hstate
    exact hcoherent.finalVerified (hrest _ hstate rfl nofun nofun nofun) row v
  · exact hcoherent

/-! ### Pulses, temperature, hold expiry -/

theorem State.Coherent.completePulse_takeSort (h : s.Coherent stops) (hpulse : s.pulsing k = true) (sort : PulseSort) :
    ((s.completePulse k).takeSort k sort).Coherent stops := by
  obtain ⟨hcoherent, hover⟩ := h.pulseEnds hpulse false
  rw [State.completePulse_eq]
  generalize (s.pulseDone k false).release k = t at hcoherent hover
  unfold State.takeSort
  split
  · exact hcoherent.endSite hover.grant _
  · exact hcoherent.endSite hover.grant _
  · exact hcoherent.unlessStopped hover.grant fun hhard =>
      hcoherent.afterGoodPulse (hcoherent.goesOn (hover.atRest hcoherent) fun _ => hhard)

theorem State.Coherent.truncatePulse_endSite (h : s.Coherent stops) (hpulse : s.pulsing k = true) (o : SiteOutcome) :
    ((s.truncatePulse k).endSite k o).Coherent stops := by
  obtain ⟨hcoherent, hover⟩ := h.pulseEnds hpulse true
  rw [State.truncatePulse_eq]
  exact hcoherent.endSite hover.grant _

theorem State.Coherent.thermalEvent (h : s.Coherent stops) (k : SiteNo) : (s.thermalEvent k).Coherent stops := by
  unfold State.thermalEvent
  split
  · exact h.truncatePulse_endSite ‹_› _
  · exact h.endSite (h.no_grant_of_not_pulsing (Bool.eq_false_iff.2 ‹_›)) _

/-- What the sites with keys find when the hold timer has expired: no grant is in flight, and the sites that await a key hold none. -/
structure State.LosesKeys (stops : Prop) (acc : State × List KeyGrant) (l : List SiteNo) : Prop where
  coherent : acc.1.Coherent stops
  awaits : acc.1.Awaits (grantSites acc.2)
  holds : ∀ k ∈ l, acc.1.holdsKey k = true
  grants : ∀ k, look acc.1.arbiter.grants k = none

theorem State.LosesKeys.turn {acc : State × List KeyGrant} {l : List SiteNo} (h : State.LosesKeys stops acc (k :: l)) (hk : k ∉ l) :
    State.LosesKeys stops (loseSupply acc k) l := by
  obtain ⟨hcoherent, hawaits, hholds, hgrants⟩ := h
  obtain ⟨hrun, hkey⟩ := Bool.and_eq_true_iff.1 (hholds k List.mem_cons_self)
  have hnot : k ∉ grantSites acc.2 := fun hmem => by
    have hbears := (hcoherent.view k).keyed (Option.isSome_iff_ne_none.1 hkey)
    rw [show (acc.1.view k).site.seq.state = .keywait from hawaits.state k hmem] at hbears
    cases hbears
  have hended := (hcoherent.but k).endSiteWith ((hcoherent.view k).mayEnd (hgrants k)) hrun .supplyLost hawaits hnot
  refine ⟨hended.coherent, ?_, fun j hj => ?_, fun j => ?_⟩
  · have ha := hended.awaits
    rwa [grantSites, grantSites, ← List.map_append] at ha
  · have hjk : j ≠ k := fun he => hk (he ▸ hj)
    rw [State.holdsKey, loseSupply, hended.sites j hjk]
    exact hholds j (List.mem_cons_of_mem _ hj)
  · rw [loseSupply, hended.grants]
    exact hgrants j

theorem State.Coherent.expireHold (h : s.Coherent stops) (hgrants : ∀ k, look s.arbiter.grants k = none) : s.expireHold.Coherent stops := by
  have hturns : ∀ (l : List SiteNo) (acc : State × List KeyGrant), l.Nodup → State.LosesKeys stops acc l →
      State.LosesKeys stops (l.foldl loseSupply acc) [] := by
    intro l
    induction l with
    | nil => exact fun _ _ hacc => hacc
    | cons k l ih =>
      intro acc hnodup hacc
      obtain ⟨hk, hl⟩ := List.nodup_cons.1 hnodup
      exact ih _ hl (hacc.turn hk)
  have hlose : s.loseAll = s.lossOrder.foldl loseSupply (s.chosen, []) := rfl
  have hstart : State.LosesKeys stops (s.chosen, []) s.lossOrder := by
    refine ⟨h.of_unseen (State.unseen_of_kept rfl rfl rfl rfl rfl rfl rfl), .nil _, fun k hk => ?_, hgrants⟩
    rw [State.holdsKey, Bool.and_eq_true, Option.isSome_iff_ne_none]
    exact (s.mem_lossOrder k).1 hk
  obtain ⟨hcoherent, hawaits, -, -⟩ := hturns _ _ s.lossOrder_nodup hstart
  rw [← hlose] at hcoherent hawaits
  have hoff : ((s.loseAll.1.onSupply Supply.toOff).raise .supplyLost).Coherent stops :=
    hcoherent.of_unseen (State.unseen_of_kept rfl rfl rfl rfl rfl rfl rfl)
  exact hoff.deliver ⟨hawaits.nodup, hawaits.state, hawaits.waiting⟩

end Sites

end Sys2Proof.Machine

/-!
PROOF. Stops, starts and hand-backs, for the sites' claims on the shared blocks (R55 to R57, R91, R141, R144 to R149): O9.
-/

namespace Sys2Proof.Machine

/-! ### Stops -/

section Stops

variable {stops : Prop} {s t : State} {k : SiteNo}

/-- A running site in an operation's state has taken a stop that the stop in force allows (R55, R56). -/
theorem SiteView.Coherent.takes_stop {v : SiteView} (h : v.Coherent stops) (hrun : v.site.seq.state.isRunning = true) {st : StopTaken}
    (hnone : stops → v.stop ≠ .none) (hsoft : stops → v.stop = .soft → st ≠ .hard)
    (hbusy : st = .hard → v.site.seq.state.busy = true) : SiteView.Coherent stops { v with site := v.site.stopped st } :=
  { h with
    bounded := fun _ hhard => .inl (hbusy hhard)
    unstopped := fun hs hor => hor.elim (fun hstop => absurd hstop (hnone hs)) fun hframe => absurd hframe (h.has_frame hrun)
    soft := hsoft }

/-- A running site takes a stop, which ends it where it finds its boundary at once (R55, R56). -/
theorem State.Coherent.stopTurn (h : s.Coherent stops) (hrun : (s.site k).seq.state.isRunning = true) {st : StopTaken} {ends : Bool}
    (hnone : stops → s.sched.stop ≠ .none) (hsoft : stops → s.sched.stop = .soft → st ≠ .hard)
    (hends : ends = true → (s.site k).seq.state.boundaryAtOnce = true)
    (hbusy : ends = false → st = .hard → (s.site k).seq.state.busy = true) : (State.stopTurn st ends k s).Coherent stops := by
  have hview := h.view k
  have hwork := State.onSite_worksAt k (Site.stopped st) s
  unfold State.stopTurn
  cases ends with
  | false =>
    show (s.onSite k (Site.stopped st)).Coherent stops
    refine h.after hwork ?_
    rw [State.onSite_view]
    exact hview.takes_stop hrun hnone hsoft (hbusy rfl)
  | true =>
    have hgrant : look s.arbiter.grants k = none := h.no_grant_of_state fun hpulse => by
      have hbound := hends rfl
      rw [hpulse] at hbound
      cases hbound
    show ((s.onSite k (Site.stopped st)).endSite k .aborted).Coherent stops
    refine ((h.but k).work hwork).endSite ?_ (by rw [State.onSite_site_same]; exact hrun) _
    rw [State.onSite_view]
    exact ⟨hgrant, hview.line_off hgrant,
      fun hs hor => hor.elim (fun hstop => absurd hstop (hnone hs)) fun hframe => absurd hframe (hview.has_frame hrun), hsoft⟩

theorem State.Coherent.takeHard (h : s.Coherent stops) (hstop : stops → s.sched.stop ≠ .none ∧ s.sched.stop ≠ .soft) (k : SiteNo) :
    (s.takeHard k).Coherent stops := by
  by_cases hrun : (s.site k).seq.state.isRunning = true
  · by_cases htaken : (s.site k).seq.stopTaken = .hard
    · rw [State.takeHard_of_taken htaken]
      exact h
    · rw [State.takeHard_eq hrun htaken]
      refine h.stopTurn hrun (fun hs => (hstop hs).1) (fun hs hsoft => absurd hsoft (hstop hs).2) id fun hends _ => ?_
      rwa [State.hardEnds, SiteState.boundaryAtOnce_eq hrun, Bool.not_eq_false'] at hends
  · simp only [State.takeHard, hrun, Bool.false_and, Bool.false_eq_true, if_false]
    exact h

theorem State.Coherent.takeSoft (h : s.Coherent stops) (hstop : stops → s.sched.stop ≠ .none) (k : SiteNo) :
    (s.takeSoft k).Coherent stops := by
  by_cases hrun : (s.site k).seq.state.isRunning = true
  · by_cases htaken : (s.site k).seq.stopTaken = .none
    · rw [State.takeSoft_eq hrun htaken]
      exact h.stopTurn hrun hstop nofun (fun hends => (Bool.and_eq_true_iff.1 hends).1) nofun
    · have hne : ((s.site k).seq.stopTaken == .none) = false := by simpa using htaken
      simp only [State.takeSoft, hne, Bool.and_false, Bool.false_eq_true, if_false]
      exact h
  · simp only [State.takeSoft, hrun, Bool.false_and, Bool.false_eq_true, if_false]
    exact h

theorem State.SiteWork.stop {s t : State} (h : s.SiteWork t) : t.sched.stop = s.sched.stop := by
  obtain ⟨-, -, -, hstop, -⟩ := h.sched_kept
  exact hstop

/-- Sites that take a stop one after the other, the stop in force staying what it is. -/
theorem State.Coherent.foldl_stops {act : SiteNo → State → State} {x : FrameStop} (hwork : ∀ k s, State.SiteWork s (act k s))
    (hact : ∀ (k : SiteNo) {t : State}, t.sched.stop = x → t.Coherent stops → (act k t).Coherent stops) (l : List SiteNo)
    (h : s.Coherent stops) (hx : s.sched.stop = x) : (l.foldl (fun t k => act k t) s).Coherent stops := by
  induction l generalizing s with
  | nil => exact h
  | cons k l ih => exact ih (hact k hx h) ((hwork k s).stop.trans hx)

/-- A stop comes into force: SOFT where none was, HARD and RUN_CLEARED over any (R144, R148). -/
theorem State.Coherent.setStop (h : s.Coherent stops) (f : FrameNo) {x : FrameStop} (hx : x ≠ .none)
    (hsoft : x = .soft → s.sched.stop = .none) : (s.setStop f x).Coherent stops :=
  ⟨h.budget.of_same ⟨rfl, rfl, rfl⟩, fun k _ =>
    { h.view k with
      unstopped := fun hs hor => hor.elim (fun hstop => absurd hstop hx) fun hframe => (h.view k).unstopped hs (.inr hframe)
      soft := fun hs hstop hhard => by
        have hnone := (h.view k).unstopped hs (.inl (hsoft hstop))
        rw [show (s.view k).site.seq.stopTaken = .hard from hhard] at hnone
        cases hnone }⟩

theorem State.Coherent.chosen (h : s.Coherent stops) : s.chosen.Coherent stops :=
  h.of_unseen (State.unseen_of_kept rfl rfl rfl rfl rfl rfl rfl)

theorem State.Coherent.softStopFrame (h : s.Coherent stops) (f : FrameNo) : (s.softStopFrame f).Coherent stops := by
  unfold State.softStopFrame
  split
  · rename_i hnone
    have hset := h.setStop f (x := .soft) nofun fun _ => hnone
    exact State.Coherent.foldl_stops State.takeSoft_siteWork (x := .soft)
      (fun k _ hx ht => ht.takeSoft (fun _ => by rw [hx]; exact nofun) k) _ (hset.chosen) rfl
  · exact h

/-- Sites take a HARD stop while HARD or RUN_CLEARED is in force (R55). -/
theorem State.Coherent.foldl_takeHard (l : List SiteNo) (h : s.Coherent stops) (hx : s.sched.stop = .hard ∨ s.sched.stop = .runCleared) :
    (l.foldl (fun t k => t.takeHard k) s).Coherent stops :=
  State.Coherent.foldl_stops State.takeHard_siteWork (x := s.sched.stop)
    (fun k _ ht hcoherent => hcoherent.takeHard (fun _ => by
      rw [ht]
      obtain hx | hx := hx <;> rw [hx] <;> exact ⟨nofun, nofun⟩) k) l h rfl

theorem State.Coherent.hardStopFrame (h : s.Coherent stops) (f : FrameNo) : (s.hardStopFrame f).Coherent stops := by
  unfold State.hardStopFrame
  split
  · exact State.Coherent.foldl_takeHard _ ((h.setStop f (x := .hard) nofun nofun).chosen) (.inl rfl)
  · exact h

theorem State.Coherent.takeRunClear (h : s.Coherent stops) : s.takeRunClear.Coherent stops := by
  unfold State.takeRunClear
  split
  · exact h.of_unseen s.supplyRunClear_unseen
  · rename_i f _
    have hset := (h.setStop f (x := .runCleared) nofun nofun).chosen
    dsimp only
    generalize ((s.setStop f .runCleared).takingOrder.take _) = early
    generalize ((s.setStop f .runCleared).takingOrder.drop _) = late
    have hearly := State.Coherent.foldl_takeHard early hset (.inr rfl)
    have hstop := (State.foldl_siteWork State.takeHard_siteWork early (s.setStop f .runCleared).chosen).stop
    generalize early.foldl (fun u k => u.takeHard k) (s.setStop f .runCleared).chosen = u at hearly hstop ⊢
    refine State.Coherent.foldl_takeHard late (hearly.of_unseen u.supplyRunClear_unseen) (.inr ?_)
    obtain ⟨p, hp⟩ := u.supplyRunClear_frame
    rw [hp]
    exact hstop

end Stops

/-! ### Starts and hand-backs -/

/-- A site in IDLE with its reset values claims nothing. -/
theorem SiteView.coherent_of_idle (stops : Prop) {v : SiteView} (hseq : v.site.seq = .reset) (hreq : v.request = none)
    (hgrant : v.grant = none) (hwait : v.waiting = none) (hline : v.site.port.lineOn = false) : v.Coherent stops where
  line := by simp [hgrant, hline]
  granted := fun hne => absurd hgrant hne
  requested := fun hne => absurd hreq hne
  waits := fun hne => absurd hwait hne
  keyed := by rw [hseq]; exact fun hne => absurd rfl hne
  reading := fun _ => .inr (by rw [hseq]; rfl)
  reported := fun _ => by rw [hseq]; rfl
  framed := fun _ => by rw [hseq]; rfl
  bounded := fun _ hhard => by
    rw [hseq] at hhard
    cases hhard
  unstopped := fun _ _ => by rw [hseq]; rfl
  soft := fun _ _ => by rw [hseq]; exact nofun

section Frames

variable {stops : Prop} {s t : State} {k : SiteNo}

/-- A site that stands ready for a start: it does not run and has not reported END (R142). -/
structure State.Startable (s : State) (k : SiteNo) : Prop where
  idle : (s.site k).seq.state.isRunning = false
  ended : look s.sched.ended k = false

theorem State.report_worksAt (k : SiteNo) (s : State) : s.WorksAt k (s.report k) :=
  ⟨⟨rfl, rfl, rfl⟩, fun j hj => by
    simp only [State.view, State.report, look_put_other _ _ _ _ (Ne.symm hj)]
    rfl⟩

@[simp] theorem State.report_view (k : SiteNo) (s : State) : (s.report k).view k = { s.view k with ended := true } := by
  simp only [State.view, State.report, look_put_same]
  rfl

/-- A skipped site is in END at once (R35, R142). -/
def Site.skipped (why : SkipReason) (x y : Int) (site : Site) : Site :=
  { site with seq := { site.seq with state := .ended, dieX := x, dieY := y, skip := why, outcome := some .skipped } }

theorem State.skipSite_worksAt (k : SiteNo) (why : SkipReason) (x y : Int) (s : State) : s.WorksAt k (s.skipSite k why x y) :=
  ((State.onSite_worksAt k (Site.skipped why x y) s).trans ((State.writeRecord_unseen _ _ _ _ _).worksAt k)).trans (State.report_worksAt k _)

theorem State.skipSite_view (k : SiteNo) (why : SkipReason) (x y : Int) (s : State) :
    (s.skipSite k why x y).view k = { s.view k with site := (s.site k).skipped why x y, ended := true } := by
  unfold State.skipSite
  rw [State.report_view, (State.writeRecord_unseen _ _ _ _ _).views, State.onSeq_eq, State.onSite_view]
  rfl

theorem State.Coherent.skipSite (h : s.Coherent stops) (hk : s.Startable k) (why : SkipReason) (x y : Int) :
    (s.skipSite k why x y).Coherent stops := by
  have hview := h.view k
  obtain ⟨hreq, hgrant, hwait, hkey⟩ := hview.of_not_running hk.idle
  refine h.after (State.skipSite_worksAt k why x y s) ?_
  have hended := (hview.mayEnd hgrant).coherent (y := (s.site k).skipped why x y) (ended := true) rfl hkey rfl (hview.line_off hgrant)
  rw [State.skipSite_view]
  rwa [← hreq, ← hwait] at hended

/-- A site that stands ready goes on to CONTACT (R35). -/
theorem State.Coherent.goesOn_of_startable (h : s.Coherent stops) (hk : s.Startable k) (hframe : s.sched.running ≠ none)
    (hstop : s.sched.stop = .none) : (s.view k).GoesOn stops := by
  have hview := h.view k
  obtain ⟨hreq, hgrant, hwait, -⟩ := hview.of_not_running hk.idle
  have hunstopped : stops → (s.view k).site.seq.stopTaken = .none := fun hs => hview.unstopped hs (.inl hstop)
  exact ⟨hreq, hgrant, hwait, hview.line_off hgrant, hk.ended, hframe, fun hs => by rw [hunstopped hs]; exact nofun, fun hs _ => hunstopped hs⟩

/-- A site enters CONTACT, before a set shutdown latch may end it (R35). -/
theorem State.Coherent.enterContact (h : s.Coherent stops) (hk : s.Startable k) (hframe : s.sched.running ≠ none)
    (hstop : s.sched.stop = .none) (r : Recipe) (x y : Int) : (s.onSite k (Site.enterContact r s.lotTag s.supply.pump x y)).Coherent stops := by
  obtain ⟨-, -, -, hkey⟩ := (h.view k).of_not_running hk.idle
  refine h.after (State.onSite_worksAt k _ s) ?_
  rw [State.onSite_view]
  have hgo := (h.goesOn_of_startable hk hframe hstop).of_site
    (y := Site.enterContact r s.lotTag s.supply.pump x y (s.site k)) rfl rfl
  exact hgo.at_state (fun hne => absurd hkey hne) fun hread => by cases hread

theorem State.Coherent.runSite (h : s.Coherent stops) (hk : s.Startable k) (hframe : s.sched.running ≠ none) (hstop : s.sched.stop = .none)
    (r : Recipe) (x y : Int) : (s.runSite k r x y).Coherent stops := by
  have hcontact := h.enterContact hk hframe hstop r x y
  obtain ⟨-, hgrant, -, -⟩ := (h.view k).of_not_running hk.idle
  unfold State.runSite
  dsimp only
  split
  · exact hcontact.endSite hgrant _
  · exact hcontact

/-- The decision that a start hands to a site that stands ready touches no other site (R142). -/
theorem State.Coherent.handSite_worksAt (h : s.Coherent stops) (hk : s.Startable k) (f : FrameNo) (r : Recipe) (at_ : State) :
    s.WorksAt k (State.handSite f r at_ k s) := by
  obtain ⟨hreq, -, -, hkey⟩ := (h.view k).of_not_running hk.idle
  unfold State.handSite
  split
  · have hcontact := State.onSite_worksAt k
      (Site.enterContact r s.lotTag s.supply.pump (at_.dieX f r k) (at_.dieY f r k)) s
    unfold State.runSite
    dsimp only
    have hrun : ((s.onSite k (Site.enterContact r s.lotTag s.supply.pump (at_.dieX f r k) (at_.dieY f r k))).site k).seq.state.isRunning
        = true := by rw [State.onSite_site_same]; rfl
    have hkey' : ((s.onSite k (Site.enterContact r s.lotTag s.supply.pump (at_.dieX f r k) (at_.dieY f r k))).site k).seq.key
        = none := by rw [State.onSite_site_same]; exact hkey
    split
    · rw [State.endSite_keyless .thermal hrun hkey' hreq]
      exact ((hcontact.trans (State.enterWaiting_worksAt k none _)).trans (State.onSite_worksAt k _ _)).trans (State.fileEnd_worksAt k _ _ _ _)
    · exact hcontact
  · exact State.skipSite_worksAt _ _ _ _ s

/-- What stands after the sites of a list have been handed their decisions. -/
structure State.Started (stops : Prop) (f : FrameNo) (done : List SiteNo) (s : State) : Prop where
  coherent : s.Coherent stops
  running : s.sched.running = some f
  stop : s.sched.stop = .none
  rest : ∀ k, k ∉ done → s.Startable k

theorem State.Started.turn {done : List SiteNo} {f : FrameNo} (h : State.Started stops f done s) (hk : k ∉ done) (r : Recipe) (at_ : State) :
    State.Started stops f (done ++ [k]) (State.handSite f r at_ k s) := by
  obtain ⟨hcoherent, hrunning, hstop, hrest⟩ := h
  have hframe : s.sched.running ≠ none := by rw [hrunning]; exact nofun
  obtain ⟨-, -, hrunning', hstop', -⟩ := (State.handSite_siteWork f r at_ k s).sched_kept
  refine ⟨?_, hrunning'.trans hrunning, hstop'.trans hstop, fun j hj => ?_⟩
  · unfold State.handSite
    split
    · exact hcoherent.runSite (hrest k hk) hframe hstop _ _ _
    · exact hcoherent.skipSite (hrest k hk) _ _ _
  · obtain ⟨hjdone, hjk⟩ : j ∉ done ∧ j ≠ k := by simpa using hj
    have hview := (hcoherent.handSite_worksAt (hrest k hk) f r at_).others j hjk
    obtain ⟨hidle, hended⟩ := hrest j hjdone
    exact ⟨(congrArg (fun v : SiteView => v.site.seq.state.isRunning) hview).trans hidle, (congrArg SiteView.ended hview).trans hended⟩

theorem State.loadFrame_view (f : FrameNo) (rest : List FrameNo) (s : State) (k : SiteNo) : ∃ m, (s.loadFrame f rest).view k
    = { s.view k with site := { s.site k with monitor := m }, ended := false, running := some f, stop := .none } := by
  have hsite : (s.loadFrame f rest).site k = { s.site k with monitor := ((s.loadFrame f rest).site k).monitor } := by
    unfold State.loadFrame
    dsimp only
    rw [State.onPool_site, State.onEverySite_site]
    rfl
  have hended : look (s.loadFrame f rest).sched.ended k = false := look_replicate _ _
  refine ⟨((s.loadFrame f rest).site k).monitor, ?_⟩
  rw [State.view, hended]
  exact congrArg (fun x => SiteView.mk x _ _ _ _ _ _) hsite

/-- A frame that is loaded while none runs finds no grant in flight, so that its supply parameters change nothing in use (R81, R142). -/
theorem State.Coherent.loadFrame (h : s.Coherent stops) (hnone : s.sched.running = none) (f : FrameNo) (rest : List FrameNo) :
    State.Started stops f [] (s.loadFrame f rest) := by
  have hidle : ∀ k, (s.site k).seq.state.isRunning = false := fun k => (h.view k).framed hnone
  have hgrants : ∀ k, look s.arbiter.grants k = none := fun k => by
    obtain ⟨-, hgrant, -, -⟩ := (h.view k).of_not_running (hidle k)
    exact hgrant
  have huse : s.arbiter.inUse = 0 := h.budget.granted.trans (grantedCurrent_of_none _ hgrants)
  refine ⟨⟨⟨huse.trans (grantedCurrent_of_none _ hgrants).symm, le_of_eq_of_le huse (Nat.zero_le _)⟩, fun k _ => ?_⟩,
    rfl, rfl, fun k _ => ?_⟩
  · obtain ⟨m, hm⟩ := s.loadFrame_view f rest k
    have hview := h.view k
    have hunstopped : stops → (s.site k).seq.stopTaken = .none := fun hs => hview.unstopped hs (.inr hnone)
    rw [hm]
    exact { hview with
      reported := nofun
      framed := nofun
      unstopped := fun hs _ => hunstopped hs
      soft := nofun }
  · obtain ⟨m, hm⟩ := s.loadFrame_view f rest k
    exact ⟨(congrArg (fun v : SiteView => v.site.seq.state.isRunning) hm).trans (hidle k), congrArg SiteView.ended hm⟩

theorem State.Coherent.startFrame (h : s.Coherent stops) (hnone : s.sched.running = none) (f : FrameNo) (rest : List FrameNo) :
    (s.startFrame f rest).Coherent stops :=
  (foldl_sites_induction (holds := State.Started stops f) (h.loadFrame hnone f rest)
    (fun _ _ _ hk ht => ht.turn hk _ _) allSites (List.nodup_finRange 16)).coherent

theorem State.Coherent.startIfDue (h : s.Coherent stops) : s.startIfDue.Coherent stops := by
  unfold State.startIfDue
  split
  · rename_i hnone _
    split
    · exact h.startFrame hnone _ _
    · exact h
  · exact h

theorem State.Coherent.idleReport (h : s.Coherent stops) : s.idleReport.Coherent stops := h.of_unseen s.idleReport_unseen

/-- The sites of a frame that has ended claim nothing in IDLE (R59, R146). -/
theorem State.Coherent.handBackFrame (h : s.Coherent stops) (hall : ∀ k, look s.sched.ended k = true) (f : FrameNo) (kind : Nat) :
    (s.handBackFrame f kind).Coherent stops := by
  rw [State.handBackFrame_eq]
  refine ⟨h.budget.of_same ⟨rfl, rfl, rfl⟩, fun k _ => ?_⟩
  have hview := h.view k
  obtain ⟨hreq, hgrant, hwait, -⟩ := hview.of_not_running (hview.reported (hall k))
  have hsite : (s.site k).returnToIdle = look (Vector.ofFn fun j => (s.site j).returnToIdle) k :=
    (look_ofFn (fun j => (s.site j).returnToIdle) k).symm
  exact SiteView.coherent_of_idle stops (by rw [State.view, State.site, ← hsite]; rfl) hreq hgrant hwait
    (by rw [State.view, State.site, ← hsite]; exact hview.line_off hgrant)

theorem State.Coherent.afterHandBack (h : s.Coherent stops) : s.afterHandBack.Coherent stops := by
  unfold State.afterHandBack
  split
  · exact h.idleReport
  · exact h.startIfDue

theorem State.Coherent.handBackIfDue (h : s.Coherent stops) : s.handBackIfDue.Coherent stops := by
  unfold State.handBackIfDue
  split
  · split
    · exact (h.handBackFrame ((Scheduler.allEnded_iff _).1 ‹_›) _ _).afterHandBack
    · exact h
  · exact h

theorem State.Coherent.settleFrames (h : s.Coherent stops) (n : Nat) : (s.settleFrames n).Coherent stops := by
  induction n generalizing s with
  | zero => exact h
  | succ n ih =>
    unfold State.settleFrames
    split
    · exact ih (h.handBackIfDue)
    · exact h

theorem State.Coherent.settle (h : s.Coherent stops) : s.settle.Coherent stops := h.settleFrames _

/-- A state whose sites, arbiter and draw requests have their reset values (R174, R175). -/
theorem State.coherent_of_reset (stops : Prop) (hsites : s.sites = Vector.replicate 16 .reset) (harb : s.arbiter = .reset)
    (hwaiting : s.pool.waiting = Vector.replicate 16 none) : s.Coherent stops := by
  refine ⟨⟨?_, ?_⟩, fun k _ => ?_⟩
  · rw [harb]
    exact (grantedCurrent_of_none _ fun k => look_replicate _ _).symm
  · rw [harb]
    exact Nat.zero_le _
  · have hsite : s.site k = .reset := by rw [State.site, hsites, look_replicate]
    refine SiteView.coherent_of_idle stops (by rw [State.view, hsite]; rfl) ?_ ?_ ?_ (by rw [State.view, hsite]; rfl)
    · rw [State.view, harb]
      exact look_replicate _ _
    · rw [State.view, harb]
      exact look_replicate _ _
    · rw [State.view, hwaiting]
      exact look_replicate _ _

end Frames

end Sys2Proof.Machine

/-!
PROOF. Tester writes and the step as a whole: the sites' claims on the shared blocks agree after every command (R92 to R95): O9.
-/

namespace Sys2Proof.Machine

/-! ### Tester writes -/

section Writes

variable {stops : Prop} {s : State}

theorem State.Coherent.takePost (h : s.Coherent stops) (f : FrameNo) : (s.takePost f).Coherent stops := by
  unfold State.takePost
  dsimp only
  have hstored : (s.store (frameBase f + 0x004) (bytes32 0)).Coherent stops := h.of_unseen (State.store_unseen _ _ s)
  split
  · exact hstored.of_unseen (State.rejectPost_unseen _ _ _ _)
  · exact (hstored.of_unseen (State.acceptPost_unseen _ _ _)).startIfDue

theorem State.Coherent.reportIfIdle (h : s.Coherent stops) : s.reportIfIdle.Coherent stops := by
  unfold State.reportIfIdle
  split
  · exact h.idleReport
  · exact h

theorem State.Coherent.writeStopWord (h : s.Coherent stops) (f : FrameNo) (v : Word) : (s.writeStopWord f v).Coherent stops := by
  have hstore : ∀ {t : State}, t.Coherent stops → ∀ bs, (t.store (frameBase f + 0x004) bs).Coherent stops := fun ht bs =>
    ht.of_unseen (State.store_unseen _ bs _)
  have hstop : (if v = softValue then s.softStopFrame f else if v = hardValue then s.hardStopFrame f else s).Coherent stops := by
    split
    · exact h.softStopFrame f
    · split
      · exact h.hardStopFrame f
      · exact h
  unfold State.writeStopWord
  split
  · split
    · exact ((hstore h _).of_unseen (State.cancelFrame_unseen f _)).reportIfIdle
    · exact hstore h _
  · exact hstore hstop _
  · exact hstore hstop _
  · exact hstore h _

theorem State.Coherent.writeSlotState (h : s.Coherent stops) (i : SlotNo) (v : Word) : (s.writeSlotState i v).Coherent stops := by
  unfold State.writeSlotState
  split
  · unfold State.takeLoad
    split
    · exact h.of_unseen (State.refuseLoad_unseen i _ s)
    · exact (h.of_unseen (State.acceptLoad_unseen i s)).evaluatePool
  · exact h.of_unseen (State.takeReclaim_unseen i s)
  · exact h.of_unseen (State.takeWithdraw_unseen i s)
  · exact h
  · exact h.of_unseen s.dropWrite_unseen

theorem State.Coherent.writeFrameState (h : s.Coherent stops) (f : FrameNo) (v : Word) : (s.writeFrameState f v).Coherent stops := by
  unfold State.writeFrameState
  split
  · exact h.of_unseen s.dropWrite_unseen
  · split
    · exact (h.takePost f).settle
    · split
      · exact h.of_unseen (State.setFrame_unseen f .free s)
      · exact h

theorem State.Coherent.writeWaferState (h : s.Coherent stops) (v : Word) : (s.writeWaferState v).Coherent stops := by
  unfold State.writeWaferState
  split
  · exact h.of_unseen s.dropWrite_unseen
  · split
    · exact h.of_unseen s.takeOpen_unseen
    · exact h

theorem State.Coherent.writeWaferRequest (h : s.Coherent stops) (w : WordNo) (v : Word) : (s.writeWaferRequest w v).Coherent stops := by
  unfold State.writeWaferRequest
  split
  · exact h.of_unseen (State.store_unseen _ _ s)
  · refine State.CoherentBut.of_unseen (s := if v = closeValue then s.takeClose else s) ?_ (State.store_unseen _ _ _)
    split
    · exact h.of_unseen s.takeClose_unseen
    · exact h

theorem State.Coherent.writeData (h : s.Coherent stops) (partOwned : Bool) (w : WordNo) (v : Word) :
    (s.writeData partOwned w v).Coherent stops := by
  unfold State.writeData
  split
  · exact h.of_unseen s.dropWrite_unseen
  · exact h.of_unseen (State.store_unseen _ _ s)

theorem State.Coherent.testerWrite (h : s.Coherent stops) (w : WordNo) (lanes : Lanes) (data : Word) :
    (s.testerWrite w lanes data).Coherent stops := by
  unfold State.testerWrite
  split
  · exact h
  · unfold State.takeWrite
    split
    · exact h.of_unseen s.dropWrite_unseen
    · exact h.writeWaferState _
    · exact h.writeWaferRequest _ _
    · exact h.writeData _ _ _
    · exact h.of_unseen (State.store_unseen _ _ s)
    · exact h.writeFrameState _ _
    · exact (h.writeStopWord _ _).settle
    · exact h.writeData _ _ _
    · exact h.writeSlotState _ _
    · exact h.writeData _ _ _
    · exact h.writeData _ _ _
    · exact h

theorem State.Coherent.writeRunCtrl (h : s.Coherent stops) (value : Word) : (s.writeRunCtrl value).Coherent stops := by
  have hrun : ∀ b, State.Coherent stops { s with run := b } := fun b =>
    h.of_unseen (State.unseen_of_kept rfl rfl rfl rfl rfl rfl rfl)
  unfold State.writeRunCtrl
  split
  · exact h
  · split
    · exact State.coherent_of_reset stops rfl rfl rfl
    · split
      · exact h
      · split
        · exact (((hrun true).startIfDue).of_unseen (State.supplyRunSet_unseen _)).settle
        · exact ((hrun false).takeRunClear).settle

theorem State.Coherent.registerWrite (h : s.Coherent stops) (w : WordNo) (value : Word) : (s.registerWrite w value).Coherent stops := by
  unfold State.registerWrite
  split
  · exact h
  · split
    · exact h.writeRunCtrl value
    · split
      · exact h.of_unseen (State.unseen_of_kept rfl rfl rfl rfl rfl rfl rfl)
      · split
        · exact h.of_unseen (State.unseen_of_kept rfl rfl rfl rfl rfl rfl rfl)
        · exact h

end Writes

/-! ### Commands and steps -/

/-- Where a command leads on, the state is coherent. -/
def KeepsCoherent (stops : Prop) (r : Host.Outcome State Fault Refusal) : Prop := ∀ t, r = .next t → t.Coherent stops

theorem KeepsCoherent.next {stops : Prop} {t : State} (h : t.Coherent stops) : KeepsCoherent stops (.next t) := fun _ hu => by
  obtain rfl := Host.Outcome.next.inj hu
  exact h

theorem KeepsCoherent.ite {stops : Prop} {p : Prop} [Decidable p] {r r' : Host.Outcome State Fault Refusal} (h : p → KeepsCoherent stops r)
    (h' : KeepsCoherent stops r') : KeepsCoherent stops (if p then r else r') := by
  split
  · exact h ‹_›
  · exact h'

section Commands

variable {stops : Prop} {s : State}

theorem State.Coherent.enterReady (h : s.Coherent stops) : s.enterReady.Coherent stops := by
  have hready : (s.onSupply Supply.toReady).Coherent stops := h.of_unseen (State.unseen_of_supply rfl)
  exact (hready.evaluate nofun).of_unseen (State.startIdleIfQuiet_unseen _)

theorem State.Coherent.enterHold (h : s.Coherent stops) : s.enterHold.Coherent stops := by
  have hheld : ((s.onSupply Supply.toHold).raise .supplyHold).Coherent stops :=
    h.of_unseen (State.unseen_of_kept rfl rfl rfl rfl rfl rfl rfl)
  exact hheld.onEverySite_alike fun _ => ⟨rfl, rfl, rfl, rfl⟩

/-- The codes of a read whose site has ended are discarded (R51). -/
theorem State.Coherent.dropOp (h : s.Coherent stops) {k : SiteNo} (hgrant : look s.arbiter.grants k = none) :
    (s.dropOp k).Coherent stops :=
  State.Coherent.onSite_quiet (f := fun x => { x with port := { selection := none, op := none } }) h hgrant rfl rfl rfl rfl nofun

theorem execReferenceReadCompletion_keepsCoherent (h : s.Coherent stops) (k : SiteNo) (o b : SenseCode) :
    KeepsCoherent stops (execReferenceReadCompletion k o b s) := by
  unfold execReferenceReadCompletion
  refine .ite (fun hop => .ite (fun hrun => .next ?_) (.next ?_)) (.next h)
  · exact (h.recordRefs_afterRefs hop hrun o b).settle
  · exact h.dropOp (h.no_grant_of_op hop nofun)

theorem execReadACompletion_keepsCoherent (h : s.Coherent stops) (k : SiteNo) (codes : LaneCodes) :
    KeepsCoherent stops (execReadACompletion k codes s) := by
  unfold execReadACompletion
  split
  · rename_i hop
    have hgrant := h.no_grant_of_op hop nofun
    refine .ite (fun _ => .next ?_) (.next (h.dropOp hgrant))
    rw [State.issueOp_eq, State.onSeq_eq, State.onSite_onSite]
    exact h.onSite_quiet hgrant rfl rfl rfl rfl nofun
  · exact .next h

theorem execVerifyCompletion_keepsCoherent (h : s.Coherent stops) (k : SiteNo) (codes : LaneCodes) :
    KeepsCoherent stops (execVerifyCompletion k codes s) := by
  unfold execVerifyCompletion
  split
  · rename_i hop
    exact .ite (fun _ => .next ((h.recordVerify_afterVerify hop _).settle))
      (.next (h.dropOp (h.no_grant_of_op hop nofun)))
  · exact .next h

theorem execKeyDraw_keepsCoherent (h : s.Coherent stops) : KeepsCoherent stops (execKeyDraw s) := by
  unfold execKeyDraw
  split
  · exact .next h
  · rename_i k len hnext
    have hwaits : look s.pool.waiting k ≠ none := by
      rw [Pool.nextWaiting_waits hnext]
      exact nofun
    split
    · exact .next h
    · exact .next (h.draw_takeKeyGrant ((h.view k).waits hwaits) ‹_›)

theorem execOvercurrentEvent_keepsCoherent (h : s.Coherent stops) (k : SiteNo) (sample : Nat) :
    KeepsCoherent stops (execOvercurrentEvent k sample s) := by
  unfold execOvercurrentEvent
  refine .ite (fun hpulse => .ite (fun _ => .next ?_) (.next ?_)) (.next h)
  · exact (h.truncatePulse_endSite hpulse _).settle
  · exact h.onSite_alike k ⟨rfl, rfl, rfl, rfl⟩

theorem execThermalReading_keepsCoherent (h : s.Coherent stops) (k : SiteNo) (celsius : Int) :
    KeepsCoherent stops (execThermalReading k celsius s) := by
  have hreading : (s.takeReading k (clampCelsius celsius)).Coherent stops := by
    rw [State.takeReading_eq]
    exact h.onSite_alike k ⟨rfl, rfl, rfl, rfl⟩
  unfold execThermalReading
  exact .ite (fun _ => .next ((hreading.thermalEvent k).settle)) (.next hreading)

/-- The completion of a soft reset is seen of the monitors alone (R176; log 30). -/
theorem State.completeReset_unseen (s : State) : (s.onEverySite fun x => { x with monitor := .reset }).Unseen s.completeReset := by
  unfold State.completeReset
  generalize s.onEverySite (fun x => { x with monitor := .reset }) = t
  exact (((State.attn_unseen 0 t).trans (State.raise_unseen .resetDone _)).trans (State.softReset_unseen false _)).trans
    (State.idleReport_unseen _)

theorem execSoftResetCompletion_keepsCoherent (h : s.Coherent stops) : KeepsCoherent stops (execSoftResetCompletion s) := by
  have hmonitors := State.Coherent.onEverySite_alike (f := fun x => { x with monitor := .reset }) h fun _ => ⟨rfl, rfl, rfl, rfl⟩
  have hreset : s.completeReset.Coherent stops := hmonitors.of_unseen s.completeReset_unseen
  unfold execSoftResetCompletion
  exact .ite (fun _ => .next hreset) (.next h)

/-- A timer that ends a site in a state without a pulse. -/
theorem State.Coherent.timeout (h : s.Coherent stops) {k : SiteNo} {x : SiteState} (hstate : (s.site k).seq.state = x) (hx : x ≠ .pulse)
    (o : SiteOutcome) : (s.endSite k o).settle.Coherent stops :=
  (h.endSite (h.no_grant_of_state (by rw [hstate]; exact hx)) o).settle

/-- Every command keeps the claims of the sites (R55, R57, R92, R144). -/
theorem exec_keepsCoherent (c : Instr) (h : s.Coherent stops) : KeepsCoherent stops (exec c s) := by
  have hkept : ∀ {t : State}, s.Unseen t → t.Coherent stops := fun ht => h.of_unseen ht
  cases c with
  | powerOnReset => exact .next (State.coherent_of_reset stops rfl rfl rfl)
  | initialisationEnd => exact .ite (fun _ => .next (hkept (State.unseen_of_kept rfl rfl rfl rfl rfl rfl rfl))) (.next h)
  | runSet value | runClear value | softReset value | attnWrite value | attnEnWrite value | registerWriteOther _ value =>
    exact .next (h.registerWrite _ value)
  | softResetCompletion => exact execSoftResetCompletion_keepsCoherent h
  | post _ lanes | release _ lanes | softStop _ lanes | hardStop _ lanes | load _ lanes | reclaim _ lanes | withdraw _ lanes
  | openWafer lanes | closeWafer lanes | watchedWordNoRequest _ lanes _ | dataWordWrite _ lanes _
  | droppedWatchedWordWrite _ lanes _ => exact .next (h.testerWrite _ lanes _)
  | frameStart => exact .next (h.startIfDue.settle)
  | handBack => exact .next (h.settle)
  | closeCompletion => exact .ite (fun _ => .next (h.idleReport)) (.next h)
  | contactSample k code => exact .ite (fun hsampling => .next (h.takeSample hsampling code)) (.next h)
  | contactTimerExpiry k => exact .ite (fun ⟨hstate, _⟩ => .next (h.timeout hstate nofun _)) (.next h)
  | referenceReadCompletion k o b => exact execReferenceReadCompletion_keepsCoherent h k o b
  | readACompletion k codes => exact execReadACompletion_keepsCoherent h k codes
  | verifyCompletion k codes => exact execVerifyCompletion_keepsCoherent h k codes
  | keyWaitExpiry k => exact .ite (fun ⟨hstate, _⟩ => .next (h.timeout hstate nofun _)) (.next h)
  | keyDraw => exact execKeyDraw_keepsCoherent h
  | budgetGrant => exact .next (h.evaluate nofun)
  | pulseCompletion k sample =>
    exact .ite (fun hpulse => .next ((h.completePulse_takeSort hpulse _).settle)) (.next h)
  | overcurrentEvent k sample => exact execOvercurrentEvent_keepsCoherent h k sample
  | thermalReading k celsius => exact execThermalReading_keepsCoherent h k celsius
  | settleTimerExpiry | wakeTimerExpiry => exact .ite (fun _ => .next (h.enterReady)) (.next h)
  | idleTimerExpiry | supplyGoodEvent => exact .ite (fun _ => .next (hkept (State.unseen_of_supply rfl))) (.next h)
  | undervoltageEvent => exact .ite (fun _ => .next (h.enterHold)) (.next h)
  | holdExpiry =>
    exact .ite (fun ⟨_, _, hgrants⟩ => .next ((h.expireHold ((Arbiter.noGrant_iff _).1 hgrants)).settle)) (.next h)
  | offPendingCompletion => exact .next (hkept s.completeOffPending_unseen)

/-- Every step keeps the claims of the sites. -/
theorem step_keepsCoherent (h : s.Coherent stops) : KeepsCoherent stops (step s) := by
  unfold step
  split
  · exact .next h
  · exact exec_keepsCoherent _ (h.of_unseen (State.unseen_of_kept rfl rfl rfl rfl rfl rfl rfl))

end Commands

/-- Settles O9: every command keeps what the sites claim of the shared blocks, without the stops and with them. -/
theorem stepKeepsBudget : Obligations.StepKeepsBudget := by
  refine ⟨fun s t hbudget hstep => ?_, fun s t hbudget hstops hstep => ?_⟩
  · obtain ⟨ht, -⟩ := (t.coherent_iff False).1 (step_keepsCoherent ((s.coherent_iff False).2 ⟨hbudget, False.elim⟩) t hstep)
    exact ht
  · obtain ⟨-, ht⟩ := (t.coherent_iff True).1 (step_keepsCoherent ((s.coherent_iff True).2 ⟨hbudget, fun _ => hstops⟩) t hstep)
    exact ht trivial

end Sys2Proof.Machine

/-!
PROOF. The pump's timers, the pump monitor's events and the completion of off pending (R80, R84 to R90): O57 and O58.
-/

namespace Sys2Proof.Machine

section Pump

variable {s : State}

/-- The entry to READY is the evaluation of BUDGET_GRANT, and the idle timer after it (R84, R86, R93). -/
theorem State.enterReady_eq (s : State) :
    exec .budgetGrant { s with supply := { s.supply with pump := .ready, settleTimer := none, wakeTimer := none } }
        = .next (s.onSupply Supply.toReady).evaluate
      ∧ s.enterReady = { (s.onSupply Supply.toReady).evaluate with supply := (s.onSupply Supply.toReady).evaluate.idleIfQuiet } :=
  ⟨rfl, State.startIdleIfQuiet_eq _⟩

theorem exec_settleTimerExpiry (hpump : s.supply.pump = .ramp) (htimer : s.supply.settleTimer ≠ none) :
    exec .settleTimerExpiry s = .next s.enterReady :=
  if_pos ⟨hpump, Option.isSome_iff_ne_none.2 htimer⟩

theorem exec_wakeTimerExpiry (hpump : s.supply.pump = .wake) (htimer : s.supply.wakeTimer ≠ none) :
    exec .wakeTimerExpiry s = .next s.enterReady :=
  if_pos ⟨hpump, Option.isSome_iff_ne_none.2 htimer⟩

theorem exec_idleTimerExpiry (hpump : s.supply.pump = .ready) (htimer : s.supply.idleTimer ≠ none) :
    exec .idleTimerExpiry s = .next (s.onSupply Supply.toIdleLow) :=
  if_pos ⟨hpump, Option.isSome_iff_ne_none.2 htimer⟩

/-- The powered states (R80). -/
theorem Supply.powered_iff (p : Supply) :
    p.powered = true ↔ p.pump = .ramp ∨ p.pump = .ready ∨ p.pump = .wake ∨ (p.pump = .idleLow ∧ p.idleKind = .fast) := by
  unfold Supply.powered
  cases p.pump <;> simp

theorem Supply.not_powered {p : Supply} (h : p.pump = .off ∨ p.pump = .hold ∨ (p.pump = .idleLow ∧ p.idleKind = .slow)) :
    ¬p.powered = true := by
  rw [Supply.powered_iff]
  obtain hoff | hhold | ⟨hlow, hslow⟩ := h
  · simp [hoff]
  · simp [hhold]
  · simp [hlow, hslow]

/-- A site's monitor at the entry to HOLD (R104, R109). -/
theorem Site.noteHold_eq (x : Site) : x.noteHold = { x with monitor := { x.monitor with
    holdSeen := x.monitor.holdSeen || x.seq.state.isRunning,
    holdTouched := x.monitor.holdTouched || (x.monitor.phase == .measuring) } } := rfl

theorem exec_undervoltageEvent (hpowered : s.supply.powered = true) : exec .undervoltageEvent s = .next s.enterHold :=
  if_pos hpowered

/-- The entry to HOLD changes the pump, a cause bit and the monitors (R87). -/
theorem State.enterHold_eq (s : State) : s.enterHold = { s with
    attn := s.attn ||| Cause.supplyHold.mask, sites := s.enterHold.sites, supply := s.supply.toHold } := rfl

theorem State.enterHold_site (s : State) (k : SiteNo) : s.enterHold.site k = (s.site k).noteHold :=
  State.onEverySite_site _ _ k

theorem State.completeOffPending_of_due (hpending : s.supply.offPending = true) (huse : s.arbiter.inUse = 0) :
    s.completeOffPending = s.onSupply Supply.toOff :=
  if_pos (by simp [hpending, huse])

theorem State.completeOffPending_of_not_due (h : s.supply.offPending = false ∨ s.arbiter.inUse ≠ 0) : s.completeOffPending = s :=
  if_neg (by
    obtain h | h := h
    · simp [h]
    · simp [h])

end Pump

/-- Settles O57: each expiry is guarded by the pump's state, and the entry to READY is the evaluation with the idle timer after it. -/
theorem pumpTimersMoveThePump : Obligations.PumpTimersMoveThePump := by
  intro s
  refine ⟨?_, fun hpump htimer => exec_idleTimerExpiry hpump htimer, fun h => if_neg fun h' => h h'.1,
    fun h => if_neg fun h' => h h'.1, fun h => if_neg fun h' => h h'.1⟩
  intro c hc
  obtain ⟨hgrant, hready⟩ := s.enterReady_eq
  refine ⟨_, hgrant, ?_⟩
  obtain ⟨rfl, hpump, htimer⟩ | ⟨rfl, hpump, htimer⟩ := hc
  · rw [exec_settleTimerExpiry hpump htimer, hready]
  · rw [exec_wakeTimerExpiry hpump htimer, hready]

/-- Settles O58: the events' guards are the powered states and HOLD, and what is done under each of them is one entry of the pump. -/
theorem undervoltageHoldsThePump : Obligations.UndervoltageHoldsThePump := by
  intro s
  refine ⟨fun h => ⟨_, exec_undervoltageEvent ((Supply.powered_iff _).2 h), State.enterHold_eq s, fun k => ?_⟩,
    fun h => if_neg (Supply.not_powered h), fun hhold hpending => if_pos ⟨hhold, hpending⟩, fun h => if_neg ?_,
    fun hpending huse => ?_, fun h => ?_⟩
  · rw [State.enterHold_site, Site.noteHold_eq]
  · rintro ⟨hhold, hclear⟩
    obtain h | h := h
    · exact h hhold
    · rw [hclear] at h
      cases h
  · show Host.Outcome.next s.completeOffPending = _
    rw [State.completeOffPending_of_due hpending huse]
    rfl
  · show Host.Outcome.next s.completeOffPending = _
    rw [State.completeOffPending_of_not_due h]

end Sys2Proof.Machine

/-!
PROOF. RUN set with no frame to start and RUN clear with no frame to stop, as they reach the supply unit (R83, R90, R148, R171): O16.
-/

namespace Sys2Proof.Machine

section RunBit

variable {v : Word} {s : State}

theorem exec_runSet (hinit : s.initialising = false) (hreset : s.softReset = false) (hrun : s.run = false)
    (hv₀ : v.getLsbD 0 = true) (hv₁ : v.getLsbD 1 = false) : exec (.runSet v) s = .next s.takeRunSet := by
  show Host.Outcome.next (s.registerWrite 1 v) = _
  simp only [State.registerWrite, State.writeRunCtrl, hinit, hreset, asksSoftReset, asksRun, hv₀, hv₁, hrun, Bool.false_eq_true,
    Bool.true_eq_false, if_false, if_true]

/-- No frame starts while the post list is empty or a frame runs (R141). -/
theorem State.startIfDue_of_no_start (h : s.sched.running = none → s.sched.postList = []) : s.startIfDue = s := by
  unfold State.startIfDue
  split
  · rename_i hnone hlist
    rw [h hnone] at hlist
    cases hlist
  · rfl

/-- What RUN set asks of the supply unit (R83, R171). -/
theorem State.supplyRunSet_due_iff (s : State) :
    (s.supply.pump == .off && !s.supply.offPending && !s.arbiter.noRequest) = true
      ↔ s.supply.pump = .off ∧ s.supply.offPending = false ∧ ∃ k, look s.arbiter.requests k ≠ none := by
  have hwaits : s.arbiter.noRequest = false ↔ ∃ k, look s.arbiter.requests k ≠ none := by
    rw [← Bool.not_eq_true, Arbiter.noRequest_iff, not_forall]
  simp only [Bool.and_eq_true, beq_iff_eq, Bool.not_eq_true', hwaits, and_assoc]

theorem State.supplyRunSet_of_due
    (h : s.supply.pump = .off ∧ s.supply.offPending = false ∧ ∃ k, look s.arbiter.requests k ≠ none) :
    s.supplyRunSet = s.onSupply Supply.toRamp :=
  if_pos (s.supplyRunSet_due_iff.2 h)

theorem State.supplyRunSet_of_not_due
    (h : ¬(s.supply.pump = .off ∧ s.supply.offPending = false ∧ ∃ k, look s.arbiter.requests k ≠ none)) : s.supplyRunSet = s :=
  if_neg fun hdue => h (s.supplyRunSet_due_iff.1 hdue)

/-- Nothing is handed back while no frame runs or a site of the running one has not reported END (R146). -/
theorem State.settle_of_not_due (h : s.sched.running = none ∨ ∃ j, look s.sched.ended j = false) : s.settle = s := by
  obtain hnone | ⟨j, hj⟩ := h
  · exact State.settle_of_no_frame hnone
  · exact State.settle_of_not_ended hj

/-- RUN set with no frame to start and none to hand back is RUN and what the supply unit does (R171). -/
theorem State.takeRunSet_of_no_start
    (h : (s.sched.running = none ∧ s.sched.postList = []) ∨ (s.sched.running ≠ none ∧ ∃ j, look s.sched.ended j = false)) :
    s.takeRunSet = State.supplyRunSet { s with run := true } := by
  have hstart : State.startIfDue { s with run := true } = { s with run := true } :=
    State.startIfDue_of_no_start fun hnone => by
      obtain ⟨-, hlist⟩ | ⟨hrunning, -⟩ := h
      · exact hlist
      · exact absurd hnone hrunning
  have hsched : (State.supplyRunSet { s with run := true }).sched = s.sched := by
    unfold State.supplyRunSet
    split
    · rfl
    · rfl
  rw [State.takeRunSet, hstart]
  refine State.settle_of_not_due ?_
  rw [hsched]
  obtain ⟨hnone, -⟩ | ⟨-, hopen⟩ := h
  · exact .inl hnone
  · exact .inr hopen

/-- What RUN clear asks of the supply unit (R90). -/
theorem State.supplyRunClear_eq (s : State) : s.supplyRunClear = { s with supply :=
    if s.supply.pump = .off then s.supply else if s.arbiter.inUse = 0 then s.supply.toOff else s.supply.toOffPending } := by
  obtain ⟨p, hframe⟩ := State.supplyRunClear_frame s
  rw [← State.supplyRunClear_supply, hframe]

/-- RUN clear with no frame running is RUN and what the supply unit does (R90, R148). -/
theorem State.clearRun_of_no_frame (h : s.sched.running = none) : s.clearRun = State.supplyRunClear { s with run := false } := by
  have htake : State.takeRunClear { s with run := false } = State.supplyRunClear { s with run := false } := by
    simp only [State.takeRunClear, h]
  have hnone : (State.supplyRunClear { s with run := false }).sched.running = none := by
    rw [State.supplyRunClear_eq]
    exact h
  rw [State.clearRun, htake, State.settle_of_no_frame hnone]

end RunBit

/-- Settles O16: with nothing to start, stop or hand back, RUN and the supply unit's own rule are all there is. -/
theorem runBitWithNoFrameToStartOrStop : Obligations.RunBitWithNoFrameToStartOrStop := by
  intro v s hinit hreset hv₁
  refine ⟨fun hrun hv₀ hidle => ?_, fun hrun hv₀ hnone => ?_⟩
  · rw [exec_runSet hinit hreset hrun hv₀ hv₁, State.takeRunSet_of_no_start hidle]
    refine ⟨fun hdue => ?_, fun hdue => ?_⟩
    · rw [State.supplyRunSet_of_due (s := { s with run := true }) hdue]
      rfl
    · rw [State.supplyRunSet_of_not_due (s := { s with run := true }) hdue]
  · rw [exec_runClear hinit hreset hrun hv₀ hv₁, State.clearRun_of_no_frame hnone, State.supplyRunClear_eq]
    refine ⟨fun hoff => ?_, fun hoff huse => ?_, fun hoff huse => ?_⟩
    · rw [if_pos hoff]
    · rw [if_neg hoff, if_pos huse, Supply.toOff]
    · rw [if_neg hoff, if_neg huse, Supply.toOffPending]

end Sys2Proof.Machine

/-!
PROOF. The round-robin order of an evaluation pass, and what any pass leaves waiting (R93, R94): O46.
-/

namespace Sys2Proof.Machine

/-! ### The round -/

/-- The place of site k in the round that begins at the site after the last granted one (R94). -/
def roundPlace (last k : SiteNo) : Nat := (k.val + 15 - last.val) % 16

theorem roundPlace_ofNat (last : SiteNo) {i : Nat} (hi : i < 16) : roundPlace last (Fin.ofNat 16 (last.val + 1 + i)) = i := by
  simp only [roundPlace, Fin.val_ofNat]
  omega

/-- A pass takes the sites in the order of their places (R94). -/
theorem passOrder_pairwise (last : SiteNo) : (passOrder last).Pairwise fun a b => roundPlace last a < roundPlace last b := by
  refine List.pairwise_map.2 (List.pairwise_lt_range.imp_of_mem fun {a b} ha hb hab => ?_)
  rwa [roundPlace_ofNat last (List.mem_range.1 ha), roundPlace_ofNat last (List.mem_range.1 hb)]

/-- The part of a pass before site j holds neither j nor a site later in the round. -/
theorem passOrder_split (last j : SiteNo) :
    ∃ before after, passOrder last = before ++ j :: after ∧ ∀ i ∈ before, roundPlace last i < roundPlace last j := by
  obtain ⟨before, after, hsplit⟩ := List.append_of_mem (mem_passOrder last j)
  refine ⟨before, after, hsplit, fun i hi => ?_⟩
  have hpair := passOrder_pairwise last
  rw [hsplit, List.pairwise_append] at hpair
  obtain ⟨-, -, hacross⟩ := hpair
  exact hacross i hi j List.mem_cons_self

section Turns

variable {s : State} {j k : SiteNo} {n : Nat}

/-- The turns of sites that do not wait change nothing (R94). -/
theorem State.foldl_grantTurn_of_none {l : List SiteNo} (h : ∀ i ∈ l, look s.arbiter.requests i = none) :
    l.foldl (fun t i => t.grantTurn i) s = s := by
  induction l with
  | nil => rfl
  | cons i l ih =>
    rw [List.foldl_cons, State.grantTurn_of_none (h i List.mem_cons_self)]
    exact ih fun i' hi' => h i' (List.mem_cons_of_mem i hi')

/-- A whole request that fits is granted (R94). -/
theorem State.grantTurn_of_fits (h : look s.arbiter.requests k = some n) (hfits : s.fits n = true) :
    s.grantTurn k = s.grant k n false := by
  rw [State.grantTurn_of_some h, if_pos hfits]

/-! ### What a pass leaves waiting -/

/-- Site k waits with n cells, and neither they nor half of them fit in what is left of the budget (R94). -/
structure State.Unfit (s : State) (k : SiteNo) (n : Nat) : Prop where
  request : look s.arbiter.requests k = some n
  whole : ¬s.fits n = true
  half : ¬(2 ≤ n ∧ s.fits (chopOf n) = true)

/-- Site k's request of n cells has been granted whole or chopped (R94). -/
structure State.Served (s : State) (k : SiteNo) (n : Nat) : Prop where
  request : look s.arbiter.requests k = none
  grant : look s.arbiter.grants k = some n ∨ (2 ≤ n ∧ look s.arbiter.grants k = some (chopOf n))

theorem State.Unfit.grantTurn_same (h : s.Unfit k n) : s.grantTurn k = s := by
  rw [State.grantTurn_of_some h.request, if_neg h.whole, if_neg h.half]

/-- A turn takes from the budget and never gives to it (R94). -/
theorem State.fits_of_grantTurn {g : Nat} (h : (s.grantTurn j).fits g = true) : s.fits g = true := by
  obtain hsame | ⟨g', chopped, -, hgrant⟩ := State.grantTurn_cases j s
  · rwa [hsame] at h
  · rw [hgrant, State.fits_iff] at h
    have huse : s.arbiter.inUse + g' * s.supply.params.cellCurrent + g * s.supply.params.cellCurrent ≤ s.supply.params.budget := h
    rw [State.fits_iff]
    omega

/-- What did not fit does not fit after another site's turn, nor after its own. -/
theorem State.Unfit.grantTurn (h : s.Unfit k n) (j : SiteNo) : (s.grantTurn j).Unfit k n := by
  by_cases hj : j = k
  · rwa [hj, h.grantTurn_same]
  · exact ⟨(State.grantTurn_requests_other (Ne.symm hj) s).trans h.request, fun hfits => h.whole (State.fits_of_grantTurn hfits),
      fun ⟨htwo, hfits⟩ => h.half ⟨htwo, State.fits_of_grantTurn hfits⟩⟩

theorem State.Unfit.grantTurns (h : s.Unfit k n) (l : List SiteNo) : (l.foldl (fun t i => t.grantTurn i) s).Unfit k n := by
  induction l generalizing s with
  | nil => exact h
  | cons i l ih => exact ih (h.grantTurn i)

theorem State.Served.grantTurns (h : s.Served k n) (l : List SiteNo) : (l.foldl (fun t i => t.grantTurn i) s).Served k n := by
  have hpass := State.grantTurns_passesBy h.request l
  exact ⟨hpass.request, by rw [hpass.grant]; exact h.grant⟩

/-- A waiting site's own turn serves it, or nothing of it fits (R94). -/
theorem State.grantTurn_unfit_or_served (h : look s.arbiter.requests k = some n) :
    (s.grantTurn k).Unfit k n ∨ (s.grantTurn k).Served k n := by
  rw [State.grantTurn_of_some h]
  split
  · exact .inr ⟨look_put_same _ _ _, .inl (look_put_same _ _ _)⟩
  · rename_i hwhole
    split
    · rename_i hhalf
      exact .inr ⟨look_put_same _ _ _, .inr ⟨hhalf.1, look_put_same _ _ _⟩⟩
    · rename_i hhalf
      exact .inl ⟨h, hwhole, hhalf⟩

/-- The turns of some sites, site k's among them, serve k, or nothing of its request fits after them (R94). -/
theorem State.grantTurns_unfit_or_served {l : List SiteNo} (hk : k ∈ l) (h : look s.arbiter.requests k = some n) :
    (l.foldl (fun t i => t.grantTurn i) s).Unfit k n ∨ (l.foldl (fun t i => t.grantTurn i) s).Served k n := by
  induction l generalizing s with
  | nil => cases hk
  | cons i l ih =>
    by_cases hi : i = k
    · subst hi
      obtain hunfit | hserved := State.grantTurn_unfit_or_served h
      · exact .inl (hunfit.grantTurns l)
      · exact .inr (hserved.grantTurns l)
    · exact ih ((List.mem_cons.1 hk).resolve_left (Ne.symm hi)) ((State.grantTurn_requests_other (Ne.symm hi) s).trans h)

/-- An evaluation is a pass over the round (R93, R94). -/
theorem State.evaluate_of_ready (hpump : s.supply.pump = .ready) (hoff : s.supply.offPending = false) :
    s.evaluate = (passOrder s.arbiter.lastGranted).foldl (fun t i => t.grantTurn i) s :=
  if_pos ((Supply.granting_iff _).2 ⟨hpump, hoff⟩)

/-- Where j is the first of two waiting sites and what is left after it fits nothing of the other, a pass is j's turn (R94). -/
theorem State.evaluate_of_first {m : Nat} (hpump : s.supply.pump = .ready) (hoff : s.supply.offPending = false)
    (honly : ∀ i, i ≠ j → i ≠ k → look s.arbiter.requests i = none)
    (hfirst : roundPlace s.arbiter.lastGranted j < roundPlace s.arbiter.lastGranted k)
    (hleft : (s.grantTurn j).Unfit k m) : s.evaluate = s.grantTurn j := by
  obtain ⟨before, after, hsplit, hbefore⟩ := passOrder_split s.arbiter.lastGranted j
  have hidle : before.foldl (fun t i => t.grantTurn i) s = s := State.foldl_grantTurn_of_none fun i hi => by
    have hplace := hbefore i hi
    exact honly i (fun hij => by rw [hij] at hplace; omega) (fun hik => by rw [hik] at hplace; omega)
  have hfixed : ∀ i, (s.grantTurn j).grantTurn i = s.grantTurn j := fun i => by
    by_cases hij : i = j
    · rw [hij, State.grantTurn_idem]
    · by_cases hik : i = k
      · rw [hik, hleft.grantTurn_same]
      · exact State.grantTurn_of_none ((State.grantTurn_requests_other hij s).trans (honly i hij hik))
  rw [State.evaluate_of_ready hpump hoff, hsplit, List.foldl_append, hidle, List.foldl_cons, State.foldl_grantTurn_of_fixed hfixed]

end Turns

/-- Settles O46: the first of the two takes its turn before the other and leaves it unfit; and each site's own turn decides it, since
the turns after it take from the budget and do not touch the site. -/
theorem grantsGoRoundRobinFromTheLastGranted : Obligations.GrantsGoRoundRobinFromTheLastGranted := by
  refine ⟨?_, ?_⟩
  · intro j k n m s hpump hoff hj hk honly hfirst hfitj hfitk hover
    have hne : k ≠ j := fun hkj => by rw [hkj] at hfirst; omega
    have hturn : s.grantTurn j = s.grant j n false := State.grantTurn_of_fits hj ((State.fits_iff s n).2 hfitj)
    have hhalf : ¬(s.grant j n false).fits (chopOf m) = true := fun hfits => by
      have huse : s.arbiter.inUse + n * s.supply.params.cellCurrent + (m + 1) / 2 * s.supply.params.cellCurrent
          ≤ s.supply.params.budget := (State.fits_iff _ _).1 hfits
      rw [Nat.add_mul] at hover
      omega
    have hwhole : ¬(s.grant j n false).fits m = true := fun hfits => by
      have huse : s.arbiter.inUse + n * s.supply.params.cellCurrent + m * s.supply.params.cellCurrent
          ≤ s.supply.params.budget := (State.fits_iff _ _).1 hfits
      have hle : (m + 1) / 2 * s.supply.params.cellCurrent ≤ m * s.supply.params.cellCurrent := Nat.mul_le_mul_right _ (by omega)
      rw [Nat.add_mul] at hover
      omega
    have hleft : (s.grant j n false).Unfit k m := ⟨(look_put_other _ _ _ _ (Ne.symm hne)).trans hk, hwhole, fun ⟨_, h⟩ => hhalf h⟩
    have heval : s.evaluate = s.grant j n false :=
      (State.evaluate_of_first hpump hoff honly hfirst (hturn ▸ hleft)).trans hturn
    exact ⟨s.evaluate, rfl, heval ▸ ⟨look_put_same _ _ _, look_put_same _ _ _, hleft.request, look_put_other _ _ _ _ (Ne.symm hne),
      rfl, rfl, State.grant_site_other hne n false s⟩⟩
  · intro s t hpump hoff hexec k n hk
    obtain rfl : s.evaluate = t := Host.Outcome.next.inj hexec
    rw [State.evaluate_of_ready hpump hoff]
    have hsupply := s.evaluate_supply
    rw [State.evaluate_of_ready hpump hoff] at hsupply
    obtain h | h := State.grantTurns_unfit_or_served (mem_passOrder s.arbiter.lastGranted k) hk
    · obtain ⟨hrequest, hwhole, hhalf⟩ := h
      rw [State.fits_iff, hsupply, Nat.not_le] at hwhole
      rw [State.fits_iff, hsupply, chopOf, not_and_or, Nat.not_le, Nat.not_le] at hhalf
      exact .inl ⟨hrequest, hwhole, hhalf⟩
    · exact .inr ⟨h.request, h.grant⟩

end Sys2Proof.Machine

/-!
PROOF. The working recipes and the temperature side of the monitors: what a site's own work leaves of both (R99, R135).
-/

namespace Sys2Proof.Machine

/-! ### What a recipe and a temperature test are judged by -/

/-- The thresholds of a monitor and what its two temperature tests have set (R99). -/
structure Thermal where
  warnAt : Int
  shutAt : Int
  warnLive : Bool
  shutLatch : Bool

def Monitor.thermal (m : Monitor) : Thermal :=
  { warnAt := m.warnAt, shutAt := m.shutAt, warnLive := m.warnLive, shutLatch := m.shutLatch }

/-- The working recipes held, and the thresholds, warning and latch of every site. -/
structure ThermalView where
  recipes : Vector (Option Recipe) 4
  thermals : SiteNo → Thermal

def State.thermalView (s : State) : ThermalView :=
  { recipes := s.sched.recipes, thermals := fun k => (s.site k).monitor.thermal }

theorem State.thermalView_eq {s t : State} (hrecipes : t.sched.recipes = s.sched.recipes)
    (hmonitors : ∀ k, (t.site k).monitor.thermal = (s.site k).monitor.thermal) : t.thermalView = s.thermalView := by
  rw [State.thermalView, State.thermalView, hrecipes, funext hmonitors]

theorem State.thermalView_of_kept {s t : State} (hrecipes : t.sched.recipes = s.sched.recipes) (hsites : t.sites = s.sites) :
    t.thermalView = s.thermalView := State.thermalView_eq hrecipes fun k => by rw [State.site, hsites]; rfl

theorem State.thermalView_of_sites {s t : State} (hwork : s.SiteWork t) (hsites : t.sites = s.sites) :
    t.thermalView = s.thermalView := by
  obtain ⟨-, -, -, -, hrecipes, -, -⟩ := hwork.sched_kept
  exact State.thermalView_of_kept hrecipes hsites

section Sites

variable {s : State}

/-! ### The plain updates -/

theorem State.onSite_thermalView {k : SiteNo} {f : Site → Site} (hf : (f (s.site k)).monitor.thermal = (s.site k).monitor.thermal) :
    (s.onSite k f).thermalView = s.thermalView :=
  State.thermalView_eq rfl fun j => by
    rw [State.onSite_site]
    split
    · rename_i hkj
      rw [hf, hkj]
    · rfl

theorem State.onEverySite_thermalView {f : Site → Site} (hf : ∀ x, (f x).monitor.thermal = x.monitor.thermal) :
    (s.onEverySite f).thermalView = s.thermalView :=
  State.thermalView_eq rfl fun k => by rw [State.onEverySite_site, hf]

/-- Operations that leave the view leave it one after the other. -/
theorem State.foldl_thermalView {α : Type} {act : α → State → State} (hact : ∀ a t, (act a t).thermalView = t.thermalView)
    (l : List α) (s : State) : (l.foldl (fun t a => act a t) s).thermalView = s.thermalView := by
  induction l generalizing s with
  | nil => rfl
  | cons a l ih => exact (ih _).trans (hact a s)

@[simp] theorem State.onSeq_thermalView (k : SiteNo) (f : Sequencer → Sequencer) (s : State) :
    (s.onSeq k f).thermalView = s.thermalView := State.onSite_thermalView rfl

@[simp] theorem State.onFormer_thermalView (k : SiteNo) (f : Former → Former) (s : State) :
    (s.onFormer k f).thermalView = s.thermalView := State.onSite_thermalView rfl

@[simp] theorem State.onPort_thermalView (k : SiteNo) (f : Port → Port) (s : State) :
    (s.onPort k f).thermalView = s.thermalView := State.onSite_thermalView rfl

/-- What a monitor does with limits, samples and flags leaves its temperature side. -/
theorem State.onMonitor_thermalView {k : SiteNo} {f : Monitor → Monitor}
    (hf : (f (s.site k).monitor).thermal = (s.site k).monitor.thermal) : (s.onMonitor k f).thermalView = s.thermalView :=
  State.onSite_thermalView hf

@[simp] theorem State.issueOp_thermalView (k : SiteNo) (op : PortOp) (s : State) : (s.issueOp k op).thermalView = s.thermalView :=
  State.onPort_thermalView k _ s

@[simp] theorem State.endOp_thermalView (k : SiteNo) (s : State) : (s.endOp k).thermalView = s.thermalView :=
  State.onPort_thermalView k _ s

@[simp] theorem State.dropOp_thermalView (k : SiteNo) (s : State) : (s.dropOp k).thermalView = s.thermalView :=
  State.onPort_thermalView k _ s

@[simp] theorem State.store_thermalView (a : Nat) (bs : List Byte) (s : State) : (s.store a bs).thermalView = s.thermalView := rfl

@[simp] theorem State.setFrame_thermalView (f : FrameNo) (x : FrameState) (s : State) : (s.setFrame f x).thermalView = s.thermalView := rfl

@[simp] theorem State.setSlot_thermalView (i : SlotNo) (x : SlotState) (s : State) : (s.setSlot i x).thermalView = s.thermalView := rfl

@[simp] theorem State.raise_thermalView (c : Cause) (s : State) : (s.raise c).thermalView = s.thermalView := rfl

@[simp] theorem State.onPool_thermalView (f : Pool → Pool) (s : State) : (s.onPool f).thermalView = s.thermalView := rfl

@[simp] theorem State.onSupply_thermalView (f : Supply → Supply) (s : State) : (s.onSupply f).thermalView = s.thermalView := rfl

@[simp] theorem State.report_thermalView (k : SiteNo) (s : State) : (s.report k).thermalView = s.thermalView := rfl

/-! ### The supply unit and the arbiter -/

@[simp] theorem State.grantTurn_thermalView (k : SiteNo) (s : State) : (s.grantTurn k).thermalView = s.thermalView := by
  obtain hsame | ⟨g, chopped, -, hgrant⟩ := State.grantTurn_cases k s
  · rw [hsame]
  · rw [hgrant, State.grant]
    exact State.onSite_thermalView rfl

@[simp] theorem State.evaluate_thermalView (s : State) : s.evaluate.thermalView = s.thermalView := by
  unfold State.evaluate
  split
  · exact State.foldl_thermalView State.grantTurn_thermalView _ s
  · rfl

theorem State.thermalView_of_supply {t : State} (h : ∃ p, t = { s with supply := p }) : t.thermalView = s.thermalView := by
  obtain ⟨p, rfl⟩ := h
  rfl

@[simp] theorem State.startIdleIfQuiet_thermalView (s : State) : s.startIdleIfQuiet.thermalView = s.thermalView :=
  State.thermalView_of_supply s.startIdleIfQuiet_frame

@[simp] theorem State.completeOffPending_thermalView (s : State) : s.completeOffPending.thermalView = s.thermalView :=
  State.thermalView_of_supply s.completeOffPending_frame

@[simp] theorem State.supplyRunSet_thermalView (s : State) : s.supplyRunSet.thermalView = s.thermalView :=
  State.thermalView_of_supply s.supplyRunSet_frame

@[simp] theorem State.supplyRunClear_thermalView (s : State) : s.supplyRunClear.thermalView = s.thermalView :=
  State.thermalView_of_supply s.supplyRunClear_frame

@[simp] theorem State.lowerInUse_thermalView (k : SiteNo) (g : Nat) (s : State) : (s.lowerInUse k g).thermalView = s.thermalView := by
  rw [State.lowerInUse, State.completeOffPending_thermalView]
  rfl

@[simp] theorem State.release_thermalView (k : SiteNo) (s : State) : (s.release k).thermalView = s.thermalView := by
  unfold State.release
  split
  · rfl
  · simp only [State.startIdleIfQuiet_thermalView, State.evaluate_thermalView, State.lowerInUse_thermalView]

@[simp] theorem State.enterReady_thermalView (s : State) : s.enterReady.thermalView = s.thermalView := by
  rw [State.enterReady, State.startIdleIfQuiet_thermalView, State.evaluate_thermalView, State.onSupply_thermalView]

@[simp] theorem State.withdrawBurst_thermalView (k : SiteNo) (s : State) : (s.withdrawBurst k).thermalView = s.thermalView := by
  unfold State.withdrawBurst
  split
  · rfl
  · rw [State.startIdleIfQuiet_thermalView]
    rfl

/-- The entry to HOLD marks the pulses and the running sites, and tests no temperature (R87). -/
@[simp] theorem State.enterHold_thermalView (s : State) : s.enterHold.thermalView = s.thermalView :=
  State.onEverySite_thermalView (s := (s.onSupply Supply.toHold).raise .supplyHold) fun _ => rfl

/-! ### A site's way through its rows -/

@[simp] theorem State.requestCurrent_thermalView (k : SiteNo) (s : State) : (s.requestCurrent k).thermalView = s.thermalView :=
  State.onSeq_thermalView k (fun q => { q with state := .burnWait }) s

@[simp] theorem State.beginAttempt_thermalView (k : SiteNo) (row : Row) (n : Nat) (pending : ColSet) (s : State) :
    (s.beginAttempt k row n pending).thermalView = s.thermalView := by
  rw [State.beginAttempt, State.requestCurrent_thermalView, State.onFormer_thermalView, State.onSeq_thermalView]

@[simp] theorem State.issueVerify_thermalView (k : SiteNo) (row : Row) (s : State) : (s.issueVerify k row).thermalView = s.thermalView :=
  State.issueOp_thermalView k _ s

@[simp] theorem State.enterFinal_thermalView (k : SiteNo) (s : State) : (s.enterFinal k).thermalView = s.thermalView := by
  rw [State.enterFinal, State.issueVerify_thermalView, State.onSeq_thermalView]

@[simp] theorem State.beginRow_thermalView (k : SiteNo) (row : Row) (s : State) : (s.beginRow k row).thermalView = s.thermalView := by
  unfold State.beginRow
  split
  · exact State.beginAttempt_thermalView _ _ _ _ s
  · exact State.enterFinal_thermalView k s

@[simp] theorem State.beginLocking_thermalView (k : SiteNo) (s : State) : (s.beginLocking k).thermalView = s.thermalView := by
  rw [State.beginLocking, State.beginAttempt_thermalView, State.onSeq_thermalView]

@[simp] theorem State.afterGoodPulse_thermalView (k : SiteNo) (s : State) : (s.afterGoodPulse k).thermalView = s.thermalView := by
  unfold State.afterGoodPulse
  dsimp only
  split
  · split
    · rw [State.issueVerify_thermalView, State.onSeq_thermalView, State.onFormer_thermalView]
    · exact State.onFormer_thermalView k _ s
  · rw [State.requestCurrent_thermalView, State.onFormer_thermalView]

/-! ### The key pool unit -/

@[simp] theorem State.takeKeyGrant_thermalView (g : KeyGrant) (s : State) : (s.takeKeyGrant g).thermalView = s.thermalView := by
  rw [State.takeKeyGrant, State.beginRow_thermalView, State.onSeq_thermalView]

@[simp] theorem State.deliver_thermalView (gs : List KeyGrant) (s : State) : (s.deliver gs).thermalView = s.thermalView :=
  State.foldl_thermalView State.takeKeyGrant_thermalView gs s

theorem State.draw_thermalView {k : SiteNo} {len : KeyLength} {t : State} {g : KeyGrant} (h : s.draw k len = some (t, g)) :
    t.thermalView = s.thermalView := State.thermalView_of_sites (State.draw_siteWork h) (State.draw_sites h)

@[simp] theorem State.evaluatePool_thermalView (s : State) : s.evaluatePool.thermalView = s.thermalView := by
  rw [State.evaluatePool, State.deliver_thermalView]
  exact State.thermalView_of_sites s.evaluateDraws_siteWork s.evaluateDraws_sites

/-! ### The end of a site -/

@[simp] theorem State.fileEnd_thermalView (k : SiteNo) (o : SiteOutcome) (d : Disposition) (serial : Word) (s : State) :
    (s.fileEnd k o d serial).thermalView = s.thermalView :=
  State.thermalView_of_sites
    (.trans (.trans (State.writeRecord_siteWork k o d serial s) (State.writeMap_siteWork k o _)) (State.report_siteWork k _))
    (State.fileEnd_sites k o d serial s)

@[simp] theorem State.endActions_thermalView (k : SiteNo) (o : SiteOutcome) (s : State) :
    (s.endActions k o).1.thermalView = s.thermalView := by
  rw [State.endActions_fst, State.fileEnd_thermalView, State.onSeq_thermalView]
  exact State.thermalView_of_sites (State.settleKey_siteWork k o s) (State.settleKey_sites k o s)

@[simp] theorem State.endSiteWith_thermalView (k : SiteNo) (o : SiteOutcome) (s : State) :
    (s.endSiteWith k o).1.thermalView = s.thermalView := by
  unfold State.endSiteWith
  split
  · rw [State.endActions_thermalView, State.onSite_thermalView rfl, State.withdrawBurst_thermalView, State.withdrawDraw,
      State.onPool_thermalView]
  · rfl

@[simp] theorem State.endSite_thermalView (k : SiteNo) (o : SiteOutcome) (s : State) : (s.endSite k o).thermalView = s.thermalView := by
  rw [State.endSite, State.deliver_thermalView, State.endSiteWith_thermalView]

/-- A site that may end at its boundary leaves the view where going on leaves it. -/
theorem State.unlessStopped_thermalView {k : SiteNo} {go : State → State} (hgo : (go s).thermalView = s.thermalView) :
    (s.unlessStopped k go).thermalView = s.thermalView := by
  unfold State.unlessStopped
  split
  · exact State.endSite_thermalView k _ s
  · exact hgo

@[simp] theorem State.enterKeywait_thermalView (k : SiteNo) (s : State) : (s.enterKeywait k).thermalView = s.thermalView := by
  have hkeywait : (s.onSite k (Site.asKeywait s.workingRecipe)).thermalView = s.thermalView := State.onSite_thermalView rfl
  rw [State.enterKeywait_eq]
  split
  · rw [State.takeKeyGrant_thermalView, State.draw_thermalView ‹_›, hkeywait]
  · split
    · rw [State.endSite_thermalView, State.raise_thermalView, hkeywait]
    · exact hkeywait

@[simp] theorem State.completePulse_thermalView (k : SiteNo) (s : State) : (s.completePulse k).thermalView = s.thermalView := by
  rw [State.completePulse, State.release_thermalView, State.onMonitor_thermalView rfl, State.endOp_thermalView]

@[simp] theorem State.truncatePulse_thermalView (k : SiteNo) (s : State) : (s.truncatePulse k).thermalView = s.thermalView := by
  rw [State.truncatePulse, State.release_thermalView, State.onMonitor_thermalView rfl, State.endOp_thermalView]

@[simp] theorem State.thermalEvent_thermalView (k : SiteNo) (s : State) : (s.thermalEvent k).thermalView = s.thermalView := by
  rw [State.thermalEvent, State.endSite_thermalView]
  split
  · exact State.truncatePulse_thermalView k s
  · rfl

@[simp] theorem State.takeHard_thermalView (k : SiteNo) (s : State) : (s.takeHard k).thermalView = s.thermalView := by
  unfold State.takeHard
  dsimp only
  split
  · split
    · rw [State.endSite_thermalView, State.onSeq_thermalView]
    · exact State.onSeq_thermalView k _ s
  · rfl

@[simp] theorem State.takeSoft_thermalView (k : SiteNo) (s : State) : (s.takeSoft k).thermalView = s.thermalView := by
  unfold State.takeSoft
  dsimp only
  split
  · split
    · rw [State.endSite_thermalView, State.onSeq_thermalView]
    · exact State.onSeq_thermalView k _ s
  · rfl

/-! ### Completed samples, reads and pulses -/

@[simp] theorem State.takeSample_thermalView (k : SiteNo) (code : SenseCode) (s : State) :
    (s.takeSample k code).thermalView = s.thermalView := by
  unfold State.takeSample
  dsimp only
  split
  · rw [State.issueOp_thermalView, State.onSeq_thermalView, State.onSeq_thermalView]
  · exact State.onSeq_thermalView k _ s

@[simp] theorem State.recordRefs_thermalView (k : SiteNo) (o b : SenseCode) (s : State) :
    (s.recordRefs k o b).thermalView = s.thermalView := by
  rw [State.recordRefs, State.endOp_thermalView, State.onSeq_thermalView]

@[simp] theorem State.afterRefs_thermalView (k : SiteNo) (o b : SenseCode) (s : State) :
    (s.afterRefs k o b).thermalView = s.thermalView := by
  unfold State.afterRefs
  split
  · refine State.unlessStopped_thermalView ?_
    rw [State.issueVerify_thermalView, State.onSeq_thermalView]
  · exact State.endSite_thermalView k _ s

@[simp] theorem State.recordVerify_thermalView (k : SiteNo) (row : Row) (v : RowVerify) (s : State) :
    (s.recordVerify k row v).thermalView = s.thermalView := by
  rw [State.recordVerify, State.endOp_thermalView, State.onSeq_thermalView]

theorem State.blankVerified_thermalView (k : SiteNo) (row : Row) (s : State) : (s.blankVerified k row).thermalView = s.thermalView := by
  unfold State.blankVerified
  dsimp only
  split
  · split
    · exact State.endSite_thermalView k _ s
    · exact State.endSite_thermalView k _ s
    · exact State.unlessStopped_thermalView (State.enterKeywait_thermalView k s)
  · exact State.unlessStopped_thermalView (State.issueVerify_thermalView k _ s)

theorem State.rowDone_thermalView (k : SiteNo) (row : Row) (s : State) : (s.rowDone k row).thermalView = s.thermalView := by
  have hleft : ((s.onSeq k fun q => { q with pendingSet := 0 }).onFormer k Former.rowDone).thermalView = s.thermalView := by
    rw [State.onFormer_thermalView, State.onSeq_thermalView]
  unfold State.rowDone
  dsimp only
  split
  · rw [State.endSite_thermalView, hleft]
  · rw [State.unlessStopped_thermalView (State.beginRow_thermalView k _ _), hleft]

theorem State.burnVerified_thermalView (k : SiteNo) (row : Row) (v : RowVerify) (s : State) :
    (s.burnVerified k row v).thermalView = s.thermalView := by
  unfold State.burnVerified
  dsimp only
  split
  · exact State.endSite_thermalView k _ s
  · split
    · exact State.unlessStopped_thermalView (State.beginAttempt_thermalView k _ _ _ s)
    · exact State.rowDone_thermalView k row s

theorem State.finalVerified_thermalView (k : SiteNo) (row : Row) (v : RowVerify) (s : State) :
    (s.finalVerified k row v).thermalView = s.thermalView := by
  have hfold : (s.foldFinal k (planImage (s.site k).seq.plan row) v).thermalView = s.thermalView := State.onSeq_thermalView k _ s
  unfold State.finalVerified
  dsimp only
  split
  · rw [State.endSite_thermalView, hfold]
  · split
    · split
      · rw [State.unlessStopped_thermalView (State.beginLocking_thermalView k _), hfold]
      · rw [State.endSite_thermalView, hfold]
    · rw [State.unlessStopped_thermalView (by rw [State.issueVerify_thermalView, State.onSeq_thermalView]), hfold]

@[simp] theorem State.afterVerify_thermalView (k : SiteNo) (row : Row) (v : RowVerify) (s : State) :
    (s.afterVerify k row v).thermalView = s.thermalView := by
  unfold State.afterVerify
  split
  · exact State.blankVerified_thermalView k row s
  · exact State.burnVerified_thermalView k row v s
  · exact State.finalVerified_thermalView k row v s
  · rfl

@[simp] theorem State.takeSort_thermalView (k : SiteNo) (sort : PulseSort) (s : State) :
    (s.takeSort k sort).thermalView = s.thermalView := by
  unfold State.takeSort
  split
  · exact State.endSite_thermalView k _ s
  · exact State.endSite_thermalView k _ s
  · exact State.unlessStopped_thermalView (State.afterGoodPulse_thermalView k s)

theorem State.loseAll_thermalView (s : State) : s.loseAll.1.thermalView = s.thermalView := by
  have hlose : ∀ (l : List SiteNo) (acc : State × List KeyGrant), (l.foldl loseSupply acc).1.thermalView = acc.1.thermalView := by
    intro l
    induction l with
    | nil => exact fun _ => rfl
    | cons k l ih => exact fun acc => (ih _).trans (State.endSiteWith_thermalView k _ _)
  exact hlose _ _

@[simp] theorem State.expireHold_thermalView (s : State) : s.expireHold.thermalView = s.thermalView := by
  rw [State.expireHold, State.deliver_thermalView, State.raise_thermalView, State.onSupply_thermalView, State.loseAll_thermalView]

/-! ### Stops, skipped sites and entries to CONTACT -/

theorem State.everyRunning_thermalView {act : SiteNo → State → State} (hact : ∀ k t, (act k t).thermalView = t.thermalView) (s : State) :
    (s.everyRunning act).thermalView = s.thermalView := State.foldl_thermalView hact _ s.chosen

@[simp] theorem State.softStopFrame_thermalView (f : FrameNo) (s : State) : (s.softStopFrame f).thermalView = s.thermalView := by
  unfold State.softStopFrame
  split
  · exact State.everyRunning_thermalView State.takeSoft_thermalView (s.setStop f .soft)
  · rfl

@[simp] theorem State.hardStopFrame_thermalView (f : FrameNo) (s : State) : (s.hardStopFrame f).thermalView = s.thermalView := by
  unfold State.hardStopFrame
  split
  · exact State.everyRunning_thermalView State.takeHard_thermalView (s.setStop f .hard)
  · rfl

@[simp] theorem State.takeRunClear_thermalView (s : State) : s.takeRunClear.thermalView = s.thermalView := by
  unfold State.takeRunClear
  split
  · exact State.supplyRunClear_thermalView s
  · dsimp only
    rw [State.foldl_thermalView State.takeHard_thermalView, State.supplyRunClear_thermalView,
      State.foldl_thermalView State.takeHard_thermalView]
    rfl

theorem State.skipSite_thermalView (k : SiteNo) (why : SkipReason) (x y : Int) (s : State) :
    (s.skipSite k why x y).thermalView = s.thermalView := by
  rw [State.skipSite, State.report_thermalView,
    State.thermalView_of_sites (State.writeRecord_siteWork _ _ _ _ _) (State.writeRecord_sites _ _ _ _ _), State.onSeq_thermalView]

theorem State.runSite_thermalView (k : SiteNo) (r : Recipe) (x y : Int) (s : State) : (s.runSite k r x y).thermalView = s.thermalView := by
  have hcontact : (s.onSite k (Site.enterContact r s.lotTag s.supply.pump x y)).thermalView = s.thermalView :=
    State.onSite_thermalView rfl
  unfold State.runSite
  dsimp only
  split
  · rw [State.endSite_thermalView, hcontact]
  · exact hcontact

@[simp] theorem State.handSite_thermalView (f : FrameNo) (r : Recipe) (at_ : State) (k : SiteNo) (s : State) :
    (State.handSite f r at_ k s).thermalView = s.thermalView := by
  unfold State.handSite
  split
  · exact State.runSite_thermalView k r _ _ s
  · exact State.skipSite_thermalView k _ _ _ s

end Sites

end Sys2Proof.Machine

/-!
PROOF. The working recipes stay in range and the monitors stay ordered, through every start, hand-back, write and command (R100 to R102,
R137, R178 to R182): O8.
-/

namespace Sys2Proof.Machine

/-! ### A recipe taken from the record -/

theorem clampTo_bounds {lo hi : Nat} (h : lo ≤ hi) (raw : Nat) : lo ≤ clampTo lo hi raw ∧ clampTo lo hi raw ≤ hi := by
  unfold clampTo
  split
  · exact ⟨Nat.le_refl _, h⟩
  · split
    · exact ⟨h, Nat.le_refl _⟩
    · omega

/-- The clamps of R178 to R182 bring every field into its range; the watermark is not clamped (R179). -/
theorem RawRecipe.clamped_inRange {raw : RawRecipe} (h : raw.poolWatermark ≤ 255) : raw.clamped.InRange := by
  have hwb := clampTo_bounds (lo := 1) (hi := 7) (by decide) raw.wb
  have hwi := clampTo_bounds (Nat.zero_le (clampTo 1 7 raw.wb - 1)) raw.wi
  have hbudget := clampTo_bounds (lo := 20) (hi := 1000) (by decide) raw.budget
  obtain ⟨hcellLow, hcellHigh⟩ := clampTo_bounds (lo := 1) (hi := min 60 (clampTo 20 1000 raw.budget)) (by omega) raw.cellCurrent
  have hopen := clampTo_bounds (lo := 0) (hi := 1022) (by decide) raw.contactOpenMax
  obtain ⟨hshortLow, hshortHigh⟩ := clampTo_bounds (lo := clampTo 0 1022 raw.contactOpenMax + 1) (hi := 1023) (by omega) raw.contactShortMin
  have hwarn := clampTo_bounds (lo := 60) (hi := 150) (by decide) raw.thermalWarn
  have hshut := clampTo_bounds (lo := clampTo 60 150 raw.thermalWarn + 10) (hi := 180) (by omega) raw.thermalShutdown
  have hbelow : ∀ hi x, clampTo 0 hi x ≤ hi := fun hi x => (clampTo_bounds (Nat.zero_le hi) x).2
  refine ⟨clampTo_bounds (by decide) _, clampTo_bounds (by decide) _, clampTo_bounds (by decide) _, hbelow _ _, hwb, ?_,
    clampTo_bounds (by decide) _, hbelow _ _, hbelow _ _, hbudget, ⟨hcellLow, ?_, ?_⟩, clampTo_bounds (by decide) _, hbelow _ _,
    clampTo_bounds (by decide) _, clampTo_bounds (by decide) _, hbelow _ _, hshortLow, hshortHigh, hwarn, hshut, h, fun c => ?_⟩
  · show clampTo 0 _ _ < clampTo 1 7 raw.wb
    omega
  · exact hcellHigh.trans (Nat.min_le_left _ _)
  · exact hcellHigh.trans (Nat.min_le_right _ _)
  · show look (Vector.ofFn fun c => clampTo 0 63 (look raw.binMap c)) c ≤ 63
    rw [look_ofFn]
    exact hbelow _ _

/-- The recipe snapshot of any memory gives a working recipe in range: its watermark is one byte (R137, R178 to R182). -/
theorem rawRecipe_clamped_inRange (m : Memory) : (rawRecipe m).clamped.InRange :=
  RawRecipe.clamped_inRange (Nat.le_of_lt_succ (Memory.read m (recipeBase + 0x1E)).isLt)

/-! ### One monitor -/

/-- The shutdown threshold lies at least 10 above the warning threshold, and a set latch comes with a live warning (R99, R102). -/
def Thermal.Ordered (x : Thermal) : Prop := x.warnAt + 10 ≤ x.shutAt ∧ (x.shutLatch = true → x.warnLive = true)

/-- At a reading that keeps or sets the latch the warning is kept or goes live: the latch lets go at 10 below its threshold, where the
warning is set (R101, R102). -/
theorem thermalTest_warns {warn shut : Int} (hgap : warn + 10 ≤ shut) (t : Int) {live latch : Bool} :
    thermalTest shut t latch = true → thermalTest warn t live = true := by
  simp only [thermalTest_eq, Bool.or_eq_true, Bool.and_eq_true, decide_eq_true_eq]
  omega

/-- The thermal thresholds of a recipe in range lie at least 10 apart (R182). -/
theorem Recipe.InRange.thermal_gap {r : Recipe} (h : r.InRange) : (r.thermalWarn : Int) + 10 ≤ r.thermalShutdown := by
  obtain ⟨-, -, -, -, -, -, -, -, -, -, -, -, -, -, -, -, -, -, -, ⟨hgap, -⟩, -⟩ := h
  exact_mod_cast hgap

theorem Monitor.loadThresholds_ordered {r : Recipe} (hr : r.InRange) {m : Monitor} (hm : m.thermal.Ordered) :
    (m.loadThresholds r).thermal.Ordered := by
  obtain ⟨-, hlatch⟩ := hm
  unfold Monitor.loadThresholds
  dsimp only
  split
  · exact ⟨hr.thermal_gap, hlatch⟩
  · exact ⟨hr.thermal_gap, thermalTest_warns hr.thermal_gap _⟩

theorem Monitor.takeReading_ordered {m : Monitor} (hm : m.thermal.Ordered) (running : Bool) (t : Int) :
    (m.takeReading running t).thermal.Ordered := by
  obtain ⟨hgap, -⟩ := hm
  exact ⟨hgap, thermalTest_warns hgap t⟩

theorem Monitor.reset_ordered : Monitor.reset.thermal.Ordered := ⟨by decide, nofun⟩

/-! ### All recipes and all monitors -/

/-- Every working recipe held is in range, and every monitor is ordered. -/
structure State.InOrder (s : State) : Prop where
  recipes : s.RecipesInRange
  monitors : ∀ k, (s.site k).monitor.thermal.Ordered

theorem State.inOrder_iff (s : State) : s.InOrder ↔ s.RecipesInRange ∧ s.MonitorsOrdered :=
  ⟨fun ⟨hrecipes, hmonitors⟩ => ⟨hrecipes, hmonitors⟩, fun ⟨hrecipes, hmonitors⟩ => ⟨hrecipes, hmonitors⟩⟩

/-- A state that holds no recipe and whose sites have their reset values. -/
theorem State.inOrder_of_reset {s : State} (hrecipes : s.sched.recipes = Vector.replicate 4 none)
    (hsites : s.sites = Vector.replicate 16 .reset) : s.InOrder where
  recipes := fun f r hr => by
    rw [hrecipes, look_replicate] at hr
    cases hr
  monitors := fun k => by
    rw [State.site, hsites, look_replicate]
    exact Monitor.reset_ordered

theorem State.RecipesInRange.workingRecipe {s : State} (h : s.RecipesInRange) : s.workingRecipe.InRange := by
  have hzero : zeroRecipe.InRange := rawRecipe_clamped_inRange []
  unfold State.workingRecipe
  split
  · rename_i f _
    cases hr : look s.sched.recipes f with
    | none => exact hzero
    | some r => exact h f r hr
  · exact hzero

/-! ### Writes that bring no recipe and move no test -/

section Writes

variable (s : State)

theorem State.completeClose_thermalView : s.completeClose.thermalView = s.thermalView := by
  rw [State.completeClose_eq]
  rfl

theorem State.idleReport_thermalView : s.idleReport.thermalView = s.thermalView := by
  unfold State.idleReport
  split
  · exact s.completeClose_thermalView
  · rfl

theorem State.takeOpen_thermalView : s.takeOpen.thermalView = s.thermalView := by
  unfold State.takeOpen
  split
  · exact State.raise_thermalView _ s
  · exact State.thermalView_of_kept (by simp only [State.raise_sched, State.store_sched])
      (by simp only [State.raise_sites, State.store_sites])

theorem State.takeClose_thermalView : s.takeClose.thermalView = s.thermalView := by
  unfold State.takeClose
  split
  · split
    · exact s.completeClose_thermalView
    · exact State.thermalView_of_kept (by rw [State.store_sched]) (by rw [State.store_sites])
  · rfl

theorem State.writeWaferState_thermalView (v : Word) : (s.writeWaferState v).thermalView = s.thermalView := by
  unfold State.writeWaferState
  split
  · rfl
  · split
    · exact s.takeOpen_thermalView
    · rfl

theorem State.writeWaferRequest_thermalView (w : WordNo) (v : Word) : (s.writeWaferRequest w v).thermalView = s.thermalView := by
  unfold State.writeWaferRequest
  split
  · exact State.store_thermalView _ _ s
  · rw [State.writeBackClose, State.store_thermalView]
    split
    · exact s.takeClose_thermalView
    · rfl

theorem State.writeData_thermalView (partOwned : Bool) (w : WordNo) (v : Word) :
    (s.writeData partOwned w v).thermalView = s.thermalView := by
  unfold State.writeData
  split
  · rfl
  · exact State.store_thermalView _ _ s

theorem State.takeLoad_thermalView (i : SlotNo) : (s.takeLoad i).thermalView = s.thermalView := by
  unfold State.takeLoad
  split
  · simp only [State.refuseLoad, State.clearDisposition, State.raise_thermalView, State.onPool_thermalView, State.store_thermalView,
      State.setSlot_thermalView]
  · simp only [State.evaluatePool_thermalView, State.acceptLoad, State.clearDisposition, State.onPool_thermalView,
      State.store_thermalView, State.setSlot_thermalView]

theorem State.writeSlotState_thermalView (i : SlotNo) (v : Word) : (s.writeSlotState i v).thermalView = s.thermalView := by
  unfold State.writeSlotState
  split
  · exact s.takeLoad_thermalView i
  · simp only [State.takeReclaim, State.store_thermalView, State.setSlot_thermalView]
  · rw [State.takeWithdraw, State.thermalView_of_sites (State.lowerLoaded_siteWork _) (State.lowerLoaded_sites _),
      State.onPool_thermalView, State.store_thermalView, State.setSlot_thermalView]
  · rfl
  · rfl

end Writes

namespace State.InOrder

variable {s t : State}

theorem of_view (h : s.InOrder) (ht : t.thermalView = s.thermalView) : t.InOrder := by
  have hrecipes : t.sched.recipes = s.sched.recipes := congrArg ThermalView.recipes ht
  have hmonitors : ∀ k, (t.site k).monitor.thermal = (s.site k).monitor.thermal := congrFun (congrArg ThermalView.thermals ht)
  exact ⟨fun f r hr => h.recipes f r (hrecipes ▸ hr), fun k => hmonitors k ▸ h.monitors k⟩

/-- The recipe of one frame is replaced by none or by one in range, and the sites stay. -/
theorem putRecipe (h : s.InOrder) {f : FrameNo} {x : Option Recipe} (hx : ∀ r, x = some r → r.InRange)
    (ht : t.sched.recipes = put s.sched.recipes f x) (hsites : t.sites = s.sites) : t.InOrder where
  recipes := fun g r hr => by
    rw [ht, look_put] at hr
    split at hr
    · exact hx r hr
    · exact h.recipes g r hr
  monitors := fun k => by
    rw [State.site, hsites]
    exact h.monitors k

theorem onEverySite (h : s.InOrder) {f : Site → Site} (hf : ∀ x, x.monitor.thermal.Ordered → (f x).monitor.thermal.Ordered) :
    (s.onEverySite f).InOrder :=
  ⟨h.recipes, fun k => by
    rw [State.onEverySite_site]
    exact hf _ (h.monitors k)⟩

theorem takeReading (h : s.InOrder) (k : SiteNo) (celsius : Int) : (s.takeReading k celsius).InOrder :=
  ⟨h.recipes, fun j => by
    rw [State.takeReading_eq, State.onSite_site]
    split
    · exact Monitor.takeReading_ordered (h.monitors k) _ _
    · exact h.monitors j⟩

/-! ### Starts and hand-backs -/

/-- A start loads thresholds that a working recipe in range gives (R100, R142). -/
theorem loadFrame (h : s.InOrder) (f : FrameNo) (rest : List FrameNo) : (s.loadFrame f rest).InOrder := by
  refine ⟨h.recipes, fun k => ?_⟩
  unfold State.loadFrame
  dsimp only
  rw [State.onPool_site, State.onEverySite_site]
  refine Monitor.loadThresholds_ordered (State.RecipesInRange.workingRecipe ?_) (h.monitors k)
  exact h.recipes

theorem startFrame (h : s.InOrder) (f : FrameNo) (rest : List FrameNo) : (s.startFrame f rest).InOrder :=
  (h.loadFrame f rest).of_view (State.foldl_thermalView (State.handSite_thermalView f _ _) allSites _)

theorem startIfDue (h : s.InOrder) : s.startIfDue.InOrder := by
  unfold State.startIfDue
  split
  · split
    · exact h.startFrame _ _
    · exact h
  · exact h

theorem idleReport (h : s.InOrder) : s.idleReport.InOrder := h.of_view s.idleReport_thermalView

/-- A hand-back discards the frame's recipe and leaves thresholds, warnings and latches (R59, R146). -/
theorem handBackFrame (h : s.InOrder) (f : FrameNo) (kind : Nat) : (s.handBackFrame f kind).InOrder := by
  have hclosed : (s.closeFrame f kind).InOrder := h.putRecipe (f := f) (x := none) nofun
    (by simp only [State.closeFrame, State.raise_sched, State.store_sched])
    (by simp only [State.closeFrame, State.raise_sites, State.store_sites])
  exact (hclosed.onEverySite (f := Site.returnToIdle) fun _ hx => hx).of_view (State.store_thermalView _ _ _)

theorem handBackIfDue (h : s.InOrder) : s.handBackIfDue.InOrder := by
  unfold State.handBackIfDue State.afterHandBack
  split
  · split
    · split
      · exact (h.handBackFrame _ _).idleReport
      · exact (h.handBackFrame _ _).startIfDue
    · exact h
  · exact h

theorem settle (h : s.InOrder) : s.settle.InOrder := by
  unfold State.settle
  generalize s.sched.postList.length + 1 = n
  induction n generalizing s with
  | zero => exact h
  | succ n ih =>
    unfold State.settleFrames
    split
    · exact ih h.handBackIfDue
    · exact h

/-! ### Posts, stops, RUN and resets -/

/-- An accepted post takes the snapshot of its recipe (R137, R138). -/
theorem takePost (h : s.InOrder) (f : FrameNo) : (s.takePost f).InOrder := by
  have hstored : (s.store (frameBase f + 0x004) (bytes32 0)).InOrder := h.of_view (State.store_thermalView _ _ s)
  unfold State.takePost
  dsimp only
  generalize s.store (frameBase f + 0x004) (bytes32 0) = u at hstored ⊢
  split
  · exact hstored.of_view (by simp only [State.rejectPost, State.writeHeader, State.raise_thermalView, State.setFrame_thermalView,
      State.store_thermalView])
  · have haccepted : (u.acceptPost f (rawRecipe u.mem)).InOrder :=
      hstored.putRecipe (f := f) (fun r hr => Option.some.inj hr ▸ rawRecipe_clamped_inRange u.mem)
        (by simp only [State.acceptPost, State.writeHeader, State.store_sched])
        (by simp only [State.acceptPost, State.writeHeader, State.store_sites])
    exact haccepted.startIfDue

theorem cancelFrame (h : s.InOrder) (f : FrameNo) : (s.cancelFrame f).InOrder := h.putRecipe (f := f) (x := none) nofun rfl rfl

theorem writeStopWord (h : s.InOrder) (f : FrameNo) (v : Word) : (s.writeStopWord f v).InOrder := by
  have hstop : (State.writeBackStop f
      (if v = softValue then s.softStopFrame f else if v = hardValue then s.hardStopFrame f else s)).thermalView = s.thermalView := by
    rw [State.writeBackStop, State.store_thermalView]
    split
    · exact State.softStopFrame_thermalView f s
    · split
      · exact State.hardStopFrame_thermalView f s
      · rfl
  unfold State.writeStopWord
  split
  · split
    · have hstored : (s.store (frameBase f + 0x004) (bytes32 v)).InOrder := h.of_view (State.store_thermalView _ _ s)
      unfold State.reportIfIdle
      split
      · exact (hstored.cancelFrame f).idleReport
      · exact hstored.cancelFrame f
    · exact h.of_view (State.store_thermalView _ _ s)
  · exact h.of_view hstop
  · exact h.of_view hstop
  · exact h.of_view (State.store_thermalView _ _ s)

theorem writeRunCtrl (h : s.InOrder) (value : Word) : (s.writeRunCtrl value).InOrder := by
  have hrun : ∀ run, State.InOrder { s with run := run } := fun _ => h.of_view rfl
  unfold State.writeRunCtrl
  split
  · exact h
  · split
    · exact State.inOrder_of_reset rfl rfl
    · split
      · exact h
      · split
        · exact ((hrun true).startIfDue.of_view (State.supplyRunSet_thermalView _)).settle
        · exact ((hrun false).of_view (State.takeRunClear_thermalView _)).settle

theorem registerWrite (h : s.InOrder) (w : WordNo) (value : Word) : (s.registerWrite w value).InOrder := by
  unfold State.registerWrite
  split
  · exact h
  · split
    · exact h.writeRunCtrl value
    · split
      · exact h.of_view rfl
      · split
        · exact h.of_view rfl
        · exact h

/-- Every monitor starts again from its reset values (R176). -/
theorem completeReset (h : s.InOrder) : s.completeReset.InOrder := by
  have hrecipes : s.completeReset.sched.recipes = s.sched.recipes := congrArg ThermalView.recipes (State.idleReport_thermalView _)
  exact ⟨fun f r hr => h.recipes f r (hrecipes ▸ hr), fun k => by
    rw [State.completeReset_site]
    exact Monitor.reset_ordered⟩

/-! ### Tester writes -/

theorem writeFrameState (h : s.InOrder) (f : FrameNo) (v : Word) : (s.writeFrameState f v).InOrder := by
  unfold State.writeFrameState
  split
  · exact h.of_view rfl
  · split
    · exact (h.takePost f).settle
    · split
      · exact h.of_view rfl
      · exact h

end State.InOrder

section Commands

variable {s : State}

theorem State.InOrder.testerWrite (h : s.InOrder) (w : WordNo) (lanes : Lanes) (data : Word) : (s.testerWrite w lanes data).InOrder := by
  unfold State.testerWrite
  split
  · exact h
  · unfold State.takeWrite
    split
    · exact h.of_view rfl
    · exact h.of_view (s.writeWaferState_thermalView _)
    · exact h.of_view (s.writeWaferRequest_thermalView _ _)
    · exact h.of_view (s.writeData_thermalView _ _ _)
    · exact h.of_view (State.store_thermalView _ _ s)
    · exact h.writeFrameState _ _
    · exact (h.writeStopWord _ _).settle
    · exact h.of_view (s.writeData_thermalView _ _ _)
    · exact h.of_view (s.writeSlotState_thermalView _ _)
    · exact h.of_view (s.writeData_thermalView _ _ _)
    · exact h.of_view (s.writeData_thermalView _ _ _)
    · exact h

/-! ### Commands and steps -/

/-- Where a command leads on, P holds. -/
def LeadsTo (P : State → Prop) (r : Host.Outcome State Fault Refusal) : Prop := ∀ t, r = .next t → P t

theorem LeadsTo.next {P : State → Prop} {t : State} (h : P t) : LeadsTo P (.next t) := fun _ hu => Host.Outcome.next.inj hu ▸ h

theorem LeadsTo.ite {P : State → Prop} {p : Prop} [Decidable p] {r r' : Host.Outcome State Fault Refusal} (h : LeadsTo P r)
    (h' : LeadsTo P r') : LeadsTo P (if p then r else r') := by
  split
  · exact h
  · exact h'

/-- An event of a site that leaves the view and may end the frame. -/
theorem State.InOrder.event {t : State} (h : s.InOrder) (ht : t.thermalView = s.thermalView) : LeadsTo State.InOrder (.next t.settle) :=
  .next (h.of_view ht).settle

theorem execReadACompletion_keepsOrder (h : s.InOrder) (k : SiteNo) (codes : LaneCodes) : LeadsTo State.InOrder (execReadACompletion k codes s) := by
  unfold execReadACompletion
  split
  · exact .ite (.next (h.of_view (by rw [State.issueOp_thermalView, State.onSeq_thermalView])))
      (.next (h.of_view (State.dropOp_thermalView k s)))
  · exact .next h

theorem execVerifyCompletion_keepsOrder (h : s.InOrder) (k : SiteNo) (codes : LaneCodes) :
    LeadsTo State.InOrder (execVerifyCompletion k codes s) := by
  unfold execVerifyCompletion
  split
  · exact .ite (h.event (by rw [State.afterVerify_thermalView, State.recordVerify_thermalView]))
      (.next (h.of_view (State.dropOp_thermalView k s)))
  · exact .next h

theorem execKeyDraw_keepsOrder (h : s.InOrder) : LeadsTo State.InOrder (execKeyDraw s) := by
  unfold execKeyDraw
  split
  · exact .next h
  · split
    · exact .next h
    · exact .next (h.of_view (by rw [State.takeKeyGrant_thermalView, State.draw_thermalView ‹_›]))

/-- Every command keeps the recipes in range and the monitors ordered (R100 to R102, R178 to R182). -/
theorem exec_keepsOrder (c : Instr) (h : s.InOrder) : LeadsTo State.InOrder (exec c s) := by
  cases c with
  | powerOnReset => exact .next (State.inOrder_of_reset rfl rfl)
  | initialisationEnd | idleTimerExpiry | supplyGoodEvent => exact .ite (.next (h.of_view rfl)) (.next h)
  | runSet value | runClear value | softReset value | attnWrite value | attnEnWrite value | registerWriteOther _ value =>
    exact .next (h.registerWrite _ value)
  | softResetCompletion => exact .ite (.next h.completeReset) (.next h)
  | post _ lanes | release _ lanes | softStop _ lanes | hardStop _ lanes | load _ lanes | reclaim _ lanes | withdraw _ lanes
  | openWafer lanes | closeWafer lanes | watchedWordNoRequest _ lanes _ | dataWordWrite _ lanes _
  | droppedWatchedWordWrite _ lanes _ => exact .next (h.testerWrite _ lanes _)
  | frameStart => exact .next h.startIfDue.settle
  | handBack => exact .next h.settle
  | closeCompletion => exact .ite (.next h.idleReport) (.next h)
  | contactSample k code => exact .ite (.next (h.of_view (State.takeSample_thermalView k code s))) (.next h)
  | contactTimerExpiry k | keyWaitExpiry k => exact .ite (h.event (State.endSite_thermalView k _ s)) (.next h)
  | referenceReadCompletion k o b =>
    exact .ite (.ite (h.event (by rw [State.afterRefs_thermalView, State.recordRefs_thermalView]))
      (.next (h.of_view (State.dropOp_thermalView k s)))) (.next h)
  | readACompletion k codes => exact execReadACompletion_keepsOrder h k codes
  | verifyCompletion k codes => exact execVerifyCompletion_keepsOrder h k codes
  | keyDraw => exact execKeyDraw_keepsOrder h
  | budgetGrant => exact .next (h.of_view s.evaluate_thermalView)
  | pulseCompletion k sample =>
    exact .ite (h.event (by rw [State.takeSort_thermalView, State.completePulse_thermalView])) (.next h)
  | overcurrentEvent k sample =>
    exact .ite (.ite (h.event (by rw [State.endSite_thermalView, State.truncatePulse_thermalView]))
      (.next (h.of_view (State.onMonitor_thermalView rfl)))) (.next h)
  | thermalReading k celsius =>
    exact .ite ((h.takeReading k _).event (State.thermalEvent_thermalView k _)) (.next (h.takeReading k _))
  | settleTimerExpiry | wakeTimerExpiry => exact .ite (.next (h.of_view s.enterReady_thermalView)) (.next h)
  | undervoltageEvent => exact .ite (.next (h.of_view s.enterHold_thermalView)) (.next h)
  | holdExpiry => exact .ite (h.event s.expireHold_thermalView) (.next h)
  | offPendingCompletion => exact .next (h.of_view s.completeOffPending_thermalView)

/-- Every step keeps the recipes in range and the monitors ordered. -/
theorem step_keepsOrder (h : s.InOrder) : LeadsTo State.InOrder (step s) := by
  unfold step
  split
  · exact .next h
  · exact exec_keepsOrder _ (h.of_view rfl)

end Commands

/-- Settles O8: only a post brings a recipe, through the clamps, and only a start, a reading and a reset move a temperature test; at each of
them the two tests are set from thresholds at least 10 apart. -/
theorem stepKeepsRecipesAndMonitorsInRange : Obligations.StepKeepsRecipesAndMonitorsInRange := fun s t hrecipes hmonitors hstep =>
  t.inOrder_iff.1 (step_keepsOrder (s.inOrder_iff.2 ⟨hrecipes, hmonitors⟩) t hstep)

end Sys2Proof.Machine

/-!
PROOF. The power-on values meet the invariants, and the completion of a soft reset: O3 and O20.
-/

namespace Sys2Proof.Machine

/-! ### Power-on reset -/

theorem reset_frameState (f : FrameNo) : State.reset.frameState f = .free := look_replicate _ f

theorem reset_slotState (i : SlotNo) : State.reset.slotState i = .empty := look_replicate _ i

theorem reset_site (k : SiteNo) : State.reset.site k = .reset := look_replicate _ k

theorem reset_key (k : SiteNo) : (State.reset.site k).seq.key = none := by
  rw [reset_site]
  rfl

/-- After power-on every frame is FREE, so that none is queued, runs or holds a recipe (R133, R174). -/
theorem reset_framesCoherent : State.reset.FramesCoherent := by
  refine ⟨List.nodup_nil, fun f => ?_, fun f => ?_, fun f => ?_, fun _ => ⟨rfl, rfl⟩⟩
  · rw [reset_frameState]
    exact iff_of_false List.not_mem_nil nofun
  · rw [reset_frameState]
    exact iff_of_false nofun (not_or.2 ⟨nofun, nofun⟩)
  · rw [reset_frameState, State.reset, Scheduler.reset, look_replicate]
    rfl

/-- After power-on every slot is EMPTY, and no site holds a key or waits for one (R113, R114, R174). -/
theorem reset_poolCoherent : State.reset.PoolCoherent := by
  refine ⟨?_, List.nodup_nil, nofun, fun k h hkey => ?_, fun j k h h' _ hkey => ?_, fun _ => rfl⟩
  · refine (List.countP_eq_zero.2 fun i _ => ?_).symm
    rw [reset_slotState]
    decide
  · rw [reset_key] at hkey
    cases hkey
  · rw [reset_key] at hkey
    cases hkey

theorem reset_drawnWiped : State.reset.DrawnWiped := fun i hdrawn => by
  rw [reset_slotState] at hdrawn
  cases hdrawn

theorem reset_keysNonzero : State.reset.KeysNonzero := by
  refine ⟨fun i hloaded => ?_, fun k h hkey => ?_⟩
  · rw [reset_slotState] at hloaded
    cases hloaded
  · rw [reset_key] at hkey
    cases hkey

/-- Settles O3: every block at its reset values, invariant by invariant. -/
theorem resetMeetsTheInvariants : Obligations.ResetMeetsTheInvariants := by
  obtain ⟨hrecipes, hmonitors⟩ := State.reset.inOrder_iff.1 (State.inOrder_of_reset rfl rfl)
  obtain ⟨hbudget, hstops⟩ := (State.reset.coherent_iff True).1 (State.coherent_of_reset True rfl rfl rfl)
  exact ⟨Memory.wf_reset, reset_framesCoherent, reset_poolCoherent, reset_drawnWiped, reset_keysNonzero, hrecipes, hmonitors, hbudget,
    hstops trivial⟩

/-! ### The completion of a soft reset -/

section Completion

variable {s : State}

/-- A soft reset is settled when every site is IDLE, no frame runs or waits and the pump is OFF (R176). -/
theorem State.resetSettled_iff (s : State) : s.resetSettled = true ↔
    (∀ k, (s.site k).seq.state = .idle) ∧ s.sched.running = none ∧ s.sched.postList = [] ∧ s.supply.pump = .off := by
  simp only [State.resetSettled, Scheduler.isIdle, Bool.and_eq_true, List.all_eq_true, mem_allSites, forall_const, beq_iff_eq,
    Option.isNone_iff_eq_none, List.isEmpty_iff, and_assoc]

/-- The state in which a completed soft reset makes its idle report: RESET_DONE alone, and every monitor at its reset values (R176). -/
def State.resetDone (s : State) : State :=
  { s with attn := 0x400#11, softReset := false, sites := Vector.ofFn fun k => { s.site k with monitor := .reset } }

theorem State.completeReset_eq (s : State) : s.completeReset = s.resetDone.idleReport := by
  have hattn : (0 : BitVec 11) ||| Cause.resetDone.mask = 0x400#11 := by decide
  simp only [State.completeReset, State.raise, State.onEverySite, State.resetDone, hattn]

/-- WAFER_CLOSED beside RESET_DONE (R155, R172). -/
theorem State.resetDone_attn_waferClosed (s : State) : s.resetDone.attn ||| 0x008#11 = 0x408#11 := by
  show 0x400#11 ||| 0x008#11 = _
  decide

theorem exec_softResetCompletion (hreset : s.softReset = true) (hsettled : s.resetSettled = true) :
    exec .softResetCompletion s = .next s.completeReset := if_pos (by rw [hreset, hsettled]; rfl)

theorem exec_softResetCompletion_early (h : ¬(s.softReset = true ∧ s.resetSettled = true)) :
    exec .softResetCompletion s = .next s := if_neg (by rwa [Bool.and_eq_true])

/-- With no close waiting, the completion is what the reset itself does. -/
theorem State.completeReset_of_not_closing (h : s.wafer ≠ .closing) : s.completeReset = s.resetDone := by
  rw [State.completeReset_eq]
  exact if_neg h

/-- A close that waited for the reset completes with it (R155, R156). -/
theorem State.completeReset_of_closing (h : s.wafer = .closing) : s.completeReset = s.resetDone.completeClose := by
  rw [State.completeReset_eq]
  exact if_pos h

theorem State.completeReset_showsSummary (h : s.wafer = .closing) : s.ShowsSummary s.completeReset := by
  rw [State.completeReset_of_closing h]
  exact s.resetDone.completeClose_showsSummary.of_map fun _ _ => rfl

end Completion

/-- Settles O20: the reset itself, then the close that may have waited for it; and a reset that is not settled does not complete. -/
theorem softResetCompletionRaisesResetDone : Obligations.SoftResetCompletionRaisesResetDone := by
  refine fun s => ⟨fun hreset hidle hrunning hlist hpump => ?_, fun hearly => ?_⟩
  · have hexec := exec_softResetCompletion hreset (s.resetSettled_iff.2 ⟨hidle, hrunning, hlist, hpump⟩)
    refine ⟨_, hexec, s.completeReset_site, fun hopen => ?_, fun hclosing => ⟨?_, State.completeReset_showsSummary hclosing, fun a ha => ?_⟩⟩
    · rw [State.completeReset_of_not_closing hopen]
      rfl
    · rw [State.completeReset_of_closing hclosing, State.completeClose_eq, State.resetDone_attn_waferClosed]
      rfl
    · rw [State.completeReset_of_closing hclosing]
      exact s.resetDone.read_closeMem_other ha
  · refine exec_softResetCompletion_early fun ⟨hreset, hsettled⟩ => ?_
    obtain ⟨hidle, hrunning, hlist, hpump⟩ := s.resetSettled_iff.1 hsettled
    obtain h | ⟨k, h⟩ | h | h | h := hearly
    · rw [hreset] at h
      cases h
    · exact h (hidle k)
    · exact h hrunning
    · exact h hlist
    · exact h hpump

end Sys2Proof.Machine

/-!
PROOF. The keys of the part as one view, and the moves that everything the part does with keys is made of (R113 to R132): what each move
keeps of the pool's counts and claims, of the wiped slots and of the keys that are not zero.
-/

namespace Sys2Proof.Machine

/-! ### The keys of the part -/

/-- The slots with their key value fields, the pool's lists and counts, the keys that sites hold, the key grants that are drawn and not yet
taken, and the causes recorded. -/
structure KeyView where
  attn : BitVec 11
  bytes : SlotNo → Fin 32 → Byte
  slots : Vector SlotState 256
  redraw : List SlotNo
  loadedCount : Nat
  highMark : Word
  waiting : Vector (Option KeyLength) 16
  keys : SiteNo → Option KeyHeld
  grants : List KeyGrant

/-- The view of a state whose key grants gs are still to be taken. -/
def State.keyView (s : State) (gs : List KeyGrant) : KeyView where
  attn := s.attn
  bytes := fun i n => Memory.read s.mem (slotBase i + 0x20 + n.val)
  slots := s.pool.slots
  redraw := s.pool.redraw
  loadedCount := s.pool.loadedCount
  highMark := s.pool.highMark
  waiting := s.pool.waiting
  keys := fun k => (s.site k).seq.key
  grants := gs

/-! ### The moves -/

/-- A slot is drawn for site k: the head of the redraw list, or a LOADED slot while that list is empty. Its key goes into a grant and its
key field is wiped (R122, R123). -/
inductive KeyDraw : KeyView → KeyView → Prop where
  | draw (v : KeyView) (k : SiteNo) (g : KeyGrant) (rest : List SlotNo) (raised : BitVec 11)
      (hchosen : v.redraw = g.slot :: rest ∨ (v.redraw = [] ∧ rest = [] ∧ look v.slots g.slot = .loaded))
      (hbuffer : ∀ n : Fin 32, n.val < 16 → g.buffer[n.val]? = some (v.bytes g.slot n)) :
      KeyDraw v { v with
        attn := v.attn ||| raised, bytes := Function.update v.bytes g.slot fun _ => 0, slots := put v.slots g.slot .drawn
        redraw := rest, loadedCount := v.loadedCount - 1, waiting := put v.waiting k none, grants := v.grants ++ [g] }

/-- A key comes into the pool: an unpulsed key goes back to its slot (R128), or a load is accepted (R117). -/
inductive KeyFill : KeyView → KeyView → Prop where
  | back (v : KeyView) (k : SiteNo) (h : KeyHeld) (b : Fin 32 → Byte) (hkey : v.keys k = some h)
      (hb : ∀ (n : Fin 32) (x : Byte), h.buffer[n.val]? = some x → b n = x) :
      KeyFill v { v with
        bytes := Function.update v.bytes h.slot b, slots := put v.slots h.slot .loaded, redraw := v.redraw ++ [h.slot]
        loadedCount := v.loadedCount + 1, keys := Function.update v.keys k none }
  | load (v : KeyView) (i : SlotNo) (serial : Word) (howner : (look v.slots i).partOwned = false)
      (hkey : ∃ n : Fin 32, n.val < 16 ∧ v.bytes i n ≠ 0) (hserial : v.highMark < serial) :
      KeyFill v { v with slots := put v.slots i .loaded, loadedCount := v.loadedCount + 1, highMark := serial }

/-- While a site waits for a key no slot is drawable (R120, R121). -/
def KeyView.Dry (v : KeyView) : Prop := (∃ k, look v.waiting k ≠ none) → v.redraw = [] ∧ ∀ i, look v.slots i ≠ .loaded

/-- What the part does with keys, one move at a time. -/
inductive KeyMove : KeyView → KeyView → Prop where
  | raise (v : KeyView) (raised : BitVec 11) : KeyMove v { v with attn := v.attn ||| raised }
  /-- Draw requests are withdrawn (R124). -/
  | unwait (v : KeyView) (w : Vector (Option KeyLength) 16) (hw : ∀ k, look w k = look v.waiting k ∨ look w k = none) :
      KeyMove v { v with waiting := w }
  /-- A draw request waits, no slot being drawable (R120). -/
  | wait (v : KeyView) (k : SiteNo) (len : KeyLength) (hdry : v.redraw = [] ∧ ∀ i, look v.slots i ≠ .loaded) :
      KeyMove v { v with waiting := put v.waiting k (some len) }
  /-- Sites return to IDLE or are reset (R33, R59). -/
  | letGo (v : KeyView) (keys : SiteNo → Option KeyHeld) (hkeys : ∀ k, keys k = v.keys k ∨ keys k = none) :
      KeyMove v { v with keys := keys }
  | draw {v w : KeyView} (hdraw : KeyDraw v w) : KeyMove v w
  /-- The site takes its key grant (R40). -/
  | take (v : KeyView) (g : KeyGrant) (gs : List KeyGrant) (hgrants : v.grants = g :: gs) :
      KeyMove v { v with
        keys := Function.update v.keys g.site (some { slot := g.slot, serial := g.serial, buffer := g.buffer }), grants := gs }
  /-- A key is bound or voided (R129). -/
  | spend (v : KeyView) (k : SiteNo) (h : KeyHeld) (x : SlotState) (hkey : v.keys k = some h) (hx : x.partOwned = false) :
      KeyMove v { v with slots := put v.slots h.slot x, keys := Function.update v.keys k none }
  /-- A key comes into the pool, and the waiting sites are served as far as it goes (R121, R128). -/
  | fill {v u w : KeyView} (hfill : KeyFill v u) (hdraws : Relation.ReflTransGen KeyDraw u w) (hdry : w.Dry) : KeyMove v w
  /-- A tester-owned slot is written, refused or reclaimed (R115, R116, R118). -/
  | rewrite (v : KeyView) (i : SlotNo) (x : SlotState) (b : Fin 32 → Byte) (howner : (look v.slots i).partOwned = false)
      (hx : x.partOwned = false) : KeyMove v { v with bytes := Function.update v.bytes i b, slots := put v.slots i x }
  /-- A LOADED slot is taken back (R119). -/
  | withdraw (v : KeyView) (i : SlotNo) (b : Fin 32 → Byte) (raised : BitVec 11) (hloaded : look v.slots i = .loaded) :
      KeyMove v { v with
        attn := v.attn ||| raised, bytes := Function.update v.bytes i b, slots := put v.slots i .empty
        redraw := v.redraw.filter fun j => j != i, loadedCount := v.loadedCount - 1 }

/-- Any number of moves. -/
abbrev KeyMoves : KeyView → KeyView → Prop := Relation.ReflTransGen KeyMove

/-- What every move keeps, any number of moves keep. -/
theorem KeyMoves.keeps {P : KeyView → Prop} (hmove : ∀ {v w}, KeyMove v w → P v → P w) {v w : KeyView} (h : KeyMoves v w) (hv : P v) :
    P w := by
  induction h with
  | refl => exact hv
  | tail _ hlast ih => exact hmove hlast ih

/-- What every draw keeps, any number of draws keep. -/
theorem KeyDraw.keeps {P : KeyView → Prop} (hdraw : ∀ {v w}, KeyDraw v w → P v → P w) {v w : KeyView}
    (h : Relation.ReflTransGen KeyDraw v w) (hv : P v) : P w := by
  induction h with
  | refl => exact hv
  | tail _ hlast ih => exact hdraw hlast ih

/-! ### Causes and the high mark (R114, R117, R172) -/

/-- Every cause recorded stays recorded, and the high mark does not fall. -/
structure KeyView.Rises (v w : KeyView) : Prop where
  highMark : v.highMark ≤ w.highMark
  attn : ∀ i, v.attn.getLsbD i = true → w.attn.getLsbD i = true

theorem KeyView.Rises.trans {u v w : KeyView} (h : u.Rises v) (h' : v.Rises w) : u.Rises w :=
  ⟨BitVec.le_trans h.highMark h'.highMark, fun i hi => h'.attn i (h.attn i hi)⟩

theorem KeyView.rises_of_kept {v w : KeyView} (hmark : w.highMark = v.highMark) (hattn : w.attn = v.attn) : v.Rises w :=
  ⟨by rw [hmark]; exact BitVec.le_refl _, fun i hi => by rwa [hattn]⟩

theorem KeyView.rises_of_raised {v w : KeyView} {raised : BitVec 11} (hmark : w.highMark = v.highMark) (hattn : w.attn = v.attn ||| raised) :
    v.Rises w :=
  ⟨by rw [hmark]; exact BitVec.le_refl _, fun i hi => by rw [hattn, BitVec.getLsbD_or, hi, Bool.true_or]⟩

theorem KeyDraw.rises {v w : KeyView} (h : KeyDraw v w) : v.Rises w := by
  cases h
  exact KeyView.rises_of_raised rfl rfl

theorem KeyFill.rises {v w : KeyView} (h : KeyFill v w) : v.Rises w := by
  cases h with
  | back => exact KeyView.rises_of_kept rfl rfl
  | load i serial howner hkey hserial => exact ⟨BitVec.le_of_lt hserial, fun _ hi => hi⟩

/-- No move clears a cause, and only an accepted load moves the high mark, upward (R117, R172). -/
theorem KeyMove.rises {v w : KeyView} (h : KeyMove v w) : v.Rises w := by
  cases h with
  | raise raised | withdraw i b raised => exact KeyView.rises_of_raised rfl rfl
  | unwait | wait | letGo | take | spend | rewrite => exact KeyView.rises_of_kept rfl rfl
  | draw hdraw => exact hdraw.rises
  | fill hfill hdraws => exact KeyDraw.keeps (P := v.Rises) (fun hdraw hv => hv.trans hdraw.rises) hdraws hfill.rises

theorem KeyMoves.rises {v w : KeyView} (h : KeyMoves v w) : v.Rises w :=
  h.keeps (P := v.Rises) (fun hmove hv => hv.trans hmove.rises) (KeyView.rises_of_kept rfl rfl)

/-! ### One slot after the other -/

/-- A fact about every slot in one of the states q, after one slot has been put into state x with bytes b. -/
theorem forall_slots_put {slots : Vector SlotState 256} {bytes : SlotNo → Fin 32 → Byte} {q : SlotState} {P : (Fin 32 → Byte) → Prop}
    (h : ∀ j, look slots j = q → P (bytes j)) {i : SlotNo} {x : SlotState} {b : Fin 32 → Byte} (hi : x = q → P b) :
    ∀ j, look (put slots i x) j = q → P (Function.update bytes i b j) := by
  intro j hj
  by_cases hij : i = j
  · subst hij
    rw [look_put_same] at hj
    rw [Function.update_self]
    exact hi hj
  · rw [look_put_other _ _ _ _ hij] at hj
    rw [Function.update_of_ne (Ne.symm hij)]
    exact h j hj

/-! ### Wiped slots (R123) -/

/-- The key field of every DRAWN slot reads as zero. -/
def KeyView.Wiped (v : KeyView) : Prop := ∀ i, look v.slots i = .drawn → ∀ n, v.bytes i n = 0

theorem KeyDraw.wiped {v w : KeyView} (h : KeyDraw v w) (hv : v.Wiped) : w.Wiped := by
  cases h
  exact forall_slots_put (P := fun b => ∀ n, b n = 0) hv fun _ _ => rfl

/-- A slot whose key comes into the pool is LOADED. -/
theorem KeyFill.wiped {v w : KeyView} (h : KeyFill v w) (hv : v.Wiped) : w.Wiped := by
  cases h with
  | back => exact forall_slots_put (P := fun b => ∀ n, b n = 0) hv nofun
  | load i =>
    have hput := forall_slots_put (P := fun b => ∀ n, b n = 0) hv (i := i) (x := .loaded) (b := v.bytes i) nofun
    rwa [Function.update_eq_self] at hput

theorem SlotState.ne_drawn {x : SlotState} (h : x.partOwned = false) : x ≠ .drawn := fun hx => by
  rw [hx] at h
  cases h

theorem SlotState.ne_loaded {x : SlotState} (h : x.partOwned = false) : x ≠ .loaded := fun hx => by
  rw [hx] at h
  cases h

/-- Every move that leaves a slot DRAWN leaves it wiped: it is the draw itself, or it does not touch the slot (R123). -/
theorem KeyMove.wiped {v w : KeyView} (h : KeyMove v w) (hv : v.Wiped) : w.Wiped := by
  cases h with
  | raise | unwait | wait | letGo | take => exact hv
  | draw hdraw => exact hdraw.wiped hv
  | spend k held x hkey hx =>
    have hput := forall_slots_put (P := fun b => ∀ n, b n = 0) hv (i := held.slot) (b := v.bytes held.slot)
      fun h => absurd h (SlotState.ne_drawn hx)
    rwa [Function.update_eq_self] at hput
  | fill hfill hdraws => exact KeyDraw.keeps KeyDraw.wiped hdraws (hfill.wiped hv)
  | rewrite i x b howner hx => exact forall_slots_put (P := fun b => ∀ n, b n = 0) hv fun h => absurd h (SlotState.ne_drawn hx)
  | withdraw => exact forall_slots_put (P := fun b => ∀ n, b n = 0) hv nofun

/-! ### The dry pool (R120, R121) -/

theorem KeyView.dry_of_no_waiter {v : KeyView} (h : ∀ k, look v.waiting k = none) : v.Dry := fun ⟨k, hk⟩ => absurd (h k) hk

/-- Where nothing more waits and nothing more is drawable than before, the pool stays dry. -/
theorem KeyView.Dry.of_less {v w : KeyView} (h : v.Dry) (hwaiting : ∀ k, look w.waiting k ≠ none → look v.waiting k ≠ none)
    (hredraw : v.redraw = [] → w.redraw = []) (hslots : ∀ i, look w.slots i = .loaded → look v.slots i = .loaded) : w.Dry :=
  fun ⟨k, hk⟩ =>
    have ⟨hempty, hnone⟩ := h ⟨k, hwaiting k hk⟩
    ⟨hredraw hempty, fun i hi => hnone i (hslots i hi)⟩

/-- Putting a slot into another state than LOADED makes no slot drawable. -/
theorem loaded_of_put {slots : Vector SlotState 256} {i j : SlotNo} {x : SlotState} (hx : x ≠ .loaded)
    (h : look (put slots i x) j = .loaded) : look slots j = .loaded := by
  rw [look_put] at h
  split at h
  · exact absurd h hx
  · exact h

/-- A draw from a dry pool finds no site waiting. -/
theorem KeyDraw.dry {v w : KeyView} (h : KeyDraw v w) (hv : v.Dry) : w.Dry := by
  cases h with
  | draw k g rest raised hchosen =>
    refine KeyView.dry_of_no_waiter fun j => ?_
    show look (put v.waiting k none) j = none
    rw [look_put]
    split
    · rfl
    · by_contra hj
      obtain ⟨hempty, hnone⟩ := hv ⟨j, hj⟩
      obtain hhead | ⟨-, -, hloaded⟩ := hchosen
      · rw [hempty] at hhead
        cases hhead
      · exact hnone _ hloaded

theorem KeyMove.dry {v w : KeyView} (h : KeyMove v w) (hv : v.Dry) : w.Dry := by
  cases h with
  | raise | letGo | take => exact hv
  | unwait u hu =>
    refine hv.of_less (fun k hk => ?_) (fun h => h) fun _ h => h
    obtain hsame | hnone := hu k
    · rwa [← hsame]
    · exact absurd hnone hk
  | wait k len hdry => exact fun _ => hdry
  | draw hdraw => exact hdraw.dry hv
  | spend k held x hkey hx => exact hv.of_less (fun _ h => h) (fun h => h) fun _ h => loaded_of_put (SlotState.ne_loaded hx) h
  | fill hfill hdraws hdry => exact hdry
  | rewrite i x b howner hx => exact hv.of_less (fun _ h => h) (fun h => h) fun _ h => loaded_of_put (SlotState.ne_loaded hx) h
  | withdraw i =>
    refine hv.of_less (fun _ h => h) (fun h => ?_) fun _ h => loaded_of_put (x := .empty) nofun h
    show v.redraw.filter _ = []
    rw [h, List.filter_nil]

/-! ### Counts and claims (R123, R130, R131) -/

/-- Number of LOADED slots. -/
def loadedIn (slots : Vector SlotState 256) : Nat := (List.finRange 256).countP fun i => look slots i == .loaded

/-- What putting a slot into a state does to the number of LOADED slots. -/
theorem loadedIn_put (slots : Vector SlotState 256) (i : SlotNo) (x : SlotState) :
    loadedIn (put slots i x) + (if look slots i = .loaded then 1 else 0) = loadedIn slots + if x = .loaded then 1 else 0 := by
  suffices h : ∀ l : List SlotNo, l.Nodup →
      (l.countP fun j => look (put slots i x) j == .loaded) + (if i ∈ l then if look slots i = .loaded then 1 else 0 else 0)
        = (l.countP fun j => look slots j == .loaded) + if i ∈ l then if x = .loaded then 1 else 0 else 0 by
    simpa [loadedIn] using h (List.finRange 256) (List.nodup_finRange 256)
  intro l
  induction l with
  | nil => exact fun _ => rfl
  | cons j l ih =>
    intro hl
    obtain ⟨hj, hl⟩ := List.nodup_cons.1 hl
    have hrest := ih hl
    by_cases hij : i = j
    · subst hij
      simp only [hj, if_false, Nat.add_zero] at hrest
      simp only [List.countP_cons, look_put_same, List.mem_cons, true_or, if_true, hrest, beq_iff_eq]
      omega
    · simp only [List.countP_cons, look_put_other _ _ _ _ hij, List.mem_cons, hij, false_or]
      omega

theorem loadedIn_fill {slots : Vector SlotState 256} {i : SlotNo} (hi : look slots i ≠ .loaded) :
    loadedIn (put slots i .loaded) = loadedIn slots + 1 := by
  have h := loadedIn_put slots i .loaded
  rwa [if_neg hi, if_pos rfl] at h

theorem loadedIn_unload {slots : Vector SlotState 256} {i : SlotNo} {x : SlotState} (hi : look slots i = .loaded) (hx : x ≠ .loaded) :
    loadedIn (put slots i x) = loadedIn slots - 1 := by
  have h := loadedIn_put slots i x
  rw [if_pos hi, if_neg hx] at h
  omega

theorem loadedIn_other {slots : Vector SlotState 256} {i : SlotNo} {x : SlotState} (hi : look slots i ≠ .loaded) (hx : x ≠ .loaded) :
    loadedIn (put slots i x) = loadedIn slots := by
  have h := loadedIn_put slots i x
  rwa [if_neg hi, if_neg hx] at h

/-- The keys that sites hold and the key grants still to be taken come from distinct DRAWN slots (R123). -/
structure KeyClaims (slots : Vector SlotState 256) (keys : SiteNo → Option KeyHeld) (grants : List KeyGrant) : Prop where
  held : ∀ k h, keys k = some h → look slots h.slot = .drawn
  granted : ∀ g ∈ grants, look slots g.slot = .drawn
  heldApart : ∀ j k h h', j ≠ k → keys j = some h → keys k = some h' → h.slot ≠ h'.slot
  grantsApart : (grants.map KeyGrant.slot).Nodup
  apart : ∀ k h, keys k = some h → ∀ g ∈ grants, h.slot ≠ g.slot

/-- Nothing is claimed of slot i. -/
structure Unclaimed (keys : SiteNo → Option KeyHeld) (grants : List KeyGrant) (i : SlotNo) : Prop where
  keys : ∀ k h, keys k = some h → h.slot ≠ i
  grants : ∀ g ∈ grants, g.slot ≠ i

/-- Sites keep their keys or let go of them. -/
theorem update_none_keeps (keys : SiteNo → Option KeyHeld) (k j : SiteNo) :
    Function.update keys k none j = keys j ∨ Function.update keys k none j = none := by
  by_cases hj : j = k
  · exact .inr (by rw [hj, Function.update_self])
  · exact .inl (Function.update_of_ne hj _ _)

namespace KeyClaims

variable {slots : Vector SlotState 256} {keys keys' : SiteNo → Option KeyHeld} {grants : List KeyGrant} {i : SlotNo}

theorem unclaimed (c : KeyClaims slots keys grants) (hi : look slots i ≠ .drawn) : Unclaimed keys grants i where
  keys := fun k h hkey heq => hi (heq ▸ c.held k h hkey)
  grants := fun g hg heq => hi (heq ▸ c.granted g hg)

theorem put (c : KeyClaims slots keys grants) (hi : Unclaimed keys grants i) (x : SlotState) :
    KeyClaims (Sys2Proof.put slots i x) keys grants where
  held := fun k h hkey => by rw [look_put_other _ _ _ _ (hi.keys k h hkey).symm, c.held k h hkey]
  granted := fun g hg => by rw [look_put_other _ _ _ _ (hi.grants g hg).symm, c.granted g hg]
  heldApart := c.heldApart
  grantsApart := c.grantsApart
  apart := c.apart

theorem letGo (c : KeyClaims slots keys grants) (hkeys : ∀ k, keys' k = keys k ∨ keys' k = none) : KeyClaims slots keys' grants := by
  have hold : ∀ k h, keys' k = some h → keys k = some h := fun k h hkey => by
    obtain hsame | hnone := hkeys k
    · rwa [← hsame]
    · rw [hnone] at hkey
      cases hkey
  exact ⟨fun k h hkey => c.held k h (hold k h hkey), c.granted,
    fun j k h h' hjk hj hk => c.heldApart j k h h' hjk (hold j h hj) (hold k h' hk), c.grantsApart,
    fun k h hkey => c.apart k h (hold k h hkey)⟩

/-- The slot of a key that a site lets go of is claimed by nobody else. -/
theorem released (c : KeyClaims slots keys grants) {k : SiteNo} {h : KeyHeld} (hkey : keys k = some h) :
    Unclaimed (Function.update keys k none) grants h.slot where
  keys := fun j h' hj => by
    by_cases hjk : j = k
    · rw [hjk, Function.update_self] at hj
      cases hj
    · rw [Function.update_of_ne hjk] at hj
      exact c.heldApart j k h' h hjk hj hkey
  grants := fun g hg => (c.apart k h hkey g hg).symm

/-- A slot that nobody claims is drawn for a grant. -/
theorem draw (c : KeyClaims slots keys grants) {g : KeyGrant} (hg : Unclaimed keys grants g.slot) :
    KeyClaims (Sys2Proof.put slots g.slot .drawn) keys (grants ++ [g]) where
  held := (c.put hg .drawn).held
  granted := fun g' hg' => by
    obtain hold | hnew := List.mem_append.1 hg'
    · exact (c.put hg .drawn).granted g' hold
    · rw [List.mem_singleton.1 hnew, look_put_same]
  heldApart := c.heldApart
  grantsApart := by
    rw [List.map_append, List.nodup_append]
    refine ⟨c.grantsApart, List.nodup_singleton _, fun a ha b hb => ?_⟩
    obtain ⟨g', hg', rfl⟩ := List.mem_map.1 ha
    rw [List.map_singleton, List.mem_singleton] at hb
    exact hb ▸ hg.grants g' hg'
  apart := fun k h hkey g' hg' => by
    obtain hold | hnew := List.mem_append.1 hg'
    · exact c.apart k h hkey g' hold
    · exact List.mem_singleton.1 hnew ▸ hg.keys k h hkey

/-- The claim of a grant becomes the claim of its site. -/
theorem take {g : KeyGrant} {gs : List KeyGrant} (c : KeyClaims slots keys (g :: gs)) :
    KeyClaims slots (Function.update keys g.site (some { slot := g.slot, serial := g.serial, buffer := g.buffer })) gs := by
  have hnodup := List.nodup_cons.1 c.grantsApart
  refine ⟨fun k h hkey => ?_, fun g' hg' => c.granted g' (.tail _ hg'), fun j k h h' hjk hj hk => ?_, hnodup.2, fun k h hkey g' hg' => ?_⟩
  · rw [Function.update_apply] at hkey
    split at hkey
    · cases hkey
      exact c.granted g (.head _)
    · exact c.held k h hkey
  · rw [Function.update_apply] at hj hk
    split at hj <;> split at hk
    · rename_i hjg hkg
      exact absurd (hjg.trans hkg.symm) hjk
    · cases hj
      exact (c.apart k h' hk g (.head _)).symm
    · cases hk
      exact c.apart j h hj g (.head _)
    · exact c.heldApart j k h h' hjk hj hk
  · rw [Function.update_apply] at hkey
    split at hkey
    · cases hkey
      exact fun heq => hnodup.1 (List.mem_map.2 ⟨g', hg', heq.symm⟩)
    · exact c.apart k h hkey g' (.tail _ hg')

end KeyClaims

/-- loaded_count is the number of LOADED slots, the redraw list holds distinct LOADED slots, and every key held or granted comes from a DRAWN
slot of its own (R123, R130, R131). -/
structure KeyView.Sound (v : KeyView) : Prop where
  count : v.loadedCount = loadedIn v.slots
  distinct : v.redraw.Nodup
  redrawn : ∀ i ∈ v.redraw, look v.slots i = .loaded
  claims : KeyClaims v.slots v.keys v.grants

/-- The redraw list after a slot that it does not hold has changed. -/
theorem redrawn_put {slots : Vector SlotState 256} {redraw : List SlotNo} {i : SlotNo} (h : ∀ j ∈ redraw, look slots j = .loaded)
    (hi : i ∉ redraw) (x : SlotState) : ∀ j ∈ redraw, look (put slots i x) j = .loaded := fun j hj => by
  rw [look_put_other _ _ _ _ (Ne.symm (ne_of_mem_of_not_mem hj hi)), h j hj]

theorem KeyView.Sound.not_redrawn {v : KeyView} (h : v.Sound) {i : SlotNo} (hi : look v.slots i ≠ .loaded) : i ∉ v.redraw :=
  fun hmem => hi (h.redrawn i hmem)

/-- The slot chosen is LOADED, and the redraw list without it is as it should be. -/
theorem KeyView.Sound.chosen {v : KeyView} (hv : v.Sound) {i : SlotNo} {rest : List SlotNo}
    (hchosen : v.redraw = i :: rest ∨ (v.redraw = [] ∧ rest = [] ∧ look v.slots i = .loaded)) :
    look v.slots i = .loaded ∧ rest.Nodup ∧ i ∉ rest ∧ ∀ j ∈ rest, look v.slots j = .loaded := by
  obtain hhead | ⟨-, rfl, hloaded⟩ := hchosen
  · have hnodup := hv.distinct
    have hall := hv.redrawn
    rw [hhead] at hnodup hall
    obtain ⟨hnot, hrest⟩ := List.nodup_cons.1 hnodup
    exact ⟨hall i (.head _), hrest, hnot, fun j hj => hall j (.tail _ hj)⟩
  · exact ⟨hloaded, List.nodup_nil, List.not_mem_nil, nofun⟩

theorem KeyDraw.sound {v w : KeyView} (h : KeyDraw v w) (hv : v.Sound) : w.Sound := by
  cases h with
  | draw k g rest raised hchosen =>
    obtain ⟨hloaded, hdistinct, hnot, hrest⟩ := hv.chosen hchosen
    have hne : look v.slots g.slot ≠ .drawn := by
      rw [hloaded]
      exact nofun
    exact ⟨by rw [hv.count]; exact (loadedIn_unload (x := .drawn) hloaded nofun).symm, hdistinct, redrawn_put hrest hnot _,
      hv.claims.draw (hv.claims.unclaimed hne)⟩

theorem KeyFill.sound {v w : KeyView} (h : KeyFill v w) (hv : v.Sound) : w.Sound := by
  cases h with
  | back k held b hkey =>
    have hdrawn := hv.claims.held k held hkey
    have hne : look v.slots held.slot ≠ .loaded := by
      rw [hdrawn]
      exact nofun
    have hnot := hv.not_redrawn hne
    refine ⟨by rw [hv.count]; exact (loadedIn_fill hne).symm, hv.distinct.append (List.nodup_singleton _) ?_, fun j hj => ?_,
      (hv.claims.letGo (update_none_keeps _ k)).put (hv.claims.released hkey) _⟩
    · rw [List.disjoint_singleton]
      exact hnot
    · obtain hold | hnew := List.mem_append.1 hj
      · exact redrawn_put hv.redrawn hnot _ j hold
      · rw [List.mem_singleton.1 hnew]
        exact look_put_same _ _ _
  | load i serial howner =>
    have hne := SlotState.ne_loaded howner
    exact ⟨by rw [hv.count]; exact (loadedIn_fill hne).symm, hv.distinct, redrawn_put hv.redrawn (hv.not_redrawn hne) _,
      hv.claims.put (hv.claims.unclaimed (SlotState.ne_drawn howner)) _⟩

/-- Every move keeps the counts and the claims. -/
theorem KeyMove.sound {v w : KeyView} (h : KeyMove v w) (hv : v.Sound) : w.Sound := by
  cases h with
  | raise | unwait | wait => exact ⟨hv.count, hv.distinct, hv.redrawn, hv.claims⟩
  | letGo keys hkeys => exact ⟨hv.count, hv.distinct, hv.redrawn, hv.claims.letGo hkeys⟩
  | draw hdraw => exact hdraw.sound hv
  | take g gs hgrants =>
    have hclaims := hv.claims
    rw [hgrants] at hclaims
    exact ⟨hv.count, hv.distinct, hv.redrawn, hclaims.take⟩
  | spend k held x hkey hx =>
    have hne : look v.slots held.slot ≠ .loaded := by
      rw [hv.claims.held k held hkey]
      exact nofun
    exact ⟨by rw [hv.count]; exact (loadedIn_other hne (SlotState.ne_loaded hx)).symm, hv.distinct,
      redrawn_put hv.redrawn (hv.not_redrawn hne) _, (hv.claims.letGo (update_none_keeps _ k)).put (hv.claims.released hkey) _⟩
  | fill hfill hdraws => exact KeyDraw.keeps KeyDraw.sound hdraws (hfill.sound hv)
  | rewrite i x b howner hx =>
    have hne := SlotState.ne_loaded howner
    exact ⟨by rw [hv.count]; exact (loadedIn_other hne (SlotState.ne_loaded hx)).symm, hv.distinct,
      redrawn_put hv.redrawn (hv.not_redrawn hne) _, hv.claims.put (hv.claims.unclaimed (SlotState.ne_drawn howner)) _⟩
  | withdraw i b raised hloaded =>
    have hne : look v.slots i ≠ .drawn := by
      rw [hloaded]
      exact nofun
    refine ⟨by rw [hv.count]; exact (loadedIn_unload (x := .empty) hloaded nofun).symm, hv.distinct.filter _, ?_,
      hv.claims.put (hv.claims.unclaimed hne) _⟩
    exact redrawn_put (fun j hj => hv.redrawn j (List.mem_filter.1 hj).1) (fun hmem => by simpa using (List.mem_filter.1 hmem).2) _

/-! ### Keys that are not zero (R116, R123, R128) -/

/-- One of the first 16 bytes of a key field is not 00h. -/
def FieldIsNonzero (b : Fin 32 → Byte) : Prop := ∃ n : Fin 32, n.val < 16 ∧ b n ≠ 0

/-- No key of zeros is LOADED, held or granted. -/
structure KeyView.Nonzero (v : KeyView) : Prop where
  loaded : ∀ i, look v.slots i = .loaded → FieldIsNonzero (v.bytes i)
  held : ∀ k h, v.keys k = some h → KeyIsNonzero h.buffer
  granted : ∀ g ∈ v.grants, KeyIsNonzero g.buffer

/-- The keys of sites that let go of theirs or keep them. -/
theorem keys_nonzero_of_less {keys keys' : SiteNo → Option KeyHeld} (h : ∀ k x, keys k = some x → KeyIsNonzero x.buffer)
    (hkeys : ∀ k, keys' k = keys k ∨ keys' k = none) : ∀ k x, keys' k = some x → KeyIsNonzero x.buffer := fun k x hx => by
  obtain hsame | hnone := hkeys k
  · exact h k x (hsame ▸ hx)
  · rw [hnone] at hx
    cases hx

/-- A draw copies the key of a LOADED slot into its grant (R123). -/
theorem KeyDraw.nonzero {v w : KeyView} (h : KeyDraw v w) (hs : v.Sound) (hv : v.Nonzero) : w.Nonzero := by
  cases h with
  | draw k g rest raised hchosen hbuffer =>
    obtain ⟨hloaded, -⟩ := hs.chosen hchosen
    refine ⟨forall_slots_put hv.loaded nofun, hv.held, fun g' hg' => ?_⟩
    obtain hold | hnew := List.mem_append.1 hg'
    · exact hv.granted g' hold
    · obtain ⟨n, hn, hne⟩ := hv.loaded g.slot hloaded
      rw [List.mem_singleton.1 hnew]
      exact ⟨n, hn, v.bytes g.slot n, hbuffer n hn, hne⟩

/-- A return writes the buffer back, and a zero key is refused at its load (R116, R128). -/
theorem KeyFill.nonzero {v w : KeyView} (h : KeyFill v w) (hv : v.Nonzero) : w.Nonzero := by
  cases h with
  | back k held b hkey hb =>
    refine ⟨forall_slots_put hv.loaded fun _ => ?_, keys_nonzero_of_less hv.held (update_none_keeps _ k), hv.granted⟩
    obtain ⟨n, hn, x, hx, hne⟩ := hv.held k held hkey
    refine ⟨⟨n, by omega⟩, hn, ?_⟩
    rwa [hb ⟨n, by omega⟩ x hx]
  | load i serial howner hkey =>
    have hput := forall_slots_put hv.loaded (i := i) (x := .loaded) (b := v.bytes i) fun _ => hkey
    rw [Function.update_eq_self] at hput
    exact ⟨hput, hv.held, hv.granted⟩

/-- Every move keeps keys of zeros out of the pool and away from the sites. -/
theorem KeyMove.nonzero {v w : KeyView} (h : KeyMove v w) (hs : v.Sound) (hv : v.Nonzero) : w.Nonzero := by
  cases h with
  | raise | unwait | wait => exact ⟨hv.loaded, hv.held, hv.granted⟩
  | letGo keys hkeys => exact ⟨hv.loaded, keys_nonzero_of_less hv.held hkeys, hv.granted⟩
  | draw hdraw => exact hdraw.nonzero hs hv
  | take g gs hgrants =>
    have hgranted := hv.granted
    rw [hgrants] at hgranted
    refine ⟨hv.loaded, fun k x hx => ?_, fun g' hg' => hgranted g' (.tail _ hg')⟩
    replace hx : Function.update v.keys g.site _ k = some x := hx
    rw [Function.update_apply] at hx
    split at hx
    · cases hx
      exact hgranted g (.head _)
    · exact hv.held k x hx
  | spend k held x hkey hx =>
    have hput := forall_slots_put hv.loaded (i := held.slot) (b := v.bytes held.slot) fun h => absurd h (SlotState.ne_loaded hx)
    rw [Function.update_eq_self] at hput
    exact ⟨hput, keys_nonzero_of_less hv.held (update_none_keeps _ k), hv.granted⟩
  | fill hfill hdraws =>
    exact (KeyDraw.keeps (P := fun v => v.Sound ∧ v.Nonzero) (fun hdraw ⟨hs, hv⟩ => ⟨hdraw.sound hs, hdraw.nonzero hs hv⟩) hdraws
      ⟨hfill.sound hs, hfill.nonzero hv⟩).2
  | rewrite i x b howner hx =>
    exact ⟨forall_slots_put hv.loaded fun h => absurd h (SlotState.ne_loaded hx), hv.held, hv.granted⟩
  | withdraw => exact ⟨forall_slots_put hv.loaded nofun, hv.held, hv.granted⟩

end Sys2Proof.Machine

/-!
PROOF. The view of the keys (KeyView) through the part's operations: what leaves it as it is, and the moves of the key pool unit and of the
end of a site (R51, R52, R121 to R129).
-/

namespace Sys2Proof.Machine

/-! ### The key value fields of the slots -/

/-- The key value field of a slot (R113). -/
def Memory.keyField (m : Memory) (i : SlotNo) (n : Fin 32) : Byte := Memory.read m (slotBase i + 0x20 + n.val)

theorem State.keyView_bytes (s : State) (gs : List KeyGrant) : (s.keyView gs).bytes = Memory.keyField s.mem := rfl

/-- Bytes outside the slots are in no key field. -/
theorem Memory.keyField_writeBytes_outside (m : Memory) {a : Nat} {bs : List Byte} (h : a + bs.length ≤ 0x4000 ∨ 0x8000 ≤ a) :
    Memory.keyField (Memory.writeBytes m a bs) = Memory.keyField m := by
  funext i n
  obtain ⟨hlo, hhi⟩ := slotBase_range i
  have hn := n.isLt
  exact Memory.read_writeBytes_outside m bs (by omega)

/-- Bytes before the key field of a slot are in no key field. -/
theorem Memory.keyField_writeBytes_before (m : Memory) {i : SlotNo} {o : Nat} {bs : List Byte} (h : o + bs.length ≤ 0x20) :
    Memory.keyField (Memory.writeBytes m (slotBase i + o) bs) = Memory.keyField m := by
  funext j n
  have hn := n.isLt
  refine Memory.read_writeBytes_outside m bs ?_
  by_cases hij : i = j
  · subst hij
    omega
  · have := slotBase_apart hij
    omega

/-- Bytes inside one slot leave the key fields of the others. -/
theorem Memory.keyField_writeBytes_slot (m : Memory) {i : SlotNo} {a : Nat} {bs : List Byte} (hlo : slotBase i ≤ a)
    (hhi : a + bs.length ≤ slotBase i + 0x40) :
    Memory.keyField (Memory.writeBytes m a bs)
      = Function.update (Memory.keyField m) i (Memory.keyField (Memory.writeBytes m a bs) i) := by
  rw [Function.eq_update_iff]
  refine ⟨rfl, fun j hj => ?_⟩
  funext n
  have hn := n.isLt
  have := slotBase_apart hj
  exact Memory.read_writeBytes_outside m bs (by omega)

/-! ### What leaves the view -/

section View

variable {s : State}

theorem State.keyView_of_mem {m : Memory} (h : Memory.keyField m = Memory.keyField s.mem) (gs : List KeyGrant) :
    State.keyView { s with mem := m } gs = s.keyView gs := by
  show ({ s.keyView gs with bytes := Memory.keyField m } : KeyView) = _
  rw [h]
  rfl

theorem State.store_keyView {a : Nat} {bs : List Byte} (h : a + bs.length ≤ 0x4000 ∨ 0x8000 ≤ a) (gs : List KeyGrant) :
    (s.store a bs).keyView gs = s.keyView gs := State.keyView_of_mem (Memory.keyField_writeBytes_outside _ h) gs

theorem State.store_keyView_before {i : SlotNo} {o : Nat} {bs : List Byte} (h : o + bs.length ≤ 0x20) (gs : List KeyGrant) :
    (s.store (slotBase i + o) bs).keyView gs = s.keyView gs := State.keyView_of_mem (Memory.keyField_writeBytes_before _ h) gs

theorem State.store_keyView_frame {f : FrameNo} {o : Nat} {bs : List Byte} (h : o + bs.length ≤ 0x800) (gs : List KeyGrant) :
    (s.store (frameBase f + o) bs).keyView gs = s.keyView gs :=
  State.store_keyView (by have := frameBase_le f; omega) gs

theorem State.keyView_of_keys {t : State} (hattn : t.attn = s.attn) (hmem : t.mem = s.mem) (hpool : t.pool = s.pool)
    (hkeys : ∀ k, (t.site k).seq.key = (s.site k).seq.key) (gs : List KeyGrant) : t.keyView gs = s.keyView gs := by
  unfold State.keyView
  rw [hattn, hmem, hpool, funext hkeys]

theorem State.onSite_keyView {k : SiteNo} {f : Site → Site} (hf : (f (s.site k)).seq.key = (s.site k).seq.key) (gs : List KeyGrant) :
    (s.onSite k f).keyView gs = s.keyView gs :=
  State.keyView_of_keys (s := s) (t := s.onSite k f) rfl rfl rfl (fun j => by
    by_cases hkj : k = j
    · rw [← hkj, State.onSite_site_same, hf]
    · rw [State.onSite_site_other s f hkj]) gs

theorem State.onEverySite_keyView {f : Site → Site} (hf : ∀ x, (f x).seq.key = x.seq.key) (gs : List KeyGrant) :
    (s.onEverySite f).keyView gs = s.keyView gs :=
  State.keyView_of_keys (s := s) (t := s.onEverySite f) rfl rfl rfl (fun k => by rw [State.onEverySite_site, hf]) gs

/-- Operations that leave the view leave it one after the other. -/
theorem State.foldl_keyView {α : Type} {gs : List KeyGrant} {act : α → State → State}
    (hact : ∀ a t, (act a t).keyView gs = State.keyView t gs) (l : List α) (s : State) :
    (l.foldl (fun t a => act a t) s).keyView gs = s.keyView gs := by
  induction l generalizing s with
  | nil => rfl
  | cons a l ih => exact (ih _).trans (hact a s)

theorem State.keyView_of_supply {t : State} (h : ∃ p, t = { s with supply := p }) (gs : List KeyGrant) : t.keyView gs = s.keyView gs := by
  obtain ⟨p, rfl⟩ := h
  rfl

end View

section Operations

variable (s : State) (gs : List KeyGrant)

@[simp] theorem State.onFormer_keyView (k : SiteNo) (f : Former → Former) : (s.onFormer k f).keyView gs = s.keyView gs :=
  State.onSite_keyView rfl gs

@[simp] theorem State.onMonitor_keyView (k : SiteNo) (f : Monitor → Monitor) : (s.onMonitor k f).keyView gs = s.keyView gs :=
  State.onSite_keyView rfl gs

@[simp] theorem State.onPort_keyView (k : SiteNo) (f : Port → Port) : (s.onPort k f).keyView gs = s.keyView gs :=
  State.onSite_keyView rfl gs

@[simp] theorem State.issueOp_keyView (k : SiteNo) (op : PortOp) : (s.issueOp k op).keyView gs = s.keyView gs := s.onPort_keyView gs k _

@[simp] theorem State.endOp_keyView (k : SiteNo) : (s.endOp k).keyView gs = s.keyView gs := s.onPort_keyView gs k _

@[simp] theorem State.dropOp_keyView (k : SiteNo) : (s.dropOp k).keyView gs = s.keyView gs := s.onPort_keyView gs k _

@[simp] theorem State.onSupply_keyView (f : Supply → Supply) : (s.onSupply f).keyView gs = s.keyView gs := rfl

@[simp] theorem State.report_keyView (k : SiteNo) : (s.report k).keyView gs = s.keyView gs := rfl

@[simp] theorem State.watermark_keyView (n : Nat) : (s.onPool fun p => { p with watermark := n }).keyView gs = s.keyView gs := rfl

/-! ### The supply unit and the arbiter -/

@[simp] theorem State.grantTurn_keyView (k : SiteNo) : (s.grantTurn k).keyView gs = s.keyView gs := by
  obtain hsame | ⟨g, chopped, -, hgrant⟩ := State.grantTurn_cases k s
  · rw [hsame]
  · rw [hgrant, State.grant]
    exact State.onSite_keyView rfl gs

@[simp] theorem State.evaluate_keyView : s.evaluate.keyView gs = s.keyView gs := by
  unfold State.evaluate
  split
  · exact State.foldl_keyView (fun k t => t.grantTurn_keyView gs k) _ s
  · rfl

@[simp] theorem State.startIdleIfQuiet_keyView : s.startIdleIfQuiet.keyView gs = s.keyView gs :=
  State.keyView_of_supply s.startIdleIfQuiet_frame gs

@[simp] theorem State.completeOffPending_keyView : s.completeOffPending.keyView gs = s.keyView gs :=
  State.keyView_of_supply s.completeOffPending_frame gs

@[simp] theorem State.supplyRunSet_keyView : s.supplyRunSet.keyView gs = s.keyView gs :=
  State.keyView_of_supply s.supplyRunSet_frame gs

@[simp] theorem State.supplyRunClear_keyView : s.supplyRunClear.keyView gs = s.keyView gs :=
  State.keyView_of_supply s.supplyRunClear_frame gs

@[simp] theorem State.lowerInUse_keyView (k : SiteNo) (g : Nat) : (s.lowerInUse k g).keyView gs = s.keyView gs := by
  rw [State.lowerInUse, State.completeOffPending_keyView]
  rfl

@[simp] theorem State.release_keyView (k : SiteNo) : (s.release k).keyView gs = s.keyView gs := by
  unfold State.release
  split
  · rfl
  · simp only [State.startIdleIfQuiet_keyView, State.evaluate_keyView, State.lowerInUse_keyView]

@[simp] theorem State.enterReady_keyView : s.enterReady.keyView gs = s.keyView gs := by
  rw [State.enterReady, State.startIdleIfQuiet_keyView, State.evaluate_keyView, State.onSupply_keyView]

@[simp] theorem State.withdrawBurst_keyView (k : SiteNo) : (s.withdrawBurst k).keyView gs = s.keyView gs := by
  unfold State.withdrawBurst
  split
  · rfl
  · rw [State.startIdleIfQuiet_keyView]
    rfl

/-! ### A site's way through its rows -/

@[simp] theorem State.requestBurst_keyView (k : SiteNo) (n : Nat) : (s.requestBurst k n).keyView gs = s.keyView gs := rfl

@[simp] theorem State.requestCurrent_keyView (k : SiteNo) : (s.requestCurrent k).keyView gs = s.keyView gs := by
  rw [State.requestCurrent, State.requestBurst_keyView]
  exact State.onSite_keyView rfl gs

@[simp] theorem State.beginAttempt_keyView (k : SiteNo) (row : Row) (n : Nat) (pending : ColSet) :
    (s.beginAttempt k row n pending).keyView gs = s.keyView gs := by
  rw [State.beginAttempt, State.requestCurrent_keyView, State.onFormer_keyView]
  exact State.onSite_keyView rfl gs

@[simp] theorem State.issueVerify_keyView (k : SiteNo) (row : Row) : (s.issueVerify k row).keyView gs = s.keyView gs :=
  s.issueOp_keyView gs k _

@[simp] theorem State.enterFinal_keyView (k : SiteNo) : (s.enterFinal k).keyView gs = s.keyView gs := by
  rw [State.enterFinal, State.issueVerify_keyView]
  exact State.onSite_keyView rfl gs

@[simp] theorem State.beginRow_keyView (k : SiteNo) (row : Row) : (s.beginRow k row).keyView gs = s.keyView gs := by
  unfold State.beginRow
  split
  · exact s.beginAttempt_keyView gs k _ _ _
  · exact s.enterFinal_keyView gs k

@[simp] theorem State.beginLocking_keyView (k : SiteNo) : (s.beginLocking k).keyView gs = s.keyView gs := by
  rw [State.beginLocking, State.beginAttempt_keyView]
  exact State.onSite_keyView rfl gs

@[simp] theorem State.afterGoodPulse_keyView (k : SiteNo) : (s.afterGoodPulse k).keyView gs = s.keyView gs := by
  unfold State.afterGoodPulse
  dsimp only
  split
  · split
    · rw [State.issueVerify_keyView, ← s.onFormer_keyView gs k]
      exact State.onSite_keyView rfl gs
    · exact s.onFormer_keyView gs k _
  · rw [State.requestCurrent_keyView, State.onFormer_keyView]

@[simp] theorem State.completePulse_keyView (k : SiteNo) : (s.completePulse k).keyView gs = s.keyView gs := by
  rw [State.completePulse, State.release_keyView, State.onMonitor_keyView, State.endOp_keyView]

@[simp] theorem State.truncatePulse_keyView (k : SiteNo) : (s.truncatePulse k).keyView gs = s.keyView gs := by
  rw [State.truncatePulse, State.release_keyView, State.onMonitor_keyView, State.endOp_keyView]

@[simp] theorem State.takeSample_keyView (k : SiteNo) (code : SenseCode) : (s.takeSample k code).keyView gs = s.keyView gs := by
  unfold State.takeSample
  dsimp only
  split
  · rw [State.issueOp_keyView]
    exact (State.onSite_keyView rfl gs).trans (State.onSite_keyView rfl gs)
  · exact State.onSite_keyView rfl gs

@[simp] theorem State.recordRefs_keyView (k : SiteNo) (o b : SenseCode) : (s.recordRefs k o b).keyView gs = s.keyView gs := by
  rw [State.recordRefs, State.endOp_keyView]
  exact State.onSite_keyView rfl gs

@[simp] theorem State.recordVerify_keyView (k : SiteNo) (row : Row) (v : RowVerify) : (s.recordVerify k row v).keyView gs = s.keyView gs := by
  rw [State.recordVerify, State.endOp_keyView]
  exact State.onSite_keyView rfl gs

/-! ### Record and map entry -/

@[simp] theorem State.writeRecord_keyView (k : SiteNo) (o : SiteOutcome) (d : Disposition) (serial : Word) :
    (s.writeRecord k o d serial).keyView gs = s.keyView gs := by
  unfold State.writeRecord
  split
  · rename_i f _
    refine State.store_keyView (.inl ?_) gs
    rw [length_recordBytes]
    have := siteRecordBase_lt f k
    omega
  · rfl

@[simp] theorem State.writeMap_keyView (k : SiteNo) (o : SiteOutcome) : (s.writeMap k o).keyView gs = s.keyView gs := by
  unfold State.writeMap
  dsimp only
  split
  · split
    · exact State.store_keyView (.inr (by unfold mapBase; omega)) gs
    · rfl
  · rfl

@[simp] theorem State.fileEnd_keyView (k : SiteNo) (o : SiteOutcome) (d : Disposition) (serial : Word) :
    (s.fileEnd k o d serial).keyView gs = s.keyView gs := by
  rw [State.fileEnd, State.report_keyView, State.writeMap_keyView, State.writeRecord_keyView]

end Operations

end Sys2Proof.Machine

/-!
PROOF. The draws, the settlement of a key and the end of a site as moves of the keys (R51, R52, R120 to R129).
-/

namespace Sys2Proof.Machine

/-! ### States that moves lead to -/

/-- Moves lead from the keys v to those of state s, whose key grants gs are still to be taken. -/
def State.MovedFrom (v : KeyView) (gs : List KeyGrant) (s : State) : Prop := KeyMoves v (s.keyView gs)

/-! ### Draws (R121 to R123) -/

/-- The slot chosen heads the redraw list, or is LOADED with that list empty (R122). -/
theorem Pool.choose_cases {p q : Pool} {i : SlotNo} (h : p.choose = some (i, q)) :
    ∃ rest cursor, q = { p with redraw := rest, cursor := cursor }
      ∧ (p.redraw = i :: rest ∨ (p.redraw = [] ∧ rest = [] ∧ look p.slots i = .loaded)) := by
  unfold Pool.choose at h
  split at h
  · rename_i j rest hredraw
    cases h
    exact ⟨rest, p.cursor, rfl, .inl hredraw⟩
  · rename_i hredraw
    split at h
    · rename_i j hfind
      cases h
      refine ⟨[], Fin.ofNat 256 (i.val + 1), by rw [← hredraw], .inr ⟨hredraw, rfl, ?_⟩⟩
      simpa using List.find?_some hfind
    · cases h

/-- loaded_count falls by 1; POOL_LOW may be raised (R126). -/
theorem State.lowerLoaded_cases (s : State) :
    ∃ raised, s.lowerLoaded
      = { s with attn := s.attn ||| raised, pool := { s.pool with loadedCount := s.pool.loadedCount - 1 } } := by
  by_cases h : s.pool.watermark ≤ s.pool.loadedCount ∧ s.pool.loadedCount - 1 < s.pool.watermark
  · exact ⟨Cause.poolLow.mask, if_pos h⟩
  · refine ⟨0#11, ?_⟩
    rw [BitVec.or_zero]
    exact if_neg h

/-- A key field written with zeros. -/
theorem Memory.keyField_wiped (m : Memory) (i : SlotNo) :
    Memory.keyField (Memory.writeBytes m (slotBase i + 0x20) (List.replicate 32 0)) = Function.update (Memory.keyField m) i fun _ => 0 := by
  have hwiped : Memory.keyField (Memory.writeBytes m (slotBase i + 0x20) (List.replicate 32 0)) i = fun _ => 0 :=
    funext fun n => Memory.read_writeBytes_zeros m _ 32 n.isLt
  rw [← hwiped]
  refine Memory.keyField_writeBytes_slot m (Nat.le_add_right _ _) ?_
  rw [List.length_replicate]

/-- The key bytes that a draw copies are those of the key field (R123). -/
theorem State.slotKey_getElem? (s : State) (i : SlotNo) (len : KeyLength) {n : Fin 32} (hn : n.val < 16) :
    (s.slotKey i len.keyBytes)[n.val]? = some (Memory.keyField s.mem i n) := by
  have hlen : n.val < len.keyBytes := hn.trans_le (by cases len <;> decide)
  rw [State.slotKey, Memory.readBytes, List.getElem?_map, List.getElem?_range hlen]
  rfl

theorem State.drawSlot_keyView {s : State} {p : Pool} (k : SiteNo) (i : SlotNo) (gs : List KeyGrant) :
    ∃ raised, (s.drawSlot k i p).keyView gs = { s.keyView gs with
      attn := s.attn ||| raised, bytes := Function.update (Memory.keyField s.mem) i fun _ => 0, slots := put p.slots i .drawn
      redraw := p.redraw, loadedCount := p.loadedCount - 1, highMark := p.highMark, waiting := put p.waiting k none } := by
  obtain ⟨raised, hlower⟩ := State.lowerLoaded_cases
    (State.store (slotBase i + 0x20) (List.replicate 32 0)
      { s with
        pool := { p with slots := put p.slots i .drawn, waiting := put p.waiting k none, draws := sat16 (p.draws + 1) } })
  refine ⟨raised, ?_⟩
  rw [State.drawSlot, hlower, ← Memory.keyField_wiped]
  generalize List.replicate 32 (0 : Byte) = zeros
  rfl

/-- A draw for a site is one move. -/
theorem State.draw_keyDraw {s t : State} {k : SiteNo} {len : KeyLength} {g : KeyGrant} (h : s.draw k len = some (t, g))
    (gs : List KeyGrant) : KeyDraw (s.keyView gs) (t.keyView (gs ++ [g])) := by
  unfold State.draw at h
  split at h
  · cases h
  · rename_i i p hchoose
    cases h
    obtain ⟨rest, cursor, rfl, hchosen⟩ := Pool.choose_cases hchoose
    obtain ⟨raised, hview⟩ :=
      State.drawSlot_keyView (s := s) (p := { s.pool with redraw := rest, cursor := cursor }) k i
        (gs ++ [{ site := k, slot := i, serial := s.slotSerial i, buffer := s.slotKey i len.keyBytes }])
    rw [hview]
    exact KeyDraw.draw (s.keyView gs) k { site := k, slot := i, serial := s.slotSerial i, buffer := s.slotKey i len.keyBytes } rest raised
      hchosen fun n hn => s.slotKey_getElem? i len hn

/-- What one turn of an evaluation comes to: nothing, with the site not waiting or no slot drawable, or one draw (R121). -/
theorem drawTurn_cases (acc : State × List KeyGrant) (k : SiteNo) :
    (drawTurn acc k = acc ∧ (look acc.1.pool.waiting k = none ∨ acc.1.pool.choose = none))
      ∨ ∃ len t g, acc.1.draw k len = some (t, g) ∧ drawTurn acc k = (t, acc.2 ++ [g]) := by
  cases hwait : look acc.1.pool.waiting k with
  | none => exact .inl ⟨drawTurn_of_not_waiting hwait, .inl rfl⟩
  | some len =>
    cases hdraw : acc.1.draw k len with
    | none =>
      have hdry : acc.1.pool.choose = none := by
        rw [Pool.choose_eq_none_iff]
        exact (State.draw_eq_none_iff k len acc.1).1 hdraw
      exact .inl ⟨drawTurn_of_dry hdry k, .inr hdry⟩
    | some r => exact .inr ⟨len, r.1, r.2, hdraw, by simp only [drawTurn, hwait, hdraw]⟩

/-- The draws of an evaluation. -/
theorem foldl_drawTurn_keyDraws (gs : List KeyGrant) (l : List SiteNo) (acc : State × List KeyGrant) :
    Relation.ReflTransGen KeyDraw (acc.1.keyView (gs ++ acc.2)) ((l.foldl drawTurn acc).1.keyView (gs ++ (l.foldl drawTurn acc).2)) := by
  induction l generalizing acc with
  | nil => exact .refl
  | cons k l ih =>
    refine .trans ?_ (ih (drawTurn acc k))
    obtain ⟨hsame, -⟩ | ⟨len, t, g, hdraw, hturn⟩ := drawTurn_cases acc k
    · rw [hsame]
    · rw [hturn, ← List.append_assoc]
      exact .single (State.draw_keyDraw hdraw _)

theorem State.evaluateDraws_keyDraws (s : State) (gs : List KeyGrant) :
    Relation.ReflTransGen KeyDraw (s.keyView gs) (s.evaluateDraws.1.keyView (gs ++ s.evaluateDraws.2)) := by
  have hdraws := foldl_drawTurn_keyDraws gs allSites (s, [])
  rw [List.append_nil] at hdraws
  exact hdraws

/-- A turn of an evaluation enters no draw request. -/
theorem drawTurn_waiting {acc : State × List KeyGrant} {j : SiteNo} (k : SiteNo) (h : look acc.1.pool.waiting j = none) :
    look (drawTurn acc k).1.pool.waiting j = none := by
  obtain ⟨gs, -, hdraws⟩ := drawTurn_draws acc k
  rw [hdraws.waiting]
  split
  · rfl
  · exact h

/-- After the turns of some sites no slot is drawable, or none of them waits (R120, R121). -/
theorem foldl_drawTurn_served (l : List SiteNo) (acc : State × List KeyGrant) :
    (l.foldl drawTurn acc).1.pool.choose = none ∨ ∀ j, (j ∈ l ∨ look acc.1.pool.waiting j = none) →
      look (l.foldl drawTurn acc).1.pool.waiting j = none := by
  induction l generalizing acc with
  | nil => exact .inr fun j hj => hj.resolve_left List.not_mem_nil
  | cons k l ih =>
    rw [List.foldl_cons]
    obtain hdry | hserved := ih (drawTurn acc k)
    · exact .inl hdry
    obtain ⟨hsame, hquiet | hdry⟩ | ⟨len, t, g, hdraw, hturn⟩ := drawTurn_cases acc k
    · refine .inr fun j hj => hserved j ?_
      rw [hsame]
      rw [List.mem_cons] at hj
      obtain (rfl | hj) | hj := hj
      · exact .inr hquiet
      · exact .inl hj
      · exact .inr hj
    · rw [hsame]
      exact .inl (by rw [foldl_drawTurn_of_dry hdry]; exact hdry)
    · refine .inr fun j hj => hserved j ?_
      rw [List.mem_cons] at hj
      obtain (rfl | hj) | hj := hj
      · obtain ⟨-, -, -, -, -, hwaiting⟩ := State.draw_waiting hdraw
        rw [hturn, hwaiting, look_put_same]
        exact .inr rfl
      · exact .inl hj
      · exact .inr (drawTurn_waiting k hj)

/-- An evaluation leaves the pool dry (R121). -/
theorem State.evaluateDraws_dry (s : State) (gs : List KeyGrant) : (s.evaluateDraws.1.keyView gs).Dry := by
  have hserved := foldl_drawTurn_served allSites (s, [])
  rw [← State.evaluateDraws] at hserved
  generalize s.evaluateDraws.1 = t at hserved ⊢
  obtain hdry | hserved := hserved
  · exact fun _ => (Pool.choose_eq_none_iff _).1 hdry
  · exact KeyView.dry_of_no_waiter fun k => hserved k (.inl (mem_allSites k))

/-! ### Moves of a site and of the pool -/

/-- A site with another key, or with none. -/
theorem State.onSite_keyView_key {s : State} {k : SiteNo} {f : Site → Site} {key : Option KeyHeld} (hf : (f (s.site k)).seq.key = key)
    (gs : List KeyGrant) : (s.onSite k f).keyView gs = { s.keyView gs with keys := Function.update (s.keyView gs).keys k key } := by
  have hkeys : ((s.onSite k f).keyView gs).keys = Function.update (s.keyView gs).keys k key := by
    funext j
    by_cases hj : k = j
    · subst hj
      rw [Function.update_self, ← hf]
      show ((s.onSite k f).site k).seq.key = _
      rw [State.onSite_site_same]
    · rw [Function.update_of_ne (Ne.symm hj)]
      show ((s.onSite k f).site j).seq.key = (s.site j).seq.key
      rw [State.onSite_site_other s f hj]
  rw [← hkeys]
  rfl

/-- The disposition that a bind or a void writes leaves the key field as it was (R129). -/
theorem State.spendSlot_keyView {s : State} {k : SiteNo} (i : SlotNo) (bound : Bool) (gs : List KeyGrant) :
    (s.spendSlot k i bound).keyView gs = { s.keyView gs with slots := put s.pool.slots i (if bound then .bound else .voided) } := by
  have hmem : Memory.keyField (s.dispositionMem k i) = Memory.keyField s.mem := by
    funext j n
    have hn := n.isLt
    refine s.read_dispositionMem_other k i ?_
    by_cases hij : i = j
    · subst hij
      omega
    · have := slotBase_apart hij
      omega
  rw [State.spendSlot]
  generalize s.dispositionMem k i = m at hmem
  show ({ s.keyView gs with bytes := Memory.keyField m, slots := _ } : KeyView) = _
  rw [hmem]
  rfl

/-- A key field that a key buffer is written back to (R128). -/
theorem Memory.keyField_returned (m : Memory) (i : SlotNo) {buffer : List Byte} {n : Fin 32} {x : Byte} (hx : buffer[n.val]? = some x) :
    Memory.keyField (Memory.writeBytes m (slotBase i + 0x20) (buffer.take 32)) i n = x := by
  have hn := n.isLt
  obtain ⟨hlt, hget⟩ := List.getElem?_eq_some_iff.1 hx
  have hlength : n.val < (buffer.take 32).length := by
    rw [List.length_take]
    omega
  show Memory.read _ (slotBase i + 0x20 + n.val) = x
  rw [Memory.read_writeBytes_inside m _ hlength, List.getD_eq_getElem _ _ hlength, List.getElem_take, hget]

theorem State.returnSlot_keyView {s : State} (i : SlotNo) (buffer : List Byte) (gs : List KeyGrant) :
    (s.returnSlot i buffer).keyView gs = { s.keyView gs with
      bytes := Function.update (Memory.keyField s.mem) i
        (Memory.keyField (Memory.writeBytes s.mem (slotBase i + 0x20) (buffer.take 32)) i)
      slots := put s.pool.slots i .loaded, redraw := s.pool.redraw ++ [i], loadedCount := s.pool.loadedCount + 1 } := by
  have hlength : (buffer.take 32).length ≤ 32 := List.length_take_le _ _
  rw [State.returnSlot_eq]
  generalize buffer.take 32 = bs at hlength
  rw [← Memory.keyField_writeBytes_slot s.mem (Nat.le_add_right _ _) (by omega)]
  rfl

namespace State.MovedFrom

variable {v : KeyView} {gs : List KeyGrant} {s t : State}

theorem of_view (h : s.MovedFrom v gs) (ht : t.keyView gs = s.keyView gs) : t.MovedFrom v gs := by
  rw [State.MovedFrom, ht]
  exact h

theorem move {gs' : List KeyGrant} (h : s.MovedFrom v gs) (hmove : KeyMove (s.keyView gs) (t.keyView gs')) : t.MovedFrom v gs' :=
  Relation.ReflTransGen.tail h hmove

theorem raise (h : s.MovedFrom v gs) (c : Cause) : (s.raise c).MovedFrom v gs := h.move (.raise _ c.mask)

/-- The draw requests of some sites are withdrawn. -/
theorem unwait (h : s.MovedFrom v gs) (hpool : ∃ w watermark, t.pool = { s.pool with waiting := w, watermark := watermark }
    ∧ ∀ k, look w k = look s.pool.waiting k ∨ look w k = none)
    (hattn : t.attn = s.attn) (hmem : t.mem = s.mem) (hsites : t.sites = s.sites) :
    t.MovedFrom v gs := by
  obtain ⟨w, watermark, hpool, hw⟩ := hpool
  have hview : t.keyView gs = { s.keyView gs with waiting := w } := by
    have hsite : t.site = s.site := by
      funext k
      rw [State.site, hsites, State.site]
    rw [State.keyView, hattn, hmem, hpool, hsite]
    rfl
  refine h.move ?_
  rw [hview]
  exact .unwait _ w hw

theorem withdrawDraw (h : s.MovedFrom v gs) (k : SiteNo) : (s.withdrawDraw k).MovedFrom v gs :=
  h.unwait ⟨put s.pool.waiting k none, s.pool.watermark, rfl, fun j => by
    rw [look_put]
    split
    · exact .inr rfl
    · exact .inl rfl⟩ rfl rfl rfl

/-- Sites lose their keys, as when they return to IDLE. -/
theorem letGo (h : s.MovedFrom v gs) {f : Site → Site} (hf : ∀ x, (f x).seq.key = x.seq.key ∨ (f x).seq.key = none) :
    (s.onEverySite f).MovedFrom v gs := by
  have hview : (s.onEverySite f).keyView gs = { s.keyView gs with keys := fun k => (f (s.site k)).seq.key } := by
    simp only [State.keyView, State.onEverySite_site]
    rfl
  refine h.move ?_
  rw [hview]
  exact .letGo _ _ fun k => hf _

/-- A site takes the first of the key grants (R40). -/
theorem takeKeyGrant {g : KeyGrant} (h : s.MovedFrom v (g :: gs)) : (s.takeKeyGrant g).MovedFrom v gs := by
  refine h.move ?_
  rw [State.takeKeyGrant_eq, State.beginRow_keyView, State.onSite_keyView_key (s := s) (key := some _) rfl]
  exact .take (s.keyView (g :: gs)) g gs rfl

/-- All key grants are taken. -/
theorem deliver (h : s.MovedFrom v gs) : (s.deliver gs).MovedFrom v [] := by
  unfold State.deliver
  induction gs generalizing s with
  | nil => exact h
  | cons g gs ih => exact ih h.takeKeyGrant

/-- A draw whose key grant is taken at once (R120, R123). -/
theorem draw {u : State} {k : SiteNo} {len : KeyLength} {g : KeyGrant} (h : s.MovedFrom v []) (hdraw : s.draw k len = some (u, g)) :
    (u.takeKeyGrant g).MovedFrom v [] :=
  State.MovedFrom.takeKeyGrant (gs := []) (h.move (.draw (State.draw_keyDraw hdraw [])))

/-- A key comes into the pool, and waiting sites are served (R117, R121, R128). -/
theorem fill (h : s.MovedFrom v gs) (hfill : KeyFill (s.keyView gs) (t.keyView gs)) :
    t.evaluateDraws.1.MovedFrom v (gs ++ t.evaluateDraws.2) :=
  h.move (.fill hfill (t.evaluateDraws_keyDraws gs) (t.evaluateDraws_dry _))

theorem fill_onSite {k : SiteNo} {f : Site → Site} (h : s.MovedFrom v gs) (hfill : KeyFill (s.keyView gs) ((t.onSite k f).keyView gs)) :
    (t.evaluateDraws.1.onSite k f).MovedFrom v (gs ++ t.evaluateDraws.2) := by
  have hmoved := h.fill hfill
  rw [State.evaluateDraws_onSite] at hmoved
  dsimp only at hmoved
  exact hmoved

/-! ### The settlement of a key (R127 to R129) -/

theorem spend {k : SiteNo} {held : KeyHeld} (h : s.MovedFrom v gs) (hkey : (s.site k).seq.key = some held) (bound : Bool) :
    ((s.spendSlot k held.slot bound).onSeq k fun q => { q with key := none }).MovedFrom v gs := by
  refine h.move ?_
  have hview : ((s.spendSlot k held.slot bound).onSeq k fun q => { q with key := none }).keyView gs = { s.keyView gs with
      slots := put s.pool.slots held.slot (if bound then .bound else .voided)
      keys := Function.update (s.keyView gs).keys k none } := by
    rw [State.onSeq_eq, State.onSite_keyView_key (key := none) rfl, State.spendSlot_keyView]
  rw [hview]
  exact .spend _ k held _ hkey (by cases bound <;> rfl)

/-- A key held by a site goes back to its slot. -/
theorem back {k : SiteNo} {held : KeyHeld} (h : s.MovedFrom v gs) (hkey : (s.site k).seq.key = some held) :
    (((s.returnSlot held.slot held.buffer).evaluateDraws.1).onSeq k fun q => { q with key := none }).MovedFrom v
      (gs ++ (s.returnSlot held.slot held.buffer).evaluateDraws.2) := by
  have hfill : KeyFill (s.keyView gs)
      (((s.returnSlot held.slot held.buffer).onSite k fun x => { x with seq := { x.seq with key := none } }).keyView gs) := by
    rw [State.onSite_keyView_key (key := none) rfl, State.returnSlot_keyView]
    have hbytes : ∀ (n : Fin 32) (x : Byte), held.buffer[n.val]? = some x →
        Memory.keyField (Memory.writeBytes s.mem (slotBase held.slot + 0x20) (held.buffer.take 32)) held.slot n = x :=
      fun n x hx => Memory.keyField_returned s.mem held.slot hx
    generalize Memory.keyField (Memory.writeBytes s.mem (slotBase held.slot + 0x20) (held.buffer.take 32)) held.slot = b at hbytes
    exact .back (s.keyView gs) k held b hkey hbytes
  exact h.fill_onSite hfill

/-- The key of a site is settled and let go of. -/
theorem settleKey (h : s.MovedFrom v gs) (k : SiteNo) (o : SiteOutcome) :
    ((s.settleKey k o).1.onSeq k fun q => { q with key := none }).MovedFrom v (gs ++ (s.settleKey k o).2.2) := by
  cases hkey : (s.site k).seq.key with
  | none =>
    simp only [State.settleKey, hkey, List.append_nil]
    exact h.of_view (State.onSite_keyView hkey.symm gs)
  | some held =>
    simp only [State.settleKey, hkey]
    split
    · rw [List.append_nil, State.bindSlot_eq]
      exact h.spend hkey true
    · split
      · rw [List.append_nil, State.voidSlot_eq]
        exact h.spend hkey false
      · dsimp only
        exact h.back hkey

/-! ### The end of a site (R51, R52) -/

/-- A running site ends; the key grants that its returned key makes come after those that are still to be taken. -/
theorem endSiteWith (h : s.MovedFrom v gs) (k : SiteNo) (o : SiteOutcome) :
    (s.endSiteWith k o).1.MovedFrom v (gs ++ (s.endSiteWith k o).2) := by
  unfold State.endSiteWith
  split
  · have hentered : (((s.withdrawDraw k).withdrawBurst k).onSite k (Site.enterEnd o)).MovedFrom v gs :=
      ((h.withdrawDraw k).of_view (State.withdrawBurst_keyView _ gs k)).of_view (State.onSite_keyView rfl gs)
    rw [State.endActions_fst]
    exact (hentered.settleKey k o).of_view (State.fileEnd_keyView _ _ k o _ _)
  · rw [List.append_nil]
    exact h

theorem endSite (h : s.MovedFrom v []) (k : SiteNo) (o : SiteOutcome) : (s.endSite k o).MovedFrom v [] :=
  State.MovedFrom.deliver (gs := (s.endSiteWith k o).2) (h.endSiteWith k o)

theorem unlessStopped {k : SiteNo} {go : State → State} (h : s.MovedFrom v []) (hgo : (go s).MovedFrom v []) :
    (s.unlessStopped k go).MovedFrom v [] := by
  unfold State.unlessStopped
  split
  · exact h.endSite k _
  · exact hgo

/-- A site enters KEYWAIT: it is drawn for, ends, or waits while no slot is drawable (R40, R41, R120). -/
theorem enterKeywait (h : s.MovedFrom v []) (k : SiteNo) : (s.enterKeywait k).MovedFrom v [] := by
  have hkeywait : (s.onSite k (Site.asKeywait s.workingRecipe)).MovedFrom v [] := h.of_view (State.onSite_keyView rfl [])
  rw [State.enterKeywait_eq]
  split
  · exact hkeywait.draw ‹_›
  · rename_i hdraw
    split
    · exact (hkeywait.raise _).endSite k _
    · have hdry := (State.draw_eq_none_iff _ _ _).1 hdraw
      exact (hkeywait.raise .poolDry).move (.wait _ k _ hdry)

end State.MovedFrom

end Sys2Proof.Machine

/-!
PROOF. Where the words of exchange memory lie, and the operations of the sites, the frame scheduler and the wafer unit as moves of the keys
(R33, R51 to R59, R87, R89, R132 to R163).
-/

namespace Sys2Proof.Machine

/-! ### Words and their places -/

/-- Where the words of a kind lie: a stop word, the request word of the wafer and the words of a slot in their places, any other word
outside the slots (R163, 10.5). -/
def WordKind.LiesAt (o : Nat) : WordKind → Prop
  | .waferRequest => o = 0x104
  | .frameStop f => o = frameBase f + 0x04
  | .slotState i => o = slotBase i
  | .slotData i => slotBase i ≤ o ∧ o + 4 ≤ slotBase i + 0x40
  | _ => o + 4 ≤ 0x4000 ∨ 0x8000 ≤ o

theorem kindAt_liesAt {o : Nat} (halign : o % 4 = 0) : (kindAt o).LiesAt o := by
  unfold kindAt
  split
  · exact .inl (by omega)
  split
  · split
    · exact .inl (by omega)
    · split
      · assumption
      · exact .inl (by omega)
  split
  · exact .inl (by omega)
  split
  · exact .inl (by omega)
  split
  · show (if (o - 0x800) % 0x800 = 0 then WordKind.frameState (Fin.ofNat 4 ((o - 0x800) / 0x800))
      else if (o - 0x800) % 0x800 = 4 then .frameStop (Fin.ofNat 4 ((o - 0x800) / 0x800))
      else .frameData (Fin.ofNat 4 ((o - 0x800) / 0x800))).LiesAt o
    generalize hp : o - 0x800 = p
    split
    · exact .inl (by omega)
    · split
      · show o = 0x800 + 0x800 * (p / 0x800 % 4) + 0x04
        omega
      · exact .inl (by omega)
  split
  · exact .inl (by omega)
  split
  · show (if (o - 0x4000) % 0x40 = 0 then WordKind.slotState (Fin.ofNat 256 ((o - 0x4000) / 0x40))
      else .slotData (Fin.ofNat 256 ((o - 0x4000) / 0x40))).LiesAt o
    generalize hp : o - 0x4000 = p
    split
    · show o = 0x4000 + 0x40 * (p / 0x40 % 256)
      omega
    · show 0x4000 + 0x40 * (p / 0x40 % 256) ≤ o ∧ o + 4 ≤ 0x4000 + 0x40 * (p / 0x40 % 256) + 0x40
      omega
  split
  · exact .inr (by omega)
  · exact .inr (by omega)

theorem wordKind_liesAt (w : WordNo) : (wordKind w).LiesAt (wordOffset w) := kindAt_liesAt (Nat.mul_mod_right 4 _)

theorem wordKind_slotStateWord (i : SlotNo) : wordKind (slotStateWord i) = .slotState i := by
  have hoffset : wordOffset (slotStateWord i) = slotBase i := by
    show 4 * ((0x4000 + 0x40 * i.val) / 4 % 2 ^ 14) = 0x4000 + 0x40 * i.val
    omega
  have hi : slotBase i = 0x4000 + 0x40 * i.val := rfl
  rw [wordKind, hoffset, kindAt, if_neg (by omega), if_neg (by omega), if_neg (by omega), if_neg (by omega), if_neg (by omega),
    if_neg (by omega), if_pos (by omega), if_pos (by omega)]
  congr 1
  ext
  show (0x4000 + 0x40 * i.val - 0x4000) / 0x40 % 256 = i.val
  omega


/-! ### Events of one site -/

namespace State.MovedFrom

variable {v : KeyView} {gs : List KeyGrant} {s t : State}

/-- What every action leads on, a list of them leads on. -/
theorem foldl {α : Type} {act : α → State → State} (hact : ∀ a t, State.MovedFrom v gs t → (act a t).MovedFrom v gs) (l : List α)
    (h : s.MovedFrom v gs) : (l.foldl (fun t a => act a t) s).MovedFrom v gs := by
  induction l generalizing s with
  | nil => exact h
  | cons a l ih => exact ih (hact a s h)

theorem thermalEvent (h : s.MovedFrom v []) (k : SiteNo) : (s.thermalEvent k).MovedFrom v [] := by
  refine State.MovedFrom.endSite ?_ k _
  split
  · exact h.of_view (s.truncatePulse_keyView [] k)
  · exact h

theorem takeHard (h : s.MovedFrom v []) (k : SiteNo) : (s.takeHard k).MovedFrom v [] := by
  have hmarked : (s.onSeq k fun q => { q with stopTaken := .hard }).MovedFrom v [] := h.of_view (State.onSite_keyView rfl [])
  unfold State.takeHard
  dsimp only
  split
  · split
    · exact hmarked.endSite k _
    · exact hmarked
  · exact h

theorem takeSoft (h : s.MovedFrom v []) (k : SiteNo) : (s.takeSoft k).MovedFrom v [] := by
  have hmarked : (s.onSeq k fun q => { q with stopTaken := .soft }).MovedFrom v [] := h.of_view (State.onSite_keyView rfl [])
  unfold State.takeSoft
  dsimp only
  split
  · split
    · exact hmarked.endSite k _
    · exact hmarked
  · exact h

theorem takeReset (h : s.MovedFrom v []) (k : SiteNo) : (s.takeReset k).MovedFrom v [] := by
  unfold State.takeReset
  split
  · refine State.MovedFrom.endSite ?_ k _
    split
    · exact h.of_view (s.truncatePulse_keyView [] k)
    · exact h.of_view (s.endOp_keyView [] k)
  · exact h

theorem everyRunning {act : SiteNo → State → State} (hact : ∀ k t, State.MovedFrom v [] t → (act k t).MovedFrom v [])
    (h : s.MovedFrom v []) : (s.everyRunning act).MovedFrom v [] := State.MovedFrom.foldl hact _ (s := s.chosen) (h.of_view rfl)

/-! ### Completed reads, verifies and pulses -/

theorem afterRefs (h : s.MovedFrom v []) (k : SiteNo) (o b : SenseCode) : (s.afterRefs k o b).MovedFrom v [] := by
  unfold State.afterRefs
  split
  · refine h.unlessStopped (h.of_view ?_)
    rw [State.issueVerify_keyView]
    exact State.onSite_keyView rfl []
  · exact h.endSite k _

theorem blankVerified (h : s.MovedFrom v []) (k : SiteNo) (row : Row) : (s.blankVerified k row).MovedFrom v [] := by
  unfold State.blankVerified
  dsimp only
  split
  · split
    · exact h.endSite k _
    · exact h.endSite k _
    · exact h.unlessStopped (h.enterKeywait k)
  · exact h.unlessStopped (h.of_view (s.issueVerify_keyView [] k _))

theorem rowDone (h : s.MovedFrom v []) (k : SiteNo) (row : Row) : (s.rowDone k row).MovedFrom v [] := by
  have hleft : ((s.onSeq k fun q => { q with pendingSet := 0 }).onFormer k Former.rowDone).MovedFrom v [] :=
    (h.of_view (State.onSite_keyView rfl [])).of_view (State.onFormer_keyView _ [] k _)
  unfold State.rowDone
  dsimp only
  split
  · exact hleft.endSite k _
  · exact hleft.unlessStopped (hleft.of_view (State.beginRow_keyView _ [] k _))

theorem burnVerified (h : s.MovedFrom v []) (k : SiteNo) (row : Row) (w : RowVerify) : (s.burnVerified k row w).MovedFrom v [] := by
  unfold State.burnVerified
  dsimp only
  split
  · exact h.endSite k _
  · split
    · exact h.unlessStopped (h.of_view (s.beginAttempt_keyView [] k _ _ _))
    · exact h.rowDone k row

theorem finalVerified (h : s.MovedFrom v []) (k : SiteNo) (row : Row) (w : RowVerify) : (s.finalVerified k row w).MovedFrom v [] := by
  have hfolded : (s.foldFinal k (planImage (s.site k).seq.plan row) w).MovedFrom v [] := h.of_view (State.onSite_keyView rfl [])
  unfold State.finalVerified
  dsimp only
  split
  · exact hfolded.endSite k _
  · split
    · split
      · exact hfolded.unlessStopped (hfolded.of_view (State.beginLocking_keyView _ [] k))
      · exact hfolded.endSite k _
    · refine hfolded.unlessStopped (hfolded.of_view ?_)
      rw [State.issueVerify_keyView]
      exact State.onSite_keyView rfl []

theorem afterVerify (h : s.MovedFrom v []) (k : SiteNo) (row : Row) (w : RowVerify) : (s.afterVerify k row w).MovedFrom v [] := by
  unfold State.afterVerify
  split
  · exact h.blankVerified k row
  · exact h.burnVerified k row w
  · exact h.finalVerified k row w
  · exact h

theorem takeSort (h : s.MovedFrom v []) (k : SiteNo) (sort : PulseSort) : (s.takeSort k sort).MovedFrom v [] := by
  unfold State.takeSort
  split
  · exact h.endSite k _
  · exact h.endSite k _
  · exact h.unlessStopped (h.of_view (s.afterGoodPulse_keyView [] k))

/-! ### The entry to HOLD and its expiry (R87, R89) -/

theorem enterHold (h : s.MovedFrom v gs) : s.enterHold.MovedFrom v gs := by
  have hraised := (h.of_view (s.onSupply_keyView gs Supply.toHold)).raise .supplyHold
  have hkeys : ∀ x : Site, x.noteHold.seq.key = x.seq.key := fun _ => rfl
  exact hraised.of_view (State.onEverySite_keyView hkeys gs)

/-- The sites that hold keys end one after the other, their key grants kept for later (R89). -/
theorem loseAll (h : s.MovedFrom v []) : s.loseAll.1.MovedFrom v s.loseAll.2 := by
  have hlose : ∀ (l : List SiteNo) (acc : State × List KeyGrant), acc.1.MovedFrom v acc.2 →
      (l.foldl loseSupply acc).1.MovedFrom v (l.foldl loseSupply acc).2 := by
    intro l
    induction l with
    | nil => exact fun _ hacc => hacc
    | cons k l ih =>
      intro acc hacc
      rw [List.foldl_cons]
      refine ih (loseSupply acc k) ?_
      dsimp only [loseSupply]
      exact hacc.endSiteWith k .supplyLost
  have hchosen : s.chosen.MovedFrom v [] := h.of_view rfl
  unfold State.loseAll
  exact hlose _ (s.chosen, []) hchosen

theorem expireHold (h : s.MovedFrom v []) : s.expireHold.MovedFrom v [] := by
  have hlost := h.loseAll
  unfold State.expireHold
  generalize s.loseAll = r at hlost ⊢
  exact ((hlost.of_view (State.onSupply_keyView _ _ Supply.toOff)).raise .supplyLost).deliver

/-! ### Stops -/

theorem softStopFrame (h : s.MovedFrom v []) (f : FrameNo) : (s.softStopFrame f).MovedFrom v [] := by
  unfold State.softStopFrame
  split
  · exact State.MovedFrom.everyRunning (s := s.setStop f .soft) (fun k _ ht => ht.takeSoft k) h
  · exact h

theorem hardStopFrame (h : s.MovedFrom v []) (f : FrameNo) : (s.hardStopFrame f).MovedFrom v [] := by
  unfold State.hardStopFrame
  split
  · exact State.MovedFrom.everyRunning (s := s.setStop f .hard) (fun k _ ht => ht.takeHard k) h
  · exact h

theorem takeRunClear (h : s.MovedFrom v []) : s.takeRunClear.MovedFrom v [] := by
  have hhard : ∀ (l : List SiteNo) (t : State), t.MovedFrom v [] → (l.foldl (fun u k => u.takeHard k) t).MovedFrom v [] := fun l _ ht =>
    ht.foldl (act := fun k u => u.takeHard k) (fun k _ hu => hu.takeHard k) l
  unfold State.takeRunClear
  split
  · exact h.of_view (s.supplyRunClear_keyView [])
  · rename_i f _
    exact hhard _ _ ((hhard _ (s.setStop f .runCleared).chosen h).of_view (State.supplyRunClear_keyView _ []))

/-! ### The wafer unit -/

theorem store (h : s.MovedFrom v gs) {a : Nat} {bs : List Byte} (hout : a + bs.length ≤ 0x4000 ∨ 0x8000 ≤ a) :
    (s.store a bs).MovedFrom v gs := h.of_view (State.store_keyView hout gs)

theorem storeFrame (h : s.MovedFrom v gs) {f : FrameNo} {o : Nat} {bs : List Byte} (ho : o + bs.length ≤ 0x800) :
    (s.store (frameBase f + o) bs).MovedFrom v gs := h.of_view (State.store_keyView_frame ho gs)

theorem setWafer (h : s.MovedFrom v gs) (x : WaferState) : State.MovedFrom v gs { s with wafer := x } := h

theorem completeClose (h : s.MovedFrom v gs) : s.completeClose.MovedFrom v gs := by
  have hstored : ((s.store (waferBase + 0x10) (summaryBytes s.summary)).store (waferBase + 0x04) (bytes32 0)).MovedFrom v gs :=
    (h.store (.inl (by rw [s.length_summaryBytes]; decide))).store (.inl (by decide))
  exact (hstored.setWafer .closed).raise .waferClosed

theorem idleReport (h : s.MovedFrom v gs) : s.idleReport.MovedFrom v gs := by
  unfold State.idleReport
  split
  · exact h.completeClose
  · exact h

theorem takeOpen (h : s.MovedFrom v gs) : s.takeOpen.MovedFrom v gs := by
  unfold State.takeOpen
  split
  · exact h.raise _
  · have hstored : (((s.store (waferBase + 0x04) (bytes32 0)).store (waferBase + 0x10) (List.replicate 14 0)).store (waferBase + 0x20)
        (List.replicate 8 0)).MovedFrom v gs := ((h.store (.inl (by decide))).store (.inl (by decide))).store (.inl (by decide))
    exact (hstored.setWafer .opened).raise .waferOpened

theorem takeClose (h : s.MovedFrom v gs) : s.takeClose.MovedFrom v gs := by
  unfold State.takeClose
  split
  · split
    · exact h.completeClose
    · exact h.store (.inl (by decide))
  · exact h

/-! ### Starts and hand-backs -/

theorem setSched (h : s.MovedFrom v gs) (x : Scheduler) : State.MovedFrom v gs { s with sched := x } := h

theorem setFrame (h : s.MovedFrom v gs) (f : FrameNo) (x : FrameState) : (s.setFrame f x).MovedFrom v gs := h

theorem runSite (h : s.MovedFrom v []) (k : SiteNo) (r : Recipe) (x y : Int) : (s.runSite k r x y).MovedFrom v [] := by
  have hcontact : (s.onSite k (Site.enterContact r s.lotTag s.supply.pump x y)).MovedFrom v [] := h.of_view (State.onSite_keyView rfl [])
  unfold State.runSite
  dsimp only
  split
  · exact hcontact.endSite k _
  · exact hcontact

theorem skipSite (h : s.MovedFrom v gs) (k : SiteNo) (why : SkipReason) (x y : Int) : (s.skipSite k why x y).MovedFrom v gs := by
  refine h.of_view ?_
  rw [State.skipSite, State.report_keyView, State.writeRecord_keyView]
  exact State.onSite_keyView rfl gs

theorem handSite (h : s.MovedFrom v []) (f : FrameNo) (r : Recipe) (at_ : State) (k : SiteNo) :
    (State.handSite f r at_ k s).MovedFrom v [] := by
  unfold State.handSite
  split
  · exact h.runSite k r _ _
  · exact h.skipSite k _ _ _

theorem loadFrame (h : s.MovedFrom v gs) (f : FrameNo) (rest : List FrameNo) : (s.loadFrame f rest).MovedFrom v gs := by
  unfold State.loadFrame
  dsimp only
  have hrunning := (h.setSched { s.sched with
    postList := rest, running := some f, stop := .none, ended := Vector.replicate 16 false }).setFrame f .running
  generalize State.setFrame f .running _ = u at hrunning ⊢
  refine hrunning.of_view ?_
  rw [State.watermark_keyView, State.onEverySite_keyView (f := fun x => { x with monitor := x.monitor.loadThresholds u.workingRecipe })
    (fun _ => rfl), State.onSupply_keyView]

theorem startFrame (h : s.MovedFrom v []) (f : FrameNo) (rest : List FrameNo) : (s.startFrame f rest).MovedFrom v [] :=
  (h.loadFrame f rest).foldl (fun k _ ht => ht.handSite f _ _ k) allSites

theorem startIfDue (h : s.MovedFrom v []) : s.startIfDue.MovedFrom v [] := by
  unfold State.startIfDue
  split
  · split
    · exact h.startFrame _ _
    · exact h
  · exact h

/-- A hand-back takes the sites back to IDLE (R59, R146). -/
theorem handBackFrame (h : s.MovedFrom v gs) (f : FrameNo) (kind : Nat) : (s.handBackFrame f kind).MovedFrom v gs := by
  have hclosed : (s.closeFrame f kind).MovedFrom v gs := by
    have hstored := (h.storeFrame (f := f) (o := 0x012) (bs := [nat8 kind]) (show 0x012 + 1 ≤ 0x800 by decide)).storeFrame (f := f)
      (o := 0x019) (bs := [nat8 (s.countDisposition f .bound), nat8 (s.countDisposition f .voided), nat8 (s.countDisposition f .returned)])
      (show 0x019 + 3 ≤ 0x800 by decide)
    exact (hstored.setSched _).raise .frameEnded
  exact (hclosed.letGo (f := Site.returnToIdle) fun _ => .inr rfl).store (.inl (show 0x120 + 8 ≤ 0x4000 by decide))

theorem handBackIfDue (h : s.MovedFrom v []) : s.handBackIfDue.MovedFrom v [] := by
  unfold State.handBackIfDue State.afterHandBack
  split
  · split
    · split
      · exact (h.handBackFrame _ _).idleReport
      · exact (h.handBackFrame _ _).startIfDue
    · exact h
  · exact h

theorem settle (h : s.MovedFrom v []) : s.settle.MovedFrom v [] := by
  unfold State.settle
  generalize s.sched.postList.length + 1 = n
  induction n generalizing s with
  | zero => exact h
  | succ n ih =>
    unfold State.settleFrames
    split
    · exact ih h.handBackIfDue
    · exact h

/-! ### Posts, stop words, RUN and soft reset -/

theorem writeHeader (h : s.MovedFrom v gs) (f : FrameNo) (seq : Word) (reason : Nat) (flags : Word) :
    (s.writeHeader f seq reason flags).MovedFrom v gs :=
  (h.storeFrame (o := 0x008) (bs := bytes32 seq) (show 0x008 + 4 ≤ 0x800 by decide)).storeFrame (o := 0x012)
    (bs := [0, nat8 reason] ++ bytes32 flags ++ [nat8 (s.sitesEnabled f), 0, 0, 0]) (show 0x012 + 10 ≤ 0x800 by decide)

theorem takePost (h : s.MovedFrom v []) (f : FrameNo) : (s.takePost f).MovedFrom v [] := by
  have hstored : (s.store (frameBase f + 0x004) (bytes32 0)).MovedFrom v [] :=
    h.storeFrame (show 0x004 + 4 ≤ 0x800 by decide)
  unfold State.takePost
  dsimp only
  generalize s.store (frameBase f + 0x004) (bytes32 0) = u at hstored ⊢
  split
  · exact ((hstored.writeHeader f _ _ _).setFrame f .rejected).raise .frameEnded
  · exact ((hstored.writeHeader f _ _ _).setSched _).startIfDue

theorem cancelFrame (h : s.MovedFrom v gs) (f : FrameNo) : (s.cancelFrame f).MovedFrom v gs :=
  (h.setSched _).raise .frameEnded

theorem writeStopWord (h : s.MovedFrom v []) (f : FrameNo) (w : Word) : (s.writeStopWord f w).MovedFrom v [] := by
  have hstop : (State.writeBackStop f
      (if w = softValue then s.softStopFrame f else if w = hardValue then s.hardStopFrame f else s)).MovedFrom v [] := by
    refine State.MovedFrom.storeFrame ?_ (show 0x004 + 4 ≤ 0x800 by decide)
    split
    · exact h.softStopFrame f
    · split
      · exact h.hardStopFrame f
      · exact h
  have hstored : ∀ x : Word, (s.store (frameBase f + 0x004) (bytes32 x)).MovedFrom v [] :=
    fun _ => h.storeFrame (show 0x004 + 4 ≤ 0x800 by decide)
  unfold State.writeStopWord
  split
  · split
    · unfold State.reportIfIdle
      split
      · exact ((hstored w).cancelFrame f).idleReport
      · exact (hstored w).cancelFrame f
    · exact hstored 0
  · exact hstop
  · exact hstop
  · exact hstored w

/-- A soft reset: the requests are withdrawn before any key is settled, and every site starts anew (R58, R132, R149). -/
theorem beginSoftReset (h : s.MovedFrom v []) : s.beginSoftReset.MovedFrom v [] := by
  have hquiet : ∀ k : SiteNo, look (Vector.replicate 16 (none : Option KeyLength)) k = none := fun k => look_replicate _ _
  have hwithdrawn : (State.withdrawAll { s with run := false, softReset := true }).MovedFrom v [] :=
    h.unwait ⟨Vector.replicate 16 none, s.pool.watermark, rfl, fun k => .inr (hquiet k)⟩ rfl rfl rfl
  have hended := State.MovedFrom.everyRunning (act := State.takeReset) (fun k _ ht => ht.takeReset k) hwithdrawn
  unfold State.beginSoftReset
  dsimp only
  generalize State.everyRunning State.takeReset (State.withdrawAll { s with run := false, softReset := true }) = u at hended ⊢
  have hback : u.resetFrame.MovedFrom v [] := by
    unfold State.resetFrame
    split
    · exact hended.handBackFrame _ _
    · exact hended
  have hcancelled := hback.foldl (act := fun f t => t.cancelFrame f) (fun f _ ht => ht.cancelFrame f) u.resetFrame.sched.postList
  generalize u.resetFrame.sched.postList.foldl (fun t f => t.cancelFrame f) u.resetFrame = w at hcancelled ⊢
  have hreset : (w.onEverySite fun _ => .reset).MovedFrom v [] := hcancelled.letGo fun _ => .inr rfl
  refine hreset.unwait (t := w.resetBlocks) ⟨Vector.replicate 16 none, 0, rfl, fun k => .inr (hquiet k)⟩ rfl rfl ?_
  refine look_ext fun k => ?_
  show look (Vector.replicate 16 Site.reset) k = look (Vector.ofFn fun _ => Site.reset) k
  rw [look_replicate, look_ofFn]

theorem writeRunCtrl (h : s.MovedFrom v []) (value : Word) : (s.writeRunCtrl value).MovedFrom v [] := by
  unfold State.writeRunCtrl
  split
  · exact h
  · split
    · exact h.beginSoftReset
    · split
      · exact h
      · split
        · exact ((State.MovedFrom.startIfDue (s := { s with run := true }) h).of_view (State.supplyRunSet_keyView _ [])).settle
        · exact (State.MovedFrom.takeRunClear (s := { s with run := false }) h).settle

/-- Writes of the register window to any word but that of ATTN. -/
theorem registerWrite (h : s.MovedFrom v []) {w : WordNo} (hw : w ≠ 2) (value : Word) : (s.registerWrite w value).MovedFrom v [] := by
  rw [State.registerWrite, if_neg hw]
  split
  · exact h
  · split
    · exact h.writeRunCtrl value
    · split
      · exact h
      · exact h

end State.MovedFrom

end Sys2Proof.Machine

/-!
PROOF. Every command as moves of the keys, and what every step keeps of them (R113 to R132, R172): O6, O7, O10.
-/

namespace Sys2Proof.Machine

/-! ### Loads, reclaims and withdrawals (R115 to R119) -/

@[simp] theorem State.clearDisposition_keyView (s : State) (gs : List KeyGrant) (i : SlotNo) (reason : Nat) :
    (s.clearDisposition i reason).keyView gs = s.keyView gs := by
  rw [State.clearDisposition, State.store_keyView_before (show 0x0E + 14 ≤ 0x20 by decide),
    State.store_keyView_before (show 0x0C + 1 ≤ 0x20 by decide), State.store_keyView_before (show 0x04 + 1 ≤ 0x20 by decide)]

theorem State.setSlot_keyView (s : State) (gs : List KeyGrant) (i : SlotNo) (x : SlotState) :
    (s.setSlot i x).keyView gs = { s.keyView gs with slots := put s.pool.slots i x } := rfl

theorem State.refused_keyView (s : State) (gs : List KeyGrant) :
    (s.onPool fun p => { p with refused := sat16 (p.refused + 1) }).keyView gs = s.keyView gs := rfl

theorem State.droppedWrites_keyView (s : State) (gs : List KeyGrant) (n : Nat) :
    State.keyView { s with droppedWrites := n } gs = s.keyView gs := rfl

theorem State.acceptLoad_keyView (s : State) (gs : List KeyGrant) (i : SlotNo) : (s.acceptLoad i).keyView gs = { s.keyView gs with
    slots := put s.pool.slots i .loaded, loadedCount := s.pool.loadedCount + 1, highMark := s.slotSerial i } := by
  have hfields : ∀ u : State, (u.onPool fun p => { p with highMark := s.slotSerial i, loadedCount := p.loadedCount + 1 }).keyView gs
      = { u.keyView gs with loadedCount := u.pool.loadedCount + 1, highMark := s.slotSerial i } := fun _ => rfl
  have hpool : (State.clearDisposition i 0 (s.setSlot i .loaded)).pool = (s.setSlot i .loaded).pool := by
    simp only [State.clearDisposition, State.store_pool]
  rw [State.acceptLoad, hfields, State.clearDisposition_keyView, hpool, State.setSlot_keyView]
  rfl

/-- A load that is not refused has a key with a byte that is not 00h, and a serial above the high mark (R116). -/
theorem State.loadRefusal_eq_none {s : State} {i : SlotNo} (h : s.loadRefusal i = none) :
    FieldIsNonzero (Memory.keyField s.mem i) ∧ s.pool.highMark < s.slotSerial i := by
  unfold State.loadRefusal at h
  split at h
  · cases h
  · rename_i hkey
    split at h
    · cases h
    · rename_i hserial
      refine ⟨?_, BitVec.not_le.1 hserial⟩
      by_contra hzero
      refine hkey (List.eq_replicate_iff.2 ⟨by simp [State.slotKey, Memory.readBytes], fun b hb => ?_⟩)
      obtain ⟨n, hn, rfl⟩ := List.mem_map.1 hb
      have hlt := List.mem_range.1 hn
      by_contra hne
      exact hzero ⟨⟨n, by omega⟩, hlt, hne⟩

theorem slotRequest_owner {x : SlotState} {v : Word} (h : slotRequest x v = .load ∨ slotRequest x v = .reclaim) : x.partOwned = false := by
  cases x with
  | empty | refused | bound | voided => rfl
  | drawn => exact absurd h (by simp [slotRequest])
  | loaded =>
    unfold slotRequest at h
    dsimp only at h
    split at h
    · exact absurd h (by simp)
    · exact absurd h (by simp)

theorem slotRequest_withdraw {x : SlotState} {v : Word} (h : slotRequest x v = .withdraw) : x = .loaded := by
  unfold slotRequest at h
  split at h
  · cases h
  · rfl
  · split at h
    · cases h
    · cases h
  all_goals
    split at h
    · cases h
    · split at h
      · cases h
      · cases h

namespace State.MovedFrom

variable {v : KeyView} {gs : List KeyGrant} {s t : State}

/-- A tester-owned slot takes another tester-owned state. -/
theorem setSlot (h : s.MovedFrom v gs) {i : SlotNo} {x : SlotState} (howner : (s.slotState i).partOwned = false) (hx : x.partOwned = false) :
    (s.setSlot i x).MovedFrom v gs := by
  refine h.move ?_
  have hmove := KeyMove.rewrite (s.keyView gs) i x ((s.keyView gs).bytes i) howner hx
  rw [Function.update_eq_self] at hmove
  exact hmove

/-- Bytes of a tester-owned slot are written (R115, R118, R163). -/
theorem storeSlot (h : s.MovedFrom v gs) {i : SlotNo} (howner : (s.slotState i).partOwned = false) {a : Nat} {bs : List Byte}
    (hlo : slotBase i ≤ a) (hhi : a + bs.length ≤ slotBase i + 0x40) : (s.store a bs).MovedFrom v gs := by
  refine h.move ?_
  have hview : (s.store a bs).keyView gs = { s.keyView gs with
      bytes := Function.update (Memory.keyField s.mem) i (Memory.keyField (Memory.writeBytes s.mem a bs) i) } := by
    rw [← Memory.keyField_writeBytes_slot s.mem hlo hhi]
    rfl
  have hmove := KeyMove.rewrite (s.keyView gs) i (s.slotState i) (Memory.keyField (Memory.writeBytes s.mem a bs) i) howner howner
  rw [hview]
  rw [show put (s.keyView gs).slots i (s.slotState i) = (s.keyView gs).slots from put_look _ _] at hmove
  exact hmove

theorem takeLoad (h : s.MovedFrom v []) {i : SlotNo} (howner : (s.slotState i).partOwned = false) : (s.takeLoad i).MovedFrom v [] := by
  unfold State.takeLoad
  split
  · rename_i why _
    have hrefused := (h.setSlot howner (x := .refused) rfl).of_view (State.clearDisposition_keyView _ [] i why.code)
    have htally := hrefused.of_view (State.refused_keyView _ [])
    exact htally.raise .slotRefused
  · rename_i hnone
    obtain ⟨hkey, hserial⟩ := State.loadRefusal_eq_none hnone
    have hfill : KeyFill (s.keyView []) ((s.acceptLoad i).keyView []) := by
      rw [State.acceptLoad_keyView]
      exact .load (s.keyView []) i _ howner hkey hserial
    have hserved := h.fill hfill
    rw [List.nil_append] at hserved
    exact hserved.deliver

theorem takeReclaim (h : s.MovedFrom v gs) {i : SlotNo} (howner : (s.slotState i).partOwned = false) : (s.takeReclaim i).MovedFrom v gs := by
  have hempty := h.setSlot howner (x := .empty) rfl
  have hslot : ((s.setSlot i .empty).slotState i).partOwned = false := by
    rw [State.slotState, State.setSlot_pool, look_put_same]
    rfl
  have hreason : ((s.setSlot i .empty).store (slotBase i + 0x04) [0]).MovedFrom v gs :=
    hempty.storeSlot hslot (Nat.le_add_right _ _) (by rw [List.length_singleton]; omega)
  exact hreason.storeSlot hslot (Nat.le_add_right _ _) (by rw [List.length_replicate])

theorem takeWithdraw (h : s.MovedFrom v gs) {i : SlotNo} (hloaded : s.slotState i = .loaded) : (s.takeWithdraw i).MovedFrom v gs := by
  obtain ⟨raised, hlower⟩ := State.lowerLoaded_cases
    (((s.setSlot i .empty).store (slotBase i + 0x20) (List.replicate 32 0)).onPool fun p =>
      { p with redraw := p.redraw.filter fun j => j != i })
  refine h.move ?_
  have hmove := KeyMove.withdraw (s.keyView gs) i (fun _ => 0) raised hloaded
  have hwiped := Memory.keyField_wiped s.mem i
  rw [State.takeWithdraw, hlower]
  generalize List.replicate 32 (0 : Byte) = zeros at hwiped ⊢
  rw [State.keyView_bytes, ← hwiped] at hmove
  exact hmove

theorem dropWrite (h : s.MovedFrom v gs) : s.dropWrite.MovedFrom v gs := (h.of_view (State.droppedWrites_keyView s gs _)).raise .writeDropped

theorem writeSlotState (h : s.MovedFrom v []) (i : SlotNo) (w : Word) : (s.writeSlotState i w).MovedFrom v [] := by
  unfold State.writeSlotState
  split
  · exact h.takeLoad (slotRequest_owner (.inl ‹_›))
  · exact h.takeReclaim (slotRequest_owner (.inr ‹_›))
  · exact h.takeWithdraw (slotRequest_withdraw ‹_›)
  · exact h
  · exact h.dropWrite

theorem setSoftReset (h : s.MovedFrom v gs) (x : Bool) : State.MovedFrom v gs { s with softReset := x } := h

/-! ### Tester writes (R163, R166, R168) -/

theorem writeFrameState (h : s.MovedFrom v []) (f : FrameNo) (w : Word) : (s.writeFrameState f w).MovedFrom v [] := by
  unfold State.writeFrameState
  split
  · exact h.dropWrite
  · split
    · exact (h.takePost f).settle
    · split
      · exact h.setFrame f .free
      · exact h

theorem writeWaferState (h : s.MovedFrom v gs) (w : Word) : (s.writeWaferState w).MovedFrom v gs := by
  unfold State.writeWaferState
  split
  · exact h.dropWrite
  · split
    · exact h.takeOpen
    · exact h

/-- A word outside the slots is stored. -/
theorem storeWord (h : s.MovedFrom v gs) {w : WordNo} (hout : wordOffset w + 4 ≤ 0x4000 ∨ 0x8000 ≤ wordOffset w) (x : Word) :
    (s.storeWord w x).MovedFrom v gs := h.store (bs := bytes32 x) hout

theorem writeData (h : s.MovedFrom v gs) {w : WordNo} (hout : wordOffset w + 4 ≤ 0x4000 ∨ 0x8000 ≤ wordOffset w) (partOwned : Bool)
    (x : Word) :
    (s.writeData partOwned w x).MovedFrom v gs := by
  unfold State.writeData
  split
  · exact h.dropWrite
  · exact h.storeWord hout x

theorem writeWaferRequest (h : s.MovedFrom v gs) {w : WordNo} (hw : wordOffset w = 0x104) (x : Word) :
    (s.writeWaferRequest w x).MovedFrom v gs := by
  unfold State.writeWaferRequest
  split
  · exact h.storeWord (.inl (by omega)) x
  · refine State.MovedFrom.store ?_ (.inl (show waferBase + 0x04 + 4 ≤ 0x4000 by decide))
    split
    · exact h.takeClose
    · exact h

theorem writeSlotData (h : s.MovedFrom v gs) {w : WordNo} {i : SlotNo} (hlo : slotBase i ≤ wordOffset w)
    (hhi : wordOffset w + 4 ≤ slotBase i + 0x40) (x : Word) : (s.writeData (s.slotState i).partOwned w x).MovedFrom v gs := by
  unfold State.writeData
  split
  · exact h.dropWrite
  · exact h.storeSlot (bs := bytes32 x) (Bool.eq_false_iff.2 ‹_›) hlo hhi

theorem testerWrite (h : s.MovedFrom v []) (w : WordNo) (lanes : Lanes) (data : Word) : (s.testerWrite w lanes data).MovedFrom v [] := by
  have hplace := wordKind_liesAt w
  unfold State.testerWrite
  split
  · exact h
  · generalize s.writtenValue w lanes data = x
    unfold State.takeWrite
    cases hkind : wordKind w with
    | header => exact h.dropWrite
    | waferState => exact h.writeWaferState x
    | waferRequest =>
      rw [hkind] at hplace
      exact h.writeWaferRequest hplace x
    | waferData | frameData | map =>
      rw [hkind] at hplace
      exact h.writeData hplace _ x
    | recipe =>
      rw [hkind] at hplace
      exact h.storeWord hplace x
    | frameState f => exact h.writeFrameState f x
    | frameStop f => exact (h.writeStopWord f x).settle
    | slotState i => exact h.writeSlotState i x
    | slotData i =>
      rw [hkind] at hplace
      exact h.writeSlotData hplace.1 hplace.2 x
    | unmapped => exact h

end State.MovedFrom

/-! ### Commands -/

section Commands

variable {v : KeyView} {s : State}

theorem execReadACompletion_moves (h : s.MovedFrom v []) (k : SiteNo) (codes : LaneCodes) :
    LeadsTo (State.MovedFrom v []) (execReadACompletion k codes s) := by
  unfold execReadACompletion
  split
  · exact .ite (.next ((h.of_view (State.onSite_keyView rfl [])).of_view (State.issueOp_keyView _ [] k _)))
      (.next (h.of_view (s.dropOp_keyView [] k)))
  · exact .next h

theorem execVerifyCompletion_moves (h : s.MovedFrom v []) (k : SiteNo) (codes : LaneCodes) :
    LeadsTo (State.MovedFrom v []) (execVerifyCompletion k codes s) := by
  unfold execVerifyCompletion
  split
  · exact .ite (.next (((h.of_view (s.recordVerify_keyView [] k _ _)).afterVerify k _ _).settle)) (.next (h.of_view (s.dropOp_keyView [] k)))
  · exact .next h

theorem execKeyDraw_moves (h : s.MovedFrom v []) : LeadsTo (State.MovedFrom v []) (execKeyDraw s) := by
  unfold execKeyDraw
  split
  · exact .next h
  · split
    · exact .next h
    · exact .next (h.draw ‹_›)

/-- The commands that clear causes: a write of ATTN, in either row, and the completion of a soft reset (R172, R176). -/
def ClearsCauses (c : Instr) : Prop :=
  (∃ value, c = .attnWrite value) ∨ (∃ value, c = .registerWriteOther 2 value) ∨ c = .softResetCompletion

/-- Every command but power-on reset and those that clear causes is made of moves of the keys. -/
theorem exec_moves {c : Instr} (hpower : c ≠ .powerOnReset) (hclear : ¬ ClearsCauses c) (h : s.MovedFrom v []) :
    LeadsTo (State.MovedFrom v []) (exec c s) := by
  cases c with
  | powerOnReset => exact absurd rfl hpower
  | attnWrite value => exact absurd (.inl ⟨value, rfl⟩) hclear
  | softResetCompletion => exact absurd (.inr (.inr rfl)) hclear
  | registerWriteOther w value =>
    refine .next (h.registerWrite (fun hw => hclear ?_) value)
    rw [hw]
    exact .inr (.inl ⟨value, rfl⟩)
  | initialisationEnd => exact .ite (.next (State.MovedFrom.raise (s := { s with initialising := false }) h .resetDone)) (.next h)
  | runSet value | runClear value | softReset value | attnEnWrite value => exact .next (h.registerWrite (by decide) value)
  | post _ lanes | release _ lanes | softStop _ lanes | hardStop _ lanes | load _ lanes | reclaim _ lanes | withdraw _ lanes
  | openWafer lanes | closeWafer lanes | watchedWordNoRequest _ lanes _ | dataWordWrite _ lanes _
  | droppedWatchedWordWrite _ lanes _ => exact .next (h.testerWrite _ lanes _)
  | frameStart => exact .next h.startIfDue.settle
  | handBack => exact .next h.settle
  | closeCompletion => exact .ite (.next h.idleReport) (.next h)
  | contactSample k code => exact .ite (.next (h.of_view (s.takeSample_keyView [] k code))) (.next h)
  | contactTimerExpiry k | keyWaitExpiry k => exact .ite (.next (h.endSite k _).settle) (.next h)
  | referenceReadCompletion k o b =>
    exact .ite (.ite (.next ((h.of_view (s.recordRefs_keyView [] k o b)).afterRefs k o b).settle)
      (.next (h.of_view (s.dropOp_keyView [] k)))) (.next h)
  | readACompletion k codes => exact execReadACompletion_moves h k codes
  | verifyCompletion k codes => exact execVerifyCompletion_moves h k codes
  | keyDraw => exact execKeyDraw_moves h
  | budgetGrant => exact .next (h.of_view (s.evaluate_keyView []))
  | pulseCompletion k sample => exact .ite (.next ((h.of_view (s.completePulse_keyView [] k)).takeSort k _).settle) (.next h)
  | overcurrentEvent k sample =>
    exact .ite (.ite (.next ((h.of_view (s.truncatePulse_keyView [] k)).endSite k _).settle)
      (.next (h.of_view (s.onMonitor_keyView [] k _)))) (.next h)
  | thermalReading k celsius =>
    have hread := h.of_view (s.onMonitor_keyView [] k (Monitor.takeReading (s.site k).seq.state.isRunning (clampCelsius celsius)))
    exact .ite (.next (hread.thermalEvent k).settle) (.next hread)
  | settleTimerExpiry | wakeTimerExpiry => exact .ite (.next (h.of_view (s.enterReady_keyView []))) (.next h)
  | idleTimerExpiry | supplyGoodEvent => exact .ite (.next (h.of_view (s.onSupply_keyView [] _))) (.next h)
  | undervoltageEvent => exact .ite (.next h.enterHold) (.next h)
  | holdExpiry => exact .ite (.next h.expireHold.settle) (.next h)
  | offPendingCompletion => exact .next (h.of_view (s.completeOffPending_keyView []))

/-- The keys of state s may have lost causes before the moves that lead on from it. -/
def State.ClearedFrom (s t : State) : Prop := ∃ a, t.MovedFrom { s.keyView [] with attn := a } []

theorem State.ClearedFrom.refl (s : State) : s.ClearedFrom s := ⟨s.attn, .refl⟩

/-- A write of ATTN clears causes and nothing else (R172). -/
theorem State.registerWrite_attn_clearedFrom (s : State) (value : Word) : s.ClearedFrom (s.registerWrite 2 value) := by
  unfold State.registerWrite
  split
  · exact .refl s
  · exact ⟨s.attn &&& ~~~(value.setWidth 11), .refl⟩

/-- The completion of a soft reset clears every cause before it raises its own (R176). -/
theorem State.completeReset_clearedFrom (s : State) : s.ClearedFrom s.completeReset := by
  have hkeys : ∀ a, State.keyView { s.onEverySite (fun x => { x with monitor := .reset }) with attn := a } []
      = { s.keyView [] with attn := a } := fun a => by
    rw [← State.onEverySite_keyView (s := s) (f := fun x => { x with monitor := .reset }) (fun _ => rfl) []]
    rfl
  have hcleared : State.MovedFrom { s.keyView [] with attn := 0 } []
      { s.onEverySite (fun x => { x with monitor := .reset }) with attn := 0 } := by
    rw [State.MovedFrom, hkeys]
  exact ⟨0, ((hcleared.raise .resetDone).setSoftReset false).idleReport⟩

/-- A write of ATTN, in either row, and the completion of a soft reset move the keys on from what the causes cleared leave (R172, R176). -/
theorem exec_clears {c : Instr} (hclear : ClearsCauses c) : LeadsTo s.ClearedFrom (exec c s) := by
  obtain ⟨value, rfl⟩ | ⟨value, rfl⟩ | rfl := hclear
  · exact .next (s.registerWrite_attn_clearedFrom value)
  · exact .next (s.registerWrite_attn_clearedFrom value)
  · exact .ite (.next s.completeReset_clearedFrom) (.next (.refl s))

end Commands

/-! ### What the views say of the states -/

/-- The pool of a state is coherent exactly if its keys are sound and the pool is dry while a site waits (R120, R123, R131). -/
theorem State.poolCoherent_iff (s : State) : s.PoolCoherent ↔ (s.keyView []).Sound ∧ (s.keyView []).Dry := by
  constructor
  · intro h
    have hdry := h.dry
    obtain ⟨hcount, hdistinct, hredrawn, hheld, hapart, -⟩ := h
    exact ⟨⟨hcount, hdistinct, hredrawn, hheld, nofun, hapart, List.nodup_nil, fun _ _ _ => nofun⟩, hdry⟩
  · intro ⟨⟨hcount, hdistinct, hredrawn, hclaims⟩, hdry⟩
    refine ⟨hcount, hdistinct, hredrawn, hclaims.held, hclaims.heldApart, fun hwait => ?_⟩
    obtain ⟨-, hnone⟩ := hdry hwait
    rw [show s.pool.loadedCount = _ from hcount, loadedIn, List.countP_eq_zero]
    exact fun i _ => by simpa using hnone i

theorem State.drawnWiped_iff (s : State) : s.DrawnWiped ↔ (s.keyView []).Wiped :=
  ⟨fun h i hi n => h i hi n.val n.isLt, fun h i hi j hj => h i hi ⟨j, hj⟩⟩

theorem State.keysNonzero_iff (s : State) : s.KeysNonzero ↔ (s.keyView []).Nonzero := by
  constructor
  · intro ⟨hloaded, hheld⟩
    refine ⟨fun i hi => ?_, hheld, nofun⟩
    obtain ⟨j, hj, hne⟩ := hloaded i hi
    exact ⟨⟨j, by omega⟩, hj, hne⟩
  · intro ⟨hloaded, hheld, _⟩
    refine ⟨fun i hi => ?_, hheld⟩
    obtain ⟨n, hn, hne⟩ := hloaded i hi
    exact ⟨n.val, hn, hne⟩

/-! ### Steps -/

/-- A property of the keys that does not look at the causes and that every move keeps. -/
structure KeptByMoves (P : KeyView → Prop) : Prop where
  attn : ∀ {v} (a : BitVec 11), P v → P { v with attn := a }
  move : ∀ {v w}, KeyMove v w → P v → P w

/-- A step keeps what every move keeps and what holds after power-on reset. -/
theorem step_keeps {P : KeyView → Prop} (hP : KeptByMoves P) (hreset : P (State.reset.keyView [])) {s t : State} (h : P (s.keyView []))
    (hstep : step s = .next t) : P (t.keyView []) := by
  unfold step at hstep
  split at hstep
  · cases hstep
    exact h
  · rename_i c rest _
    by_cases hpower : c = .powerOnReset
    · subst hpower
      cases hstep
      exact hreset
    by_cases hclear : ClearsCauses c
    · obtain ⟨a, hmoves⟩ := exec_clears hclear t hstep
      exact KeyMoves.keeps hP.move hmoves (hP.attn a h)
    · have hmoves := exec_moves hpower hclear (s := { s with pending := rest }) (v := s.keyView []) .refl t hstep
      exact KeyMoves.keeps hP.move hmoves h

theorem KeyView.Sound.setAttn {v : KeyView} (h : v.Sound) (a : BitVec 11) : KeyView.Sound { v with attn := a } :=
  ⟨h.count, h.distinct, h.redrawn, h.claims⟩

/-- Settles O6: whatever a command does with keys is a sequence of moves, each of which keeps counts, claims and the dry pool of waiting
sites. -/
theorem stepKeepsPoolCoherent : Obligations.StepKeepsPoolCoherent := fun s t hs hstep =>
  have hP : KeptByMoves fun v => v.Sound ∧ v.Dry :=
    ⟨fun a ⟨hsound, hdry⟩ => ⟨hsound.setAttn a, hdry⟩, fun hmove ⟨hsound, hdry⟩ => ⟨hmove.sound hsound, hmove.dry hdry⟩⟩
  t.poolCoherent_iff.2 (step_keeps hP (State.reset.poolCoherent_iff.1 reset_poolCoherent) (s.poolCoherent_iff.1 hs) hstep)

/-- Settles O7: a draw wipes the key field as the slot becomes DRAWN, and no other move touches a slot that stays DRAWN; a key comes into
the pool by a load, which refuses a key of zeros, or back from a site. -/
theorem stepKeepsDrawnSlotsWiped : Obligations.StepKeepsDrawnSlotsWiped := by
  constructor
  · intro s t hs hstep
    have hP : KeptByMoves KeyView.Wiped := ⟨fun _ h => h, KeyMove.wiped⟩
    exact t.drawnWiped_iff.2 (step_keeps hP (State.reset.drawnWiped_iff.1 reset_drawnWiped) (s.drawnWiped_iff.1 hs) hstep)
  · intro s t hpool hs hstep
    have hP : KeptByMoves fun v => v.Sound ∧ v.Nonzero :=
      ⟨fun a ⟨hsound, hnonzero⟩ => ⟨hsound.setAttn a, hnonzero.loaded, hnonzero.held, hnonzero.granted⟩,
        fun hmove ⟨hsound, hnonzero⟩ => ⟨hmove.sound hsound, hmove.nonzero hsound hnonzero⟩⟩
    obtain ⟨hreset, -⟩ := State.reset.poolCoherent_iff.1 reset_poolCoherent
    obtain ⟨hsound, -⟩ := s.poolCoherent_iff.1 hpool
    obtain ⟨-, hnonzero⟩ :=
      step_keeps hP ⟨hreset, State.reset.keysNonzero_iff.1 reset_keysNonzero⟩ ⟨hsound, s.keysNonzero_iff.1 hs⟩ hstep
    exact t.keysNonzero_iff.2 hnonzero

/-- Settles O10: no move clears a cause or lowers the high mark; the commands that clear causes do nothing else that is not a move. -/
theorem causesStayAndTheHighMarkNeverFalls : Obligations.CausesStayAndTheHighMarkNeverFalls := by
  intro c s t hpower hexec
  by_cases hclear : ClearsCauses c
  · obtain ⟨a, hmoves⟩ := exec_clears hclear t hexec
    refine ⟨(KeyMoves.rises hmoves).highMark, fun hattn hother hreset => ?_⟩
    obtain ⟨value, rfl⟩ | ⟨value, rfl⟩ | rfl := hclear
    · exact absurd rfl (hattn value)
    · exact absurd rfl (hother value)
    · exact absurd rfl hreset
  · have hrises := KeyMoves.rises (exec_moves hpower hclear (v := s.keyView []) .refl t hexec)
    exact ⟨hrises.highMark, fun _ _ _ => hrises.attn⟩

end Sys2Proof.Machine

/-!
PROOF. Loads, reclaims and withdrawals of a slot as whole states (R115 to R121): O28, O29, O30.
-/

namespace Sys2Proof.Machine

/-! ### The request in a slot state word (R115) -/

section SlotWord

variable {s : State} {i : SlotNo} {lanes : Lanes}

theorem slotRequest_load {x : SlotState} (howner : x.partOwned = false) : slotRequest x 1 = .load := by
  cases x with
  | empty | refused | bound | voided => rfl
  | loaded | drawn => cases howner

theorem slotRequest_reclaim {x : SlotState} (hx : x = .refused ∨ x = .bound ∨ x = .voided) : slotRequest x 0 = .reclaim := by
  obtain rfl | rfl | rfl := hx
  all_goals rfl

theorem State.takeWrite_slotStateWord (s : State) (i : SlotNo) (v : Word) : s.takeWrite (slotStateWord i) v = s.writeSlotState i v := by
  simp only [State.takeWrite, wordKind_slotStateWord]

theorem exec_load (hinit : s.initialising = false) (hreset : s.softReset = false)
    (hvalue : s.writtenValue (slotStateWord i) lanes loadedValue = 1) (howner : (s.slotState i).partOwned = false) : exec (.load i lanes) s = .next (s.takeLoad i) := by
  show Host.Outcome.next (s.testerWrite (slotStateWord i) lanes loadedValue) = _
  rw [State.testerWrite_eq hinit hreset, hvalue, State.takeWrite_slotStateWord, State.writeSlotState, slotRequest_load howner]

theorem exec_reclaim (hinit : s.initialising = false) (hreset : s.softReset = false)
    (hvalue : s.writtenValue (slotStateWord i) lanes emptyValue = 0)
    (hstate : s.slotState i = .refused ∨ s.slotState i = .bound ∨ s.slotState i = .voided) :
    exec (.reclaim i lanes) s = .next (s.takeReclaim i) := by
  show Host.Outcome.next (s.testerWrite (slotStateWord i) lanes emptyValue) = _
  rw [State.testerWrite_eq hinit hreset, hvalue, State.takeWrite_slotStateWord, State.writeSlotState, slotRequest_reclaim hstate]

theorem exec_withdraw (hinit : s.initialising = false) (hreset : s.softReset = false)
    (hvalue : s.writtenValue (slotStateWord i) lanes withdrawValue = 6) (hstate : s.slotState i = .loaded) :
    exec (.withdraw i lanes) s = .next (s.takeWithdraw i) := by
  show Host.Outcome.next (s.testerWrite (slotStateWord i) lanes withdrawValue) = _
  rw [State.testerWrite_eq hinit hreset, hvalue, State.takeWrite_slotStateWord, State.writeSlotState, hstate]
  rfl

end SlotWord

/-! ### The disposition fields of a load (R116, R117) -/

/-- Exchange memory with the refusal reason of slot i written and its disposition fields cleared. -/
def Memory.judged (m : Memory) (i : SlotNo) (reason : Nat) : Memory :=
  Memory.writeBytes (Memory.writeBytes (Memory.writeBytes m (slotBase i + 0x04) [nat8 reason]) (slotBase i + 0x0C) [0]) (slotBase i + 0x0E)
    (List.replicate 14 0)

theorem State.clearDisposition_eq (s : State) (i : SlotNo) (reason : Nat) :
    s.clearDisposition i reason = { s with mem := Memory.judged s.mem i reason } := by
  unfold State.clearDisposition Memory.judged
  generalize List.replicate 14 (0 : Byte) = zeros
  rfl

section Judged

variable (m : Memory) (i : SlotNo) (reason : Nat)

theorem Memory.read_judged_reason : Memory.read (Memory.judged m i reason) (slotBase i + 0x04) = nat8 reason := by
  rw [Memory.judged, Memory.read_writeBytes_outside _ _ (.inl (by omega)), Memory.read_writeBytes_outside _ _ (.inl (by omega))]
  exact Memory.read_writeBytes_inside m (slotBase i + 0x04) (i := 0) Nat.one_pos

theorem Memory.read_judged_site : Memory.read (Memory.judged m i reason) (slotBase i + 0x0C) = 0 := by
  rw [Memory.judged, Memory.read_writeBytes_outside _ _ (.inl (by omega))]
  exact Memory.read_writeBytes_inside _ (slotBase i + 0x0C) (i := 0) Nat.one_pos

theorem Memory.read_judged_fields {j : Nat} (hlo : 0x0E ≤ j) (hhi : j < 0x1C) :
    Memory.read (Memory.judged m i reason) (slotBase i + j) = 0 := by
  rw [Memory.judged, show slotBase i + j = slotBase i + 0x0E + (j - 0x0E) by omega]
  exact Memory.read_writeBytes_zeros _ _ 14 (by omega)

theorem Memory.read_judged_other {a : Nat} (hreason : a ≠ slotBase i + 0x04) (hsite : a ≠ slotBase i + 0x0C)
    (hfields : a < slotBase i + 0x0E ∨ slotBase i + 0x1C ≤ a) : Memory.read (Memory.judged m i reason) a = Memory.read m a := by
  rw [Memory.judged, Memory.read_writeBytes_outside _ _ (by rw [List.length_replicate]; omega),
    Memory.read_writeBytes_outside _ _ (by rw [List.length_singleton]; omega),
    Memory.read_writeBytes_outside _ _ (by rw [List.length_singleton]; omega)]

end Judged

/-! ### Refused and accepted loads -/

/-- A load is refused for the reason that comes first (R116). -/
theorem State.loadRefusal_eq_some {s : State} {i : SlotNo} {reason : Nat}
    (h : ((∀ j < 16, Memory.read s.mem (slotBase i + 0x20 + j) = 0) ∧ reason = 1)
      ∨ ((∃ j < 16, Memory.read s.mem (slotBase i + 0x20 + j) ≠ 0) ∧ s.slotSerial i ≤ s.pool.highMark ∧ reason = 2)) :
    ∃ why, s.loadRefusal i = some why ∧ why.code = reason := by
  have hzero : s.slotKey i 16 = List.replicate 16 0 ↔ ∀ j < 16, Memory.read s.mem (slotBase i + 0x20 + j) = 0 := by
    rw [List.eq_replicate_iff]
    simp [State.slotKey, Memory.readBytes]
  obtain ⟨hkey, rfl⟩ | ⟨⟨j, hj, hne⟩, hserial, rfl⟩ := h
  · exact ⟨.zeroKey, if_pos (hzero.2 hkey), rfl⟩
  · refine ⟨.serialOrder, ?_, rfl⟩
    rw [State.loadRefusal, if_neg fun hkey => hne (hzero.1 hkey j hj), if_pos hserial]

theorem State.loadRefusal_accepts {s : State} {i : SlotNo} (hkey : ∃ j < 16, Memory.read s.mem (slotBase i + 0x20 + j) ≠ 0)
    (hserial : s.pool.highMark < s.slotSerial i) : s.loadRefusal i = none := by
  obtain ⟨j, hj, hne⟩ := hkey
  have hnonzero : s.slotKey i 16 ≠ List.replicate 16 0 := fun hzero =>
    hne ((List.eq_replicate_iff.1 hzero).2 _ (List.mem_map.2 ⟨j, List.mem_range.2 hj, rfl⟩))
  rw [State.loadRefusal, if_neg hnonzero, if_neg (BitVec.not_le.2 hserial)]

theorem State.refuseLoad_eq (s : State) (i : SlotNo) (why : RefusalReason) : s.refuseLoad i why = { s with
    mem := Memory.judged s.mem i why.code
    attn := s.attn ||| 0x010#11
    pool := { s.pool with slots := put s.pool.slots i .refused, refused := min (s.pool.refused + 1) 0xFFFF } } := by
  rw [State.refuseLoad, State.clearDisposition_eq]
  generalize hm : Memory.judged s.mem i why.code = m
  have hmem : Memory.judged (s.setSlot i .refused).mem i why.code = m := hm
  rw [hmem]
  rfl

theorem State.acceptLoad_eq (s : State) (i : SlotNo) : s.acceptLoad i = { s with
    mem := Memory.judged s.mem i 0
    pool := { s.pool with
      slots := put s.pool.slots i .loaded, highMark := s.slotSerial i, loadedCount := s.pool.loadedCount + 1 } } := by
  rw [State.acceptLoad, State.clearDisposition_eq]
  generalize hm : Memory.judged s.mem i 0 = m
  have hmem : Memory.judged (s.setSlot i .loaded).mem i 0 = m := hm
  rw [hmem]
  rfl

/-- Without a site that waits an evaluation changes nothing (R121). -/
theorem State.evaluatePool_of_no_waiter {s : State} (h : ∀ k, look s.pool.waiting k = none) : s.evaluatePool = s := by
  rw [State.evaluatePool, State.evaluateDraws_of_no_waiter h]
  rfl

/-- After the draw of the one LOADED slot no slot is drawable. -/
theorem KeyDraw.dry_of_one_loaded {v w : KeyView} {i : SlotNo} (h : KeyDraw v w) (hredraw : v.redraw = [])
    (hother : ∀ j, j ≠ i → look v.slots j ≠ .loaded) : w.redraw = [] ∧ ∀ j, look w.slots j ≠ .loaded := by
  cases h with
  | draw k g rest raised hchosen =>
    obtain hhead | ⟨-, hrest, hloaded⟩ := hchosen
    · rw [hredraw] at hhead
      cases hhead
    · refine ⟨hrest, fun j hj => ?_⟩
      have hold : look v.slots j = .loaded := loaded_of_put (x := .drawn) nofun hj
      have hdrawn : j ≠ g.slot := fun hjg => by
        rw [hjg] at hj
        exact nomatch (look_put_same v.slots g.slot SlotState.drawn).symm.trans hj
      have hji : j = i := by_contra fun hne => hother j hne hold
      have hgi : g.slot = i := by_contra fun hne => hother g.slot hne hloaded
      exact hdrawn (hji.trans hgi.symm)

/-- With one drawable slot and a site that waits, the evaluation is one draw for the lowest waiting site: what KEY_DRAW does (R121, R123). -/
theorem State.evaluatePool_of_one_loaded {s : State} {i : SlotNo} (hwait : ∃ k, look s.pool.waiting k ≠ none)
    (hredraw : s.pool.redraw = []) (hloaded : s.slotState i = .loaded) (hother : ∀ j, j ≠ i → s.slotState j ≠ .loaded) :
    .next s.evaluatePool = execKeyDraw s := by
  obtain ⟨⟨k, len⟩, hnext⟩ : ∃ x, s.pool.nextWaiting = some x := by
    rw [← Option.ne_none_iff_exists']
    intro hnone
    obtain ⟨k, hk⟩ := hwait
    exact hk ((Pool.nextWaiting_eq_none_iff _).1 hnone k)
  obtain ⟨⟨t, g⟩, hdraw⟩ : ∃ x, s.draw k len = some x := by
    rw [← Option.ne_none_iff_exists', Ne, State.draw_eq_none_iff]
    exact fun ⟨_, hnone⟩ => hnone i hloaded
  have hdry : t.pool.choose = none := by
    rw [Pool.choose_eq_none_iff]
    exact (State.draw_keyDraw hdraw []).dry_of_one_loaded hredraw hother
  rw [State.evaluatePool, State.evaluateDraws_of_single hnext hdraw hdry]
  simp only [execKeyDraw, hnext, hdraw]
  rfl

/-- The refusal reason and the disposition fields of slot i in exchange memory m' after a load of it, and all other bytes as in m. -/
theorem Memory.judged_shows (m : Memory) (i : SlotNo) (reason : Nat) :
    Memory.read (Memory.judged m i reason) (slotBase i + 0x04) = nat8 reason
      ∧ Memory.read (Memory.judged m i reason) (slotBase i + 0x0C) = 0
      ∧ (∀ j, 0x0E ≤ j → j < 0x1C → Memory.read (Memory.judged m i reason) (slotBase i + j) = 0)
      ∧ ∀ a, a ≠ slotBase i + 0x04 → a ≠ slotBase i + 0x0C → (a < slotBase i + 0x0E ∨ slotBase i + 0x1C ≤ a) →
          Memory.read (Memory.judged m i reason) a = Memory.read m a :=
  ⟨Memory.read_judged_reason m i reason, Memory.read_judged_site m i reason, fun _ => Memory.read_judged_fields m i reason,
    fun _ => Memory.read_judged_other m i reason⟩

section Loads

variable {s : State} {i : SlotNo} {lanes : Lanes}

/-- An accepted load with no site waiting (R117). -/
theorem exec_load_quiet (hexec : exec (.load i lanes) s = .next (s.takeLoad i)) (haccepts : s.loadRefusal i = none)
    (hquiet : ∀ k, look s.pool.waiting k = none) : exec (.load i lanes) s = .next (s.acceptLoad i) := by
  have hstill : ∀ k, look (s.acceptLoad i).pool.waiting k = none := by
    rw [State.acceptLoad_eq]
    exact hquiet
  rw [hexec, State.takeLoad, haccepts]
  dsimp only
  rw [State.evaluatePool_of_no_waiter hstill]

/-- An accepted load with sites waiting is the load followed by one KEY_DRAW (R117, R121). -/
theorem exec_load_waiting (hexec : exec (.load i lanes) s = .next (s.takeLoad i)) (haccepts : s.loadRefusal i = none)
    (hwait : ∃ k, look s.pool.waiting k ≠ none) (hredraw : s.pool.redraw = []) (hnone : ∀ j, s.slotState j ≠ .loaded) :
    exec (.load i lanes) s = exec .keyDraw (s.acceptLoad i) := by
  have heq := s.acceptLoad_eq i
  rw [hexec, State.takeLoad, haccepts]
  refine State.evaluatePool_of_one_loaded (i := i) ?_ ?_ ?_ fun j hj => ?_
  all_goals rw [heq]
  · exact hwait
  · exact hredraw
  · exact look_put_same _ _ _
  · show look (put s.pool.slots i .loaded) j ≠ .loaded
    rw [look_put_other _ _ _ _ hj.symm]
    exact hnone j

end Loads

/-- The state with every draw request withdrawn. -/
def State.unwaited (s : State) : State := { s with pool := { s.pool with waiting := Vector.replicate 16 none } }

/-- A load is accepted alike whatever sites wait. -/
theorem State.acceptLoad_unwaited (s : State) (i : SlotNo) :
    { s.unwaited.acceptLoad i with pool := { (s.unwaited.acceptLoad i).pool with waiting := s.pool.waiting } } = s.acceptLoad i := by
  rw [State.acceptLoad_eq, State.acceptLoad_eq]
  generalize hm : Memory.judged s.mem i 0 = m
  have hmem : Memory.judged s.unwaited.mem i 0 = m := hm
  rw [hmem]
  rfl

/-- Settles O28: the refusals in their order, and an accepted load, which with sites that wait draws once, for the lowest of them. -/
theorem loadJudgesTheSlot : Obligations.LoadJudgesTheSlot := by
  intro i lanes s hinit hreset hvalue howner
  have hexec := exec_load hinit hreset hvalue howner
  refine ⟨fun reason hreason => ?_, fun hkey hserial => ⟨fun hwait hredraw hnone => ?_, fun hquiet => ?_⟩⟩
  · obtain ⟨why, hwhy, rfl⟩ := State.loadRefusal_eq_some hreason
    have hmem : (s.refuseLoad i why).mem = Memory.judged s.mem i why.code := by rw [State.refuseLoad_eq]
    refine ⟨s.refuseLoad i why, ?_, ?_, ?_⟩
    · rw [hexec, State.takeLoad, hwhy]
    · rw [hmem]
      exact s.refuseLoad_eq i why
    · rw [hmem]
      exact Memory.judged_shows s.mem i why.code
  · have hload : exec (.load i lanes) s.unwaited = .next (s.unwaited.acceptLoad i) :=
      exec_load_quiet (exec_load (s := s.unwaited) hinit hreset hvalue howner) (State.loadRefusal_accepts (s := s.unwaited) hkey hserial)
        fun k => look_replicate _ k
    refine ⟨s.unwaited.acceptLoad i, hload, ?_⟩
    rw [s.acceptLoad_unwaited i]
    exact exec_load_waiting hexec (State.loadRefusal_accepts hkey hserial) hwait hredraw hnone
  · have hmem : (s.acceptLoad i).mem = Memory.judged s.mem i 0 := by rw [State.acceptLoad_eq]
    refine ⟨s.acceptLoad i, exec_load_quiet hexec (State.loadRefusal_accepts hkey hserial) hquiet, ?_, ?_⟩
    · rw [hmem]
      exact s.acceptLoad_eq i
    · rw [hmem]
      exact Memory.judged_shows s.mem i 0

/-! ### Reclaims -/

/-- Exchange memory with the refusal reason and the key field of slot i cleared (R118). -/
def Memory.reclaimed (m : Memory) (i : SlotNo) : Memory :=
  Memory.writeBytes (Memory.writeBytes m (slotBase i + 0x04) [0]) (slotBase i + 0x20) (List.replicate 32 0)

theorem State.takeReclaim_eq (s : State) (i : SlotNo) : s.takeReclaim i = { s with
    mem := Memory.reclaimed s.mem i, pool := { s.pool with slots := put s.pool.slots i .empty } } := by
  unfold State.takeReclaim Memory.reclaimed
  generalize List.replicate 32 (0 : Byte) = zeros
  rfl

section Reclaimed

variable (m : Memory) (i : SlotNo)

theorem Memory.read_reclaimed_reason : Memory.read (Memory.reclaimed m i) (slotBase i + 0x04) = 0 := by
  rw [Memory.reclaimed, Memory.read_writeBytes_outside _ _ (.inl (by omega))]
  exact Memory.read_writeBytes_inside m (slotBase i + 0x04) (i := 0) Nat.one_pos

theorem Memory.read_reclaimed_key {j : Nat} (hj : j < 32) : Memory.read (Memory.reclaimed m i) (slotBase i + 0x20 + j) = 0 :=
  Memory.read_writeBytes_zeros _ _ 32 hj

theorem Memory.read_reclaimed_other {a : Nat} (hreason : a ≠ slotBase i + 0x04) (hkey : a < slotBase i + 0x20 ∨ slotBase i + 0x40 ≤ a) :
    Memory.read (Memory.reclaimed m i) a = Memory.read m a := by
  rw [Memory.reclaimed, Memory.read_writeBytes_outside _ _ (by rw [List.length_replicate]; omega),
    Memory.read_writeBytes_outside _ _ (by rw [List.length_singleton]; omega)]

end Reclaimed

/-! ### What a load leaves of the disposition, whatever it draws -/

/-- A draw writes key fields only: the bytes before them stay (R123). -/
theorem State.draw_read_before {s t : State} {k : SiteNo} {len : KeyLength} {g : KeyGrant} (h : s.draw k len = some (t, g)) (i : SlotNo)
    {o : Nat} (ho : o < 0x20) : Memory.read t.mem (slotBase i + o) = Memory.read s.mem (slotBase i + o) := by
  unfold State.draw at h
  split at h
  · cases h
  · rename_i j p _
    obtain ⟨rfl, -⟩ := Prod.mk.inj (Option.some.inj h)
    rw [State.drawSlot_mem]
    refine Memory.read_writeBytes_outside _ _ ?_
    rw [List.length_replicate]
    by_cases hij : i = j
    · subst hij
      omega
    · have := slotBase_apart hij
      omega

theorem State.evaluateDraws_read_before (s : State) (i : SlotNo) {o : Nat} (ho : o < 0x20) :
    Memory.read s.evaluateDraws.1.mem (slotBase i + o) = Memory.read s.mem (slotBase i + o) := by
  have hturns : ∀ (l : List SiteNo) (acc : State × List KeyGrant),
      Memory.read (l.foldl drawTurn acc).1.mem (slotBase i + o) = Memory.read acc.1.mem (slotBase i + o) := by
    intro l
    induction l with
    | nil => exact fun _ => rfl
    | cons k l ih =>
      intro acc
      rw [List.foldl_cons, ih]
      obtain ⟨hsame, -⟩ | ⟨len, t, g, hdraw, hturn⟩ := drawTurn_cases acc k
      · rw [hsame]
      · rw [hturn]
        exact State.draw_read_before hdraw i ho
  rw [State.evaluateDraws]
  exact hturns allSites (s, [])

theorem State.evaluatePool_read_before (s : State) (i : SlotNo) {o : Nat} (ho : o < 0x20) :
    Memory.read s.evaluatePool.mem (slotBase i + o) = Memory.read s.mem (slotBase i + o) := by
  rw [State.evaluatePool, (State.deliver_supplyWork _ _).mem_eq]
  exact s.evaluateDraws_read_before i ho

/-- A load, refused or accepted, clears the disposition fields (R116, R117). -/
theorem State.takeLoad_read (s : State) (i : SlotNo) : ∃ reason, ∀ o < 0x20,
    Memory.read (s.takeLoad i).mem (slotBase i + o) = Memory.read (Memory.judged s.mem i reason) (slotBase i + o) := by
  unfold State.takeLoad
  split
  · rename_i why _
    refine ⟨why.code, fun o _ => ?_⟩
    rw [State.refuseLoad_eq]
  · refine ⟨0, fun o ho => ?_⟩
    rw [State.evaluatePool_read_before _ i ho, State.acceptLoad_eq]

/-- Settles O29: the state after a reclaim as a whole, and the disposition fields after the next load. -/
theorem reclaimEmptiesTheSlot : Obligations.ReclaimEmptiesTheSlot := by
  intro i lanes s hinit hreset hvalue hstate
  have heq := s.takeReclaim_eq i
  have hmem : (s.takeReclaim i).mem = Memory.reclaimed s.mem i := by rw [heq]
  refine ⟨s.takeReclaim i, exec_reclaim hinit hreset hvalue hstate, ?_, ?_, ?_, fun j hj => ?_, fun a ha hkey => ?_,
    fun u v lanes' huinit hureset huempty huvalue hload => ?_⟩
  · rw [hmem]
    exact heq
  · have hempty : (s.takeReclaim i).slotState i = .empty := by
      rw [heq]
      exact look_put_same _ _ _
    rw [hempty]
    rfl
  · rw [hmem, Memory.read_reclaimed_reason]
  · rw [hmem, Memory.read_reclaimed_key _ _ hj]
  · rw [hmem, Memory.read_reclaimed_other _ _ ha hkey]
  · rw [exec_load huinit hureset huvalue (by rw [huempty]; rfl)] at hload
    obtain rfl := Host.Outcome.next.inj hload
    obtain ⟨reason, hread⟩ := u.takeLoad_read i
    refine ⟨?_, fun j hlo hhi => ?_⟩
    · rw [hread 0x0C (by decide), Memory.read_judged_site]
    · rw [hread j (by omega), Memory.read_judged_fields _ _ _ hlo hhi]

/-! ### Withdrawals -/

theorem State.takeWithdraw_eq {s : State} (i : SlotNo) (hcount : 1 ≤ s.pool.loadedCount) : s.takeWithdraw i = { s with
    mem := Memory.writeBytes s.mem (slotBase i + 0x20) (List.replicate 32 0)
    attn := if s.pool.loadedCount = s.pool.watermark then s.attn ||| 0x020#11 else s.attn
    pool := { s.pool with
      slots := put s.pool.slots i .empty, redraw := s.pool.redraw.filter (fun j => j != i)
      loadedCount := s.pool.loadedCount - 1 } } := by
  unfold State.takeWithdraw
  generalize List.replicate 32 (0 : Byte) = zeros
  rw [State.lowerLoaded_eq (by exact hcount)]
  rfl

/-- Settles O30: the state after a withdrawal as a whole; the cause comes with the fall of loaded_count. -/
theorem withdrawTakesALoadedSlotBack : Obligations.WithdrawTakesALoadedSlotBack := by
  intro i lanes s hinit hreset hvalue hloaded hcount
  have heq := State.takeWithdraw_eq i hcount
  have hmem := congrArg State.mem heq
  dsimp only at hmem
  refine ⟨s.takeWithdraw i, exec_withdraw hinit hreset hvalue hloaded, ?_, fun j hj => ?_, fun a ha => ?_⟩
  · rw [hmem]
    exact heq
  · rw [hmem, Memory.read_writeBytes_zeros _ _ 32 hj]
  · rw [hmem, Memory.read_writeBytes_outside _ _ (by rw [List.length_replicate]; omega)]

end Sys2Proof.Machine

/-!
PROOF. Writes of watched words that ask for nothing (R115, R136, R151, R168): O33.
-/

namespace Sys2Proof.Machine

/-! ### One word written back -/

/-- State t is s but for the word at offset a, which reads as x. -/
def State.WordStored (s : State) (a : Nat) (x : Word) (t : State) : Prop :=
  t = { s with mem := t.mem } ∧ Memory.read32 t.mem a = x ∧ s.KeepsBytesOutside t a (a + 4)

theorem State.store_wordStored (s : State) (a : Nat) (x : Word) : s.WordStored a x (s.store a (bytes32 x)) := by
  have hbyte : ∀ j < 4, Memory.read (s.store a (bytes32 x)).mem (a + j) = x.extractLsb' (8 * j) 8 := fun j hj => by
    rw [← bytes32_getD x hj]
    exact Memory.read_writeBytes_inside _ _ hj
  exact ⟨rfl, Memory.read32_of_bytes (hbyte 0 (by decide)) (hbyte 1 (by decide)) (hbyte 2 (by decide)) (hbyte 3 (by decide)),
    fun b hb => Memory.read_writeBytes_outside _ _ hb⟩

/-! ### The watched words one by one -/

section Words

variable {s : State} {v : Word}

theorem State.writeFrameState_noRequest {f : FrameNo} (howner : (s.frameState f).partOwned = false) (hfree : v ≠ 0) (hposted : v ≠ 1) :
    s.writeFrameState f v = s := by
  have hnotPosted : v ≠ postedValue := hposted
  have hnotFree : v ≠ freeValue := hfree
  simp only [State.writeFrameState, howner, Bool.false_eq_true, if_false, if_neg hnotPosted, if_neg hnotFree]

theorem slotRequest_noChange {x : SlotState} (howner : x.partOwned = false) (hload : v ≠ 1) (hreclaim : v = 0 → x = .empty) :
    slotRequest x v = .noChange := by
  have hnotLoaded : v ≠ loadedValue := hload
  cases x with
  | loaded | drawn => cases howner
  | empty => exact if_neg hnotLoaded
  | refused | bound | voided =>
    have hnotEmpty : v ≠ emptyValue := fun h => nomatch hreclaim h
    exact (if_neg hnotLoaded).trans (if_neg hnotEmpty)

theorem State.writeSlotState_noRequest {i : SlotNo} (howner : (s.slotState i).partOwned = false) (hload : v ≠ 1)
    (hreclaim : v = 0 → s.slotState i = .empty) : s.writeSlotState i v = s := by
  rw [State.writeSlotState, slotRequest_noChange howner hload hreclaim]

theorem State.writeWaferState_noRequest (hclosed : s.wafer = .closed) (hopen : v ≠ 1) : s.writeWaferState v = s := by
  have hnotOpen : v ≠ openValue := hopen
  rw [State.writeWaferState, hclosed, if_neg hnotOpen]
  rfl

/-- The request word keeps what the tester writes while the wafer is CLOSED, and shows the close in force otherwise (R151). -/
theorem State.writeWaferRequest_noRequest {w : WordNo} (hw : wordOffset w = 0x104) (hclose : s.wafer = .closed ∨ v ≠ 1) :
    s.WordStored 0x104 (if s.wafer = .closed then v else if s.wafer = .closing then 1 else 0) (s.writeWaferRequest w v) := by
  unfold State.writeWaferRequest
  by_cases hclosed : s.wafer = .closed
  · rw [if_pos hclosed, if_pos hclosed, State.storeWord, hw]
    exact s.store_wordStored 0x104 v
  · have hnotClose : v ≠ closeValue := hclose.resolve_left hclosed
    rw [if_neg hclosed, if_neg hclosed, if_neg hnotClose]
    exact s.store_wordStored 0x104 _

/-- The stop in force as a stop word shows it (R136). -/
theorem FrameStop.code_eq (x : FrameStop) : BitVec.ofNat 32 x.code = if x = .none then 0 else if x = .soft then 1 else 2 := by
  cases x <;> rfl

/-- A stop word keeps what the tester writes into a frame of its own, and shows the stop in force otherwise (R136). -/
theorem State.writeStopWord_noRequest {f : FrameNo} (hstop : (s.frameState f).partOwned = false ∨ (v ≠ 1 ∧ v ≠ 2)) :
    s.WordStored (frameBase f + 0x04) (if (s.frameState f).partOwned = false then v
      else if s.frameState f = .queued ∨ s.sched.stop = .none then 0 else if s.sched.stop = .soft then 1 else 2) (s.writeStopWord f v) := by
  have hback : v ≠ 1 ∧ v ≠ 2 →
      State.writeBackStop f (if v = softValue then s.softStopFrame f else if v = hardValue then s.hardStopFrame f else s)
        = s.store (frameBase f + 0x04) (bytes32 (if s.sched.stop = .none then 0 else if s.sched.stop = .soft then 1 else 2)) := by
    intro ⟨hsoft, hhard⟩
    have hnotSoft : v ≠ softValue := hsoft
    have hnotHard : v ≠ hardValue := hhard
    rw [if_neg hnotSoft, if_neg hnotHard, State.writeBackStop, nat32, FrameStop.code_eq]
  unfold State.writeStopWord
  cases hstate : s.frameState f with
  | free | done | cancelled | rejected => exact s.store_wordStored _ v
  | queued =>
    rw [hstate] at hstop
    obtain ⟨hsoft, hhard⟩ := hstop.resolve_left nofun
    have hneither : ¬ (v = softValue ∨ v = hardValue) := fun h => h.elim hsoft hhard
    dsimp only
    rw [if_neg hneither]
    exact s.store_wordStored _ 0
  | running | stopping =>
    rw [hstate] at hstop
    dsimp only
    rw [hback (hstop.resolve_left nofun)]
    simp only [FrameState.partOwned, reduceCtorEq, false_or, if_false]
    exact s.store_wordStored _ _

end Words

theorem exec_watchedWordNoRequest {s : State} (hinit : s.initialising = false) (hreset : s.softReset = false) (w : WordNo) (lanes : Lanes)
    (d : Word) : exec (.watchedWordNoRequest w lanes d) s = .next (s.takeWrite w (s.writtenValue w lanes d)) := by
  show Host.Outcome.next (s.testerWrite w lanes d) = _
  rw [State.testerWrite_eq hinit hreset]

/-- Settles O33: one lemma for each watched word. -/
theorem watchedWordsWithoutARequestStayAsTheyAre : Obligations.WatchedWordsWithoutARequestStayAsTheyAre := by
  intro w lanes d v s hinit hreset hv
  have hplace := wordKind_liesAt w
  rw [exec_watchedWordNoRequest hinit hreset, ← hv]
  refine ⟨fun f hkind howner hfree hposted => ?_, fun i hkind howner hload hreclaim => ?_, fun hkind hclosed hopen => ?_,
    fun hkind hclose => ?_, fun f hkind hstop hback => ?_⟩
  all_goals
    rw [hkind] at hplace
    simp only [State.takeWrite, hkind]
  · rw [State.writeFrameState_noRequest howner hfree hposted]
  · rw [State.writeSlotState_noRequest howner hload hreclaim]
  · rw [State.writeWaferState_noRequest hclosed hopen]
  · exact ⟨_, rfl, State.writeWaferRequest_noRequest hplace hclose⟩
  · obtain ⟨hframe, hstored⟩ := State.writeStopWord_noRequest hstop
    refine ⟨_, rfl, ?_⟩
    rw [(hback.of_sched (t := s.writeStopWord f v) (by rw [hframe])).settle_eq]
    exact ⟨hframe, hstored⟩

end Sys2Proof.Machine

/-!
PROOF. The frame scheduler stays coherent: what a site's own work, starts, hand-backs, posts, stops, resets and the wafer unit leave of the
post list, the running frame and the working recipes held (R135, R138, R143, R146, R149, R153, R177): O5.
-/

namespace Sys2Proof.Machine

/-! ### Events of one site as a site's own work -/

theorem State.unlessStopped_siteWork {k : SiteNo} {go : State → State} {s : State} (hgo : s.SiteWork (go s)) :
    s.SiteWork (s.unlessStopped k go) := by
  unfold State.unlessStopped
  split
  · exact State.endSite_siteWork k _ s
  · exact hgo

theorem State.onEverySite_siteWork (f : Site → Site) (s : State) : s.SiteWork (s.onEverySite f) :=
  ⟨s.attn, s.mem, s.pool, s.supply, s.arbiter, _, s.sched.ended, rfl⟩

theorem State.issueOp_siteWork (k : SiteNo) (op : PortOp) (s : State) : s.SiteWork (s.issueOp k op) := by
  rw [State.issueOp_eq]
  exact State.onSite_siteWork k _ s

theorem State.dropOp_siteWork (k : SiteNo) (s : State) : s.SiteWork (s.dropOp k) := by
  unfold State.dropOp State.onPort
  exact State.onSite_siteWork k _ s

theorem State.takeSample_siteWork (k : SiteNo) (code : SenseCode) (s : State) : s.SiteWork (s.takeSample k code) := by
  unfold State.takeSample
  dsimp only
  split
  · exact .trans (.trans (State.onSite_siteWork k _ s) (State.onSite_siteWork k _ _)) (State.issueOp_siteWork k _ _)
  · exact State.onSite_siteWork k _ s

theorem State.recordRefs_siteWork (k : SiteNo) (o b : SenseCode) (s : State) : s.SiteWork (s.recordRefs k o b) :=
  .trans (State.onSite_siteWork k _ s) (State.endOp_siteWork k _)

theorem State.afterRefs_siteWork (k : SiteNo) (o b : SenseCode) (s : State) : s.SiteWork (s.afterRefs k o b) := by
  unfold State.afterRefs
  split
  · exact State.unlessStopped_siteWork (.trans (State.onSite_siteWork k _ s) (State.issueVerify_supplyWork k _ _).siteWork)
  · exact State.endSite_siteWork k _ s

theorem State.recordVerify_siteWork (k : SiteNo) (row : Row) (v : RowVerify) (s : State) : s.SiteWork (s.recordVerify k row v) :=
  .trans (State.onSite_siteWork k _ s) (State.endOp_siteWork k _)

theorem State.blankVerified_siteWork (k : SiteNo) (row : Row) (s : State) : s.SiteWork (s.blankVerified k row) := by
  unfold State.blankVerified
  dsimp only
  split
  · split
    · exact State.endSite_siteWork k _ s
    · exact State.endSite_siteWork k _ s
    · exact State.unlessStopped_siteWork (State.enterKeywait_siteWork k s)
  · exact State.unlessStopped_siteWork (State.issueVerify_supplyWork k _ s).siteWork

theorem State.rowDone_siteWork (k : SiteNo) (row : Row) (s : State) : s.SiteWork (s.rowDone k row) := by
  have hleft : s.SiteWork ((s.onSeq k fun q => { q with pendingSet := 0 }).onFormer k Former.rowDone) :=
    .trans (State.onSite_siteWork k _ s) (State.onSite_siteWork k _ _)
  unfold State.rowDone
  dsimp only
  split
  · exact .trans hleft (State.endSite_siteWork k _ _)
  · exact .trans hleft (State.unlessStopped_siteWork (State.beginRow_supplyWork k _ _).siteWork)

theorem State.burnVerified_siteWork (k : SiteNo) (row : Row) (v : RowVerify) (s : State) : s.SiteWork (s.burnVerified k row v) := by
  unfold State.burnVerified
  dsimp only
  split
  · exact State.endSite_siteWork k _ s
  · split
    · exact State.unlessStopped_siteWork (State.beginAttempt_supplyWork k _ _ _ s).siteWork
    · exact State.rowDone_siteWork k row s

theorem State.finalVerified_siteWork (k : SiteNo) (row : Row) (v : RowVerify) (s : State) : s.SiteWork (s.finalVerified k row v) := by
  have hfold : s.SiteWork (s.foldFinal k (planImage (s.site k).seq.plan row) v) := by
    unfold State.foldFinal
    exact State.onSite_siteWork k _ s
  unfold State.finalVerified
  dsimp only
  split
  · exact .trans hfold (State.endSite_siteWork k _ _)
  · split
    · split
      · exact .trans hfold (State.unlessStopped_siteWork (State.beginLocking_supplyWork k _).siteWork)
      · exact .trans hfold (State.endSite_siteWork k _ _)
    · exact .trans hfold (State.unlessStopped_siteWork (.trans (State.onSite_siteWork k _ _) (State.issueVerify_supplyWork k _ _).siteWork))

theorem State.afterVerify_siteWork (k : SiteNo) (row : Row) (v : RowVerify) (s : State) : s.SiteWork (s.afterVerify k row v) := by
  unfold State.afterVerify
  split
  · exact State.blankVerified_siteWork k row s
  · exact State.burnVerified_siteWork k row v s
  · exact State.finalVerified_siteWork k row v s
  · exact .refl s

theorem State.completePulse_siteWork (k : SiteNo) (s : State) : s.SiteWork (s.completePulse k) :=
  .trans (.trans (State.endOp_siteWork k s) (State.onSite_siteWork k _ _)) (State.release_supplyWork k _).siteWork

theorem State.takeSort_siteWork (k : SiteNo) (sort : PulseSort) (s : State) : s.SiteWork (s.takeSort k sort) := by
  unfold State.takeSort
  split
  · exact State.endSite_siteWork k _ s
  · exact State.endSite_siteWork k _ s
  · exact State.unlessStopped_siteWork (State.afterGoodPulse_supplyWork k s).siteWork

theorem State.expireHold_siteWork (s : State) : s.chosen.SiteWork s.expireHold := by
  have hlose : ∀ (l : List SiteNo) (acc : State × List KeyGrant), acc.1.SiteWork (l.foldl loseSupply acc).1 := by
    intro l
    induction l with
    | nil => exact fun _ => .refl _
    | cons k l ih => exact fun acc => .trans (State.endSiteWith_siteWork k _ acc.1) (ih _)
  exact .trans (.trans (.trans (hlose _ (s.chosen, [])) (State.onSupply_siteWork _ _)) (State.raise_siteWork _ _))
    (State.deliver_supplyWork _ _).siteWork

theorem State.enterHold_siteWork (s : State) : s.SiteWork s.enterHold :=
  .trans (.trans (State.onSupply_siteWork _ s) (State.raise_siteWork _ _)) (State.onEverySite_siteWork _ _)

/-! ### Slot writes as work on the pool -/

theorem State.clearDisposition_siteWork (i : SlotNo) (reason : Nat) (s : State) : s.SiteWork (s.clearDisposition i reason) :=
  .trans (.trans (State.store_siteWork _ _ s) (State.store_siteWork _ _ _)) (State.store_siteWork _ _ _)

theorem State.takeLoad_siteWork (i : SlotNo) (s : State) : s.SiteWork (s.takeLoad i) := by
  have hcleared : ∀ x reason, s.SiteWork (State.clearDisposition i reason (s.setSlot i x)) := fun x _ =>
    .trans (State.setSlot_siteWork i x s) (State.clearDisposition_siteWork i _ _)
  unfold State.takeLoad
  split
  · exact .trans (.trans (hcleared _ _) (State.onPool_siteWork _ _)) (State.raise_siteWork _ _)
  · exact .trans (.trans (hcleared _ _) (State.onPool_siteWork _ _)) (State.evaluatePool_siteWork _)

theorem State.takeReclaim_siteWork (i : SlotNo) (s : State) : s.SiteWork (s.takeReclaim i) :=
  .trans (.trans (State.setSlot_siteWork i _ s) (State.store_siteWork _ _ _)) (State.store_siteWork _ _ _)

theorem State.takeWithdraw_siteWork (i : SlotNo) (s : State) : s.SiteWork (s.takeWithdraw i) :=
  .trans (.trans (.trans (State.setSlot_siteWork i _ s) (State.store_siteWork _ _ _)) (State.onPool_siteWork _ _))
    (State.lowerLoaded_siteWork _)

/-! ### What the coherence of the frames is judged by -/

/-- Frame states, post list, running frame, working recipes and the wafer's state. -/
structure FrameView where
  frames : Vector FrameState 4
  postList : List FrameNo
  running : Option FrameNo
  recipes : Vector (Option Recipe) 4
  wafer : WaferState

def State.frameView (s : State) : FrameView :=
  { frames := s.sched.frames, postList := s.sched.postList, running := s.sched.running, recipes := s.sched.recipes, wafer := s.wafer }

theorem State.SiteWork.frameView {s t : State} (h : s.SiteWork t) : t.frameView = s.frameView := by
  obtain ⟨a, b, c, d, e, f, g, rfl⟩ := h
  rfl

theorem State.foldl_frameView {act : SiteNo → State → State} (h : ∀ k s, State.SiteWork s (act k s)) (l : List SiteNo) (s : State) :
    (l.foldl (fun t k => act k t) s).frameView = s.frameView := (State.foldl_siteWork h l s).frameView

/-- State t treats frame g as s does. -/
structure State.FrameAlike (s t : State) (g : FrameNo) : Prop where
  state : t.frameState g = s.frameState g
  queued : g ∈ t.sched.postList ↔ g ∈ s.sched.postList
  running : t.sched.running = some g ↔ s.sched.running = some g
  recipe : look t.sched.recipes g = look s.sched.recipes g

/-- The scheduler's members agree on frame g: it is queued, running and holds a working recipe as its state says (R135, R138, R177). -/
structure State.FrameStands (s : State) (g : FrameNo) : Prop where
  queued : g ∈ s.sched.postList ↔ s.frameState g = .queued
  running : s.sched.running = some g ↔ s.frameState g = .running ∨ s.frameState g = .stopping
  recipe : (look s.sched.recipes g).isSome = (s.frameState g).partOwned

theorem State.FrameStands.of_alike {s t : State} {g : FrameNo} (h : s.FrameStands g) (ht : s.FrameAlike t g) : t.FrameStands g where
  queued := by rw [ht.queued, ht.state, h.queued]
  running := by rw [ht.running, ht.state, h.running]
  recipe := by rw [ht.recipe, ht.state, h.recipe]

/-- A frame of the tester's that neither waits nor runs and holds no recipe. -/
theorem State.frameStands_of_tester {s : State} {g : FrameNo} (howner : (s.frameState g).partOwned = false)
    (hlist : g ∉ s.sched.postList) (hrunning : s.sched.running ≠ some g) (hrecipe : look s.sched.recipes g = none) : s.FrameStands g where
  queued := iff_of_false hlist fun h => by
    rw [h] at howner
    cases howner
  running := iff_of_false hrunning fun h => by
    obtain h | h := h
    all_goals
      rw [h] at howner
      cases howner
  recipe := by rw [hrecipe, howner]; rfl

/-- No frame runs or waits (R146). -/
def State.SchedulerIdle (s : State) : Prop := s.sched.running = none ∧ s.sched.postList = []

theorem Scheduler.isIdle_iff (c : Scheduler) : c.isIdle = true ↔ c.running = none ∧ c.postList = [] := by
  rw [Scheduler.isIdle, Bool.and_eq_true, Option.isNone_iff_eq_none, List.isEmpty_iff]

theorem State.framesCoherent_iff (s : State) :
    s.FramesCoherent ↔ s.sched.postList.Nodup ∧ (∀ g, s.FrameStands g) ∧ (s.wafer = .closed → s.SchedulerIdle) :=
  ⟨fun ⟨hnodup, hlist, hrunning, hrecipes, hclosed⟩ => ⟨hnodup, fun g => ⟨hlist g, hrunning g, hrecipes g⟩, hclosed⟩,
    fun ⟨hnodup, hstands, hclosed⟩ => ⟨hnodup, fun g => (hstands g).queued, fun g => (hstands g).running, fun g => (hstands g).recipe, hclosed⟩⟩

namespace State.FramesCoherent

variable {s t : State}

theorem nodup (h : s.FramesCoherent) : s.sched.postList.Nodup := h.1

theorem stands (h : s.FramesCoherent) (g : FrameNo) : s.FrameStands g := (s.framesCoherent_iff.1 h).2.1 g

theorem idle_of_closed (h : s.FramesCoherent) (hclosed : s.wafer = .closed) : s.SchedulerIdle := (s.framesCoherent_iff.1 h).2.2 hclosed

theorem of_view (h : s.FramesCoherent) (ht : t.frameView = s.frameView) : t.FramesCoherent := by
  obtain ⟨hframes, hlist, hrunning, hrecipes, hwafer⟩ := FrameView.mk.inj ht
  unfold State.FramesCoherent State.frameState
  rw [hframes, hlist, hrunning, hrecipes, hwafer]
  exact h

theorem of_siteWork (h : s.FramesCoherent) (ht : s.SiteWork t) : t.FramesCoherent := h.of_view ht.frameView

/-- The scheduler stays as it is and the wafer may change: it may become CLOSED while the scheduler is idle (R153). -/
theorem of_sched (h : s.FramesCoherent) (ht : t.sched = s.sched) (hclosed : t.wafer = .closed → s.SchedulerIdle) : t.FramesCoherent := by
  refine t.framesCoherent_iff.2 ⟨ht ▸ h.nodup, fun g => (h.stands g).of_alike ?_, fun hw => ?_⟩
  · exact ⟨by rw [State.frameState, ht]; rfl, by rw [ht], by rw [ht], by rw [ht]⟩
  · rw [State.SchedulerIdle, ht]
    exact hclosed hw

/-- One frame moves on and the others are left alone. -/
theorem of_move (h : s.FramesCoherent) {f : FrameNo} (hf : t.FrameStands f) (hothers : ∀ g, g ≠ f → s.FrameAlike t g)
    (hnodup : t.sched.postList.Nodup) (hclosed : t.wafer = .closed → t.SchedulerIdle) : t.FramesCoherent :=
  t.framesCoherent_iff.2 ⟨hnodup, fun g => by
    by_cases hg : g = f
    · rw [hg]
      exact hf
    · exact (h.stands g).of_alike (hothers g hg), hclosed⟩

/-- A frame of the tester's does not wait. -/
theorem not_mem (h : s.FramesCoherent) {f : FrameNo} (hf : (s.frameState f).partOwned = false) : f ∉ s.sched.postList := fun hmem => by
  rw [(h.stands f).queued.1 hmem] at hf
  cases hf

/-- The running frame does not wait. -/
theorem running_not_mem (h : s.FramesCoherent) {f : FrameNo} (hf : s.sched.running = some f) : f ∉ s.sched.postList := fun hmem => by
  have hruns := (h.stands f).running.1 hf
  rw [(h.stands f).queued.1 hmem] at hruns
  exact hruns.elim nofun nofun

/-- A frame of the tester's does not run. -/
theorem not_running (h : s.FramesCoherent) {f : FrameNo} (hf : (s.frameState f).partOwned = false) : s.sched.running ≠ some f :=
  fun hrun => by
    obtain hstate | hstate := (h.stands f).running.1 hrun
    all_goals
      rw [hstate] at hf
      cases hf

end State.FramesCoherent


/-! ### Moves of the scheduler -/

namespace State.FramesCoherent

variable {s t : State}

/-- A frame of the tester's takes another state of the tester's (R136, R139, R147). -/
theorem setFrame (h : s.FramesCoherent) {f : FrameNo} {x : FrameState} (hf : (s.frameState f).partOwned = false) (hx : x.partOwned = false) :
    (s.setFrame f x).FramesCoherent := by
  have hrecipe : look s.sched.recipes f = none := by
    have hheld := (h.stands f).recipe
    rwa [hf, Option.isSome_eq_false_iff, Option.isNone_iff_eq_none] at hheld
  refine h.of_move (f := f) (State.frameStands_of_tester ?_ (h.not_mem hf) (h.not_running hf) hrecipe) (fun g hg => ?_) h.nodup
    h.idle_of_closed
  · rw [State.setFrame_frameState_same, hx]
  · exact ⟨by rw [State.setFrame_frameState, if_neg (Ne.symm hg)], .rfl, .rfl, rfl⟩

/-- The running frame takes a stop (R144, R148). -/
theorem setStop (h : s.FramesCoherent) {f : FrameNo} (hf : s.sched.running = some f) (stop : FrameStop) :
    (s.setStop f stop).FramesCoherent := by
  have hstate : (s.setStop f stop).frameState f = .stopping := State.setFrame_frameState_same _ _ _
  refine h.of_move (f := f) ⟨?_, ?_, ?_⟩ (fun g hg => ?_) h.nodup h.idle_of_closed
  · rw [hstate]
    exact iff_of_false (h.running_not_mem hf) nofun
  · rw [hstate]
    exact iff_of_true hf (.inr rfl)
  · rw [hstate]
    refine (h.stands f).recipe.trans ?_
    obtain hwas | hwas := (h.stands f).running.1 hf
    all_goals rw [hwas]
    all_goals rfl
  · exact ⟨look_put_other _ _ _ _ (Ne.symm hg), .rfl, .rfl, rfl⟩

/-- An accepted post puts a frame of the tester's at the end of the post list, with its working recipe (R138, R153). -/
theorem acceptPost (h : s.FramesCoherent) {f : FrameNo} (hf : (s.frameState f).partOwned = false) (hopen : s.wafer ≠ .closed)
    (raw : RawRecipe) : (s.acceptPost f raw).FramesCoherent := by
  have hstate : (s.acceptPost f raw).frameState f = .queued := look_put_same _ _ _
  have hlist : (s.acceptPost f raw).sched.postList = s.sched.postList ++ [f] := rfl
  refine h.of_move (f := f) ⟨?_, ?_, ?_⟩ (fun g hg => ?_) ?_ fun hclosed => absurd hclosed hopen
  · rw [hstate, hlist]
    exact iff_of_true List.mem_concat_self rfl
  · rw [hstate]
    exact iff_of_false (h.not_running hf) (not_or.2 ⟨nofun, nofun⟩)
  · rw [hstate]
    exact congrArg Option.isSome (look_put_same _ _ _)
  · refine ⟨look_put_other _ _ _ _ (Ne.symm hg), ?_, .rfl, look_put_other _ _ _ _ (Ne.symm hg)⟩
    rw [hlist, List.mem_append, List.mem_singleton]
    exact or_iff_left hg
  · rw [hlist, ← List.concat_eq_append]
    exact h.nodup.concat (h.not_mem hf)

/-- A start takes the head off the post list and lets it run (R142). -/
theorem loadFrame (h : s.FramesCoherent) {f : FrameNo} {rest : List FrameNo} (hnone : s.sched.running = none)
    (hhead : s.sched.postList = f :: rest) : (s.loadFrame f rest).FramesCoherent := by
  have hstate : (s.loadFrame f rest).frameState f = .running := look_put_same _ _ _
  have hlist : (s.loadFrame f rest).sched.postList = rest := rfl
  have hrunning : (s.loadFrame f rest).sched.running = some f := rfl
  obtain ⟨hnot, hnodup⟩ := List.nodup_cons.1 (hhead ▸ h.nodup)
  have hqueued : s.frameState f = .queued := (h.stands f).queued.1 (by rw [hhead]; exact List.mem_cons_self)
  refine h.of_move (f := f) ⟨?_, ?_, ?_⟩ (fun g hg => ?_) hnodup fun hclosed => ?_
  · rw [hstate, hlist]
    exact iff_of_false hnot nofun
  · rw [hstate]
    exact iff_of_true hrunning (.inl rfl)
  · rw [hstate]
    refine (h.stands f).recipe.trans ?_
    rw [hqueued]
    rfl
  · refine ⟨look_put_other _ _ _ _ (Ne.symm hg), ?_, ?_, rfl⟩
    · rw [hlist, hhead, List.mem_cons, or_iff_right hg]
    · rw [hrunning, hnone]
      exact iff_of_false (fun heq => hg (Option.some.inj heq).symm) nofun
  · obtain ⟨-, hnil⟩ := h.idle_of_closed hclosed
    rw [hhead] at hnil
    cases hnil

/-- A frame leaves the scheduler: its state is one of the tester's, and it waits, runs and holds a recipe no more. -/
theorem leave (h : s.FramesCoherent) {f : FrameNo} {x : FrameState} (hx : x.partOwned = false)
    (hframes : t.sched.frames = put s.sched.frames f x) (hlist : t.sched.postList = s.sched.postList.filter fun g => g != f)
    (hself : t.sched.running ≠ some f) (hrunning : ∀ g, g ≠ f → (t.sched.running = some g ↔ s.sched.running = some g))
    (hrecipes : t.sched.recipes = put s.sched.recipes f none) (hwafer : t.wafer = s.wafer) : t.FramesCoherent := by
  have hstate : ∀ g, t.frameState g = if f = g then x else s.frameState g := fun g => by rw [State.frameState, hframes, look_put]; rfl
  refine h.of_move (f := f) (State.frameStands_of_tester ?_ ?_ hself ?_) (fun g hg => ⟨?_, ?_, hrunning g hg, ?_⟩) ?_ fun hclosed => ?_
  · rw [hstate, if_pos rfl, hx]
  · rw [hlist]
    simp
  · rw [hrecipes, look_put_same]
  · rw [hstate, if_neg (Ne.symm hg)]
  · rw [hlist, List.mem_filter]
    simp [hg]
  · rw [hrecipes, look_put_other _ _ _ _ (Ne.symm hg)]
  · rw [hlist]
    exact h.nodup.filter _
  · obtain ⟨hnone, hnil⟩ := h.idle_of_closed (hwafer ▸ hclosed)
    refine ⟨Option.eq_none_iff_forall_ne_some.2 fun g hg => ?_, by rw [hlist, hnil]; rfl⟩
    by_cases hgf : g = f
    · exact hself (hgf ▸ hg)
    · rw [(hrunning g hgf), hnone] at hg
      cases hg

/-- A hand-back makes the running frame DONE and discards its recipe (R146). -/
theorem handBackFrame (h : s.FramesCoherent) {f : FrameNo} (hf : s.sched.running = some f) (kind : Nat) :
    (s.handBackFrame f kind).FramesCoherent := by
  have hsched := s.handBackFrame_sched f kind
  have hothers : ∀ g ∈ s.sched.postList, (g != f) = true := fun g hg => bne_iff_ne.2 fun heq => h.running_not_mem hf (heq ▸ hg)
  refine h.leave (f := f) (x := .done) rfl (by rw [hsched]) ?_ (by rw [hsched]; exact nofun) (fun g hg => ?_) (by rw [hsched])
    (by rw [State.handBackFrame_eq])
  · rw [hsched, List.filter_eq_self.2 hothers]
  · rw [hsched, hf]
    exact iff_of_false nofun fun heq => hg (Option.some.inj heq).symm

/-- A cancellation takes a queued frame off the post list (R143). -/
theorem cancelFrame (h : s.FramesCoherent) {f : FrameNo} (hf : s.frameState f = .queued) : (s.cancelFrame f).FramesCoherent := by
  have hnot : s.sched.running ≠ some f := fun hrun => h.running_not_mem hrun ((h.stands f).queued.2 hf)
  exact h.leave (f := f) (x := .cancelled) rfl rfl rfl hnot (fun _ _ => .rfl) rfl rfl

/-! ### Starts, hand-backs and idle reports -/

theorem startIfDue (h : s.FramesCoherent) : s.startIfDue.FramesCoherent := by
  unfold State.startIfDue
  split
  · rename_i f rest hnone hhead
    split
    · exact (h.loadFrame hnone hhead).of_view (State.foldl_frameView (act := State.handSite f _ (s.loadFrame f rest))
        (State.handSite_siteWork f _ _) allSites _)
    · exact h
  · exact h

/-- The close of a CLOSING wafer completes at an idle report alone (R153, R155). -/
theorem idleReport (h : s.FramesCoherent) (hidle : s.SchedulerIdle) : s.idleReport.FramesCoherent := by
  unfold State.idleReport
  split
  · rw [State.completeClose_eq]
    exact h.of_sched rfl fun _ => hidle
  · exact h

theorem reportIfIdle (h : s.FramesCoherent) : s.reportIfIdle.FramesCoherent := by
  unfold State.reportIfIdle
  split
  · exact h.idleReport ((Scheduler.isIdle_iff _).1 ‹_›)
  · exact h

theorem handBackIfDue (h : s.FramesCoherent) : s.handBackIfDue.FramesCoherent := by
  unfold State.handBackIfDue State.afterHandBack
  split
  · rename_i f hf
    have hback := h.handBackFrame hf s.sched.stop.completionKind
    split
    · split
      · exact hback.idleReport ⟨by rw [State.handBackFrame_sched], List.isEmpty_iff.1 ‹_›⟩
      · exact hback.startIfDue
    · exact h
  · exact h

theorem settle (h : s.FramesCoherent) : s.settle.FramesCoherent := by
  unfold State.settle
  generalize s.sched.postList.length + 1 = n
  induction n generalizing s with
  | zero => exact h
  | succ n ih =>
    unfold State.settleFrames
    split
    · exact ih h.handBackIfDue
    · exact h

/-! ### Posts, stops, RUN and resets -/

theorem takePost (h : s.FramesCoherent) {f : FrameNo} (hf : (s.frameState f).partOwned = false) : (s.takePost f).FramesCoherent := by
  have hstored := h.of_siteWork (State.store_siteWork (frameBase f + 0x004) (bytes32 0) s)
  unfold State.takePost
  dsimp only
  split
  · exact ((hstored.of_siteWork (State.writeHeader_siteWork f 0 _ _ _)).setFrame hf rfl).of_siteWork (State.raise_siteWork _ _)
  · rename_i hcheck
    refine (hstored.acceptPost hf (fun hclosed => ?_) _).startIfDue
    rw [State.postCheck, if_pos hclosed] at hcheck
    cases hcheck

/-- The running frame is stopped, and its sites take the stop (R144). -/
theorem stopSites (h : s.FramesCoherent) {f : FrameNo} (hf : s.sched.running = some f) (stop : FrameStop) {act : SiteNo → State → State}
    (hact : ∀ k t, State.SiteWork t (act k t)) : ((s.setStop f stop).everyRunning act).FramesCoherent :=
  (h.setStop hf stop).of_view (State.everyRunning_siteWork hact _).frameView

theorem stopRunning (h : s.FramesCoherent) {f : FrameNo} (hf : s.frameState f = .running ∨ s.frameState f = .stopping) (v : Word) :
    (if v = softValue then s.softStopFrame f else if v = hardValue then s.hardStopFrame f else s).FramesCoherent := by
  have hrun := (h.stands f).running.2 hf
  split
  · unfold State.softStopFrame
    split
    · exact h.stopSites hrun .soft State.takeSoft_siteWork
    · exact h
  · split
    · unfold State.hardStopFrame
      split
      · exact h.stopSites hrun .hard State.takeHard_siteWork
      · exact h
    · exact h

theorem writeStopWord (h : s.FramesCoherent) (f : FrameNo) (v : Word) : (s.writeStopWord f v).FramesCoherent := by
  have hstore : ∀ {t : State}, t.FramesCoherent → ∀ a bs, (t.store a bs).FramesCoherent := fun ht a bs =>
    ht.of_siteWork (State.store_siteWork a bs _)
  unfold State.writeStopWord
  cases hf : s.frameState f with
  | queued =>
    dsimp only
    split
    · exact ((hstore h _ _).cancelFrame hf).reportIfIdle
    · exact hstore h _ _
  | running => exact hstore (h.stopRunning (.inl hf) v) _ _
  | stopping => exact hstore (h.stopRunning (.inr hf) v) _ _
  | free | done | rejected | cancelled => exact hstore h _ _

theorem takeRunClear (h : s.FramesCoherent) : s.takeRunClear.FramesCoherent := by
  unfold State.takeRunClear
  split
  · exact h.of_siteWork (State.supplyWork_of_supply s.supplyRunClear_frame).siteWork
  · rename_i f hf
    refine (h.setStop hf .runCleared).of_view ((State.foldl_frameView State.takeHard_siteWork _ _).trans ?_)
    exact (State.supplyWork_of_supply (State.supplyRunClear_frame _)).siteWork.frameView.trans
      (State.foldl_frameView State.takeHard_siteWork _ _)

theorem resetFrame (h : s.FramesCoherent) : s.resetFrame.FramesCoherent ∧ s.resetFrame.sched.running = none := by
  unfold State.resetFrame
  cases hf : s.sched.running with
  | none => exact ⟨h, hf⟩
  | some f => exact ⟨h.handBackFrame hf _, by rw [State.handBackFrame_sched]⟩

/-- A soft reset leaves no frame with the part: the running one is DONE, the queued ones are CANCELLED (R149). -/
theorem beginSoftReset (h : s.FramesCoherent) : s.beginSoftReset.FramesCoherent := by
  have hstarts : s.resetStarts.FramesCoherent := h.of_view rfl
  obtain ⟨hback, hnone⟩ := (hstarts.of_siteWork (State.foldl_siteWork State.takeReset_siteWork s.resetOrder _)).resetFrame
  change s.sitesReset.resetFrame.FramesCoherent at hback
  have hsched := congrArg State.sched s.beginSoftReset_parts
  dsimp only at hsched
  have hlist : s.beginSoftReset.sched.postList = [] := by rw [hsched]
  have hrunning : s.beginSoftReset.sched.running = none := by rw [hsched]
  refine (State.framesCoherent_iff _).2 ⟨by rw [hlist]; exact List.nodup_nil, fun g => ?_, fun _ => ⟨hrunning, hlist⟩⟩
  refine State.frameStands_of_tester ?_ (by rw [hlist]; exact List.not_mem_nil) (by rw [hrunning]; exact nofun)
    (by rw [hsched]; exact look_replicate _ g)
  rw [State.frameState, hsched]
  dsimp only
  rw [look_ofFn]
  split
  · rfl
  · rename_i hnot
    have hstands := hback.stands g
    cases hstate : look s.sitesReset.resetFrame.sched.frames g with
    | queued => exact absurd (hstands.queued.2 hstate) hnot
    | running => exact absurd ((hstands.running.2 (.inl hstate)).symm.trans hnone) nofun
    | stopping => exact absurd ((hstands.running.2 (.inr hstate)).symm.trans hnone) nofun
    | free | done | rejected | cancelled => rfl

theorem writeRunCtrl (h : s.FramesCoherent) (value : Word) : (s.writeRunCtrl value).FramesCoherent := by
  have hrun : ∀ run, State.FramesCoherent { s with run := run } := fun _ => h.of_view rfl
  unfold State.writeRunCtrl
  split
  · exact h
  · split
    · exact h.beginSoftReset
    · split
      · exact h
      · split
        · exact ((hrun true).startIfDue.of_siteWork (State.supplyWork_of_supply (State.supplyRunSet_frame _)).siteWork).settle
        · exact (hrun false).takeRunClear.settle

theorem registerWrite (h : s.FramesCoherent) (w : WordNo) (value : Word) : (s.registerWrite w value).FramesCoherent := by
  unfold State.registerWrite
  split
  · exact h
  · split
    · exact h.writeRunCtrl value
    · split
      · exact h.of_view rfl
      · split
        · exact h.of_view rfl
        · exact h

/-- The completion of a soft reset makes the idle report that it waited for (R176). -/
theorem completeReset (h : s.FramesCoherent) (hidle : s.SchedulerIdle) : s.completeReset.FramesCoherent := by
  rw [State.completeReset_eq]
  have hdone : s.resetDone.FramesCoherent := h.of_view rfl
  exact hdone.idleReport hidle

/-! ### Tester writes -/

theorem dropWrite (h : s.FramesCoherent) : s.dropWrite.FramesCoherent := h.of_view rfl

theorem writeData (h : s.FramesCoherent) (partOwned : Bool) (w : WordNo) (v : Word) : (s.writeData partOwned w v).FramesCoherent := by
  unfold State.writeData
  split
  · exact h.dropWrite
  · exact h.of_siteWork (State.store_siteWork _ _ s)

theorem writeWaferState (h : s.FramesCoherent) (v : Word) : (s.writeWaferState v).FramesCoherent := by
  unfold State.writeWaferState State.takeOpen
  split
  · exact h.dropWrite
  · split
    · split
      · exact h.of_siteWork (State.raise_siteWork _ s)
      · exact h.of_sched (by simp only [State.raise_sched, State.store_sched]) nofun
    · exact h

theorem takeClose (h : s.FramesCoherent) : s.takeClose.FramesCoherent := by
  unfold State.takeClose
  split
  · split
    · rw [State.completeClose_eq]
      exact h.of_sched rfl fun _ => (Scheduler.isIdle_iff _).1 ‹_›
    · exact h.of_sched (by rw [State.store_sched]) nofun
  · exact h

theorem writeWaferRequest (h : s.FramesCoherent) (w : WordNo) (v : Word) : (s.writeWaferRequest w v).FramesCoherent := by
  unfold State.writeWaferRequest
  split
  · exact h.of_siteWork (State.store_siteWork _ _ s)
  · refine State.FramesCoherent.of_siteWork (s := if v = closeValue then s.takeClose else s) ?_ (State.store_siteWork _ _ _)
    split
    · exact h.takeClose
    · exact h

theorem writeFrameState (h : s.FramesCoherent) (f : FrameNo) (v : Word) : (s.writeFrameState f v).FramesCoherent := by
  unfold State.writeFrameState
  split
  · exact h.dropWrite
  · have howner : (s.frameState f).partOwned = false := Bool.eq_false_iff.2 ‹_›
    split
    · exact (h.takePost howner).settle
    · split
      · exact h.setFrame howner rfl
      · exact h

theorem writeSlotState (h : s.FramesCoherent) (i : SlotNo) (v : Word) : (s.writeSlotState i v).FramesCoherent := by
  unfold State.writeSlotState
  split
  · exact h.of_siteWork (State.takeLoad_siteWork i s)
  · exact h.of_siteWork (State.takeReclaim_siteWork i s)
  · exact h.of_siteWork (State.takeWithdraw_siteWork i s)
  · exact h
  · exact h.dropWrite

theorem testerWrite (h : s.FramesCoherent) (w : WordNo) (lanes : Lanes) (data : Word) : (s.testerWrite w lanes data).FramesCoherent := by
  unfold State.testerWrite
  split
  · exact h
  · unfold State.takeWrite
    split
    · exact h.dropWrite
    · exact h.writeWaferState _
    · exact h.writeWaferRequest _ _
    · exact h.writeData _ _ _
    · exact h.of_siteWork (State.store_siteWork _ _ s)
    · exact h.writeFrameState _ _
    · exact (h.writeStopWord _ _).settle
    · exact h.writeData _ _ _
    · exact h.writeSlotState _ _
    · exact h.writeData _ _ _
    · exact h.writeData _ _ _
    · exact h

end State.FramesCoherent

/-! ### Commands and steps -/

section Commands

variable {s : State}

/-- An event of a site that does no more than site's work and may end the frame. -/
theorem State.FramesCoherent.event {t : State} (h : s.FramesCoherent) (ht : s.SiteWork t) : LeadsTo State.FramesCoherent (.next t.settle) :=
  .next (h.of_siteWork ht).settle

theorem State.FramesCoherent.work {t : State} (h : s.FramesCoherent) (ht : s.SiteWork t) : LeadsTo State.FramesCoherent (.next t) :=
  .next (h.of_siteWork ht)

theorem execReadACompletion_keepsFrames (h : s.FramesCoherent) (k : SiteNo) (codes : LaneCodes) :
    LeadsTo State.FramesCoherent (execReadACompletion k codes s) := by
  unfold execReadACompletion
  split
  · exact .ite (h.work (.trans (State.onSite_siteWork k _ s) (State.issueOp_siteWork k _ _))) (h.work (State.dropOp_siteWork k s))
  · exact .next h

theorem execVerifyCompletion_keepsFrames (h : s.FramesCoherent) (k : SiteNo) (codes : LaneCodes) :
    LeadsTo State.FramesCoherent (execVerifyCompletion k codes s) := by
  unfold execVerifyCompletion
  split
  · exact .ite (h.event (.trans (State.recordVerify_siteWork k _ _ s) (State.afterVerify_siteWork k _ _ _)))
      (h.work (State.dropOp_siteWork k s))
  · exact .next h

theorem execKeyDraw_keepsFrames (h : s.FramesCoherent) : LeadsTo State.FramesCoherent (execKeyDraw s) := by
  unfold execKeyDraw
  split
  · exact .next h
  · split
    · exact .next h
    · exact h.work (.trans (State.draw_siteWork ‹_›) (State.takeKeyGrant_supplyWork _ _).siteWork)

/-- A soft reset completes, and with it a close that waited for it, only while no frame runs or waits (R155, R176). -/
theorem execSoftResetCompletion_keepsFrames (h : s.FramesCoherent) : LeadsTo State.FramesCoherent (execSoftResetCompletion s) := by
  unfold execSoftResetCompletion
  split
  · rename_i hdone
    obtain ⟨-, hsettled⟩ := Bool.and_eq_true_iff.1 hdone
    obtain ⟨-, hnone, hnil, -⟩ := s.resetSettled_iff.1 hsettled
    exact .next (h.completeReset ⟨hnone, hnil⟩)
  · exact .next h

theorem execCloseCompletion_keepsFrames (h : s.FramesCoherent) : LeadsTo State.FramesCoherent (execCloseCompletion s) := by
  unfold execCloseCompletion
  split
  · rename_i hdue
    obtain ⟨hidle, -⟩ := Bool.and_eq_true_iff.1 hdue
    exact .next (h.idleReport ((Scheduler.isIdle_iff _).1 hidle))
  · exact .next h

/-- Every command keeps the frames coherent (R135, R138, R143, R146, R149, R153, R177). -/
theorem exec_keepsFrames (c : Instr) (h : s.FramesCoherent) : LeadsTo State.FramesCoherent (exec c s) := by
  cases c with
  | powerOnReset => exact .next (reset_framesCoherent.of_view rfl)
  | initialisationEnd => exact .ite (.next (h.of_view rfl)) (.next h)
  | runSet value | runClear value | softReset value | attnWrite value | attnEnWrite value | registerWriteOther _ value =>
    exact .next (h.registerWrite _ value)
  | softResetCompletion => exact execSoftResetCompletion_keepsFrames h
  | post _ lanes | release _ lanes | softStop _ lanes | hardStop _ lanes | load _ lanes | reclaim _ lanes | withdraw _ lanes
  | openWafer lanes | closeWafer lanes | watchedWordNoRequest _ lanes _ | dataWordWrite _ lanes _
  | droppedWatchedWordWrite _ lanes _ => exact .next (h.testerWrite _ lanes _)
  | frameStart => exact .next h.startIfDue.settle
  | handBack => exact .next h.settle
  | closeCompletion => exact execCloseCompletion_keepsFrames h
  | contactSample k code => exact .ite (h.work (State.takeSample_siteWork k code s)) (.next h)
  | contactTimerExpiry k | keyWaitExpiry k => exact .ite (h.event (State.endSite_siteWork k _ s)) (.next h)
  | referenceReadCompletion k o b =>
    exact .ite (.ite (h.event (.trans (State.recordRefs_siteWork k o b s) (State.afterRefs_siteWork k o b _)))
      (h.work (State.dropOp_siteWork k s))) (.next h)
  | readACompletion k codes => exact execReadACompletion_keepsFrames h k codes
  | verifyCompletion k codes => exact execVerifyCompletion_keepsFrames h k codes
  | keyDraw => exact execKeyDraw_keepsFrames h
  | budgetGrant => exact h.work s.evaluate_supplyWork.siteWork
  | pulseCompletion k sample =>
    exact .ite (h.event (.trans (State.completePulse_siteWork k s) (State.takeSort_siteWork k _ _))) (.next h)
  | overcurrentEvent k sample =>
    exact .ite (.ite (h.event (.trans (State.truncatePulse_supplyWork k s).siteWork (State.endSite_siteWork k _ _)))
      (h.work (State.onSite_siteWork k _ s))) (.next h)
  | thermalReading k celsius =>
    have hreading : s.SiteWork (s.takeReading k (clampCelsius celsius)) := by
      rw [State.takeReading_eq]
      exact State.onSite_siteWork k _ s
    exact .ite (h.event (.trans hreading (State.thermalEvent_siteWork k _))) (h.work hreading)
  | settleTimerExpiry | wakeTimerExpiry => exact .ite (h.work s.enterReady_supplyWork.siteWork) (.next h)
  | idleTimerExpiry | supplyGoodEvent => exact .ite (h.work (State.onSupply_siteWork _ s)) (.next h)
  | undervoltageEvent => exact .ite (h.work s.enterHold_siteWork) (.next h)
  | holdExpiry =>
    have hchosen : s.chosen.FramesCoherent := h.of_view rfl
    exact .ite (hchosen.event s.expireHold_siteWork) (.next h)
  | offPendingCompletion => exact h.work s.completeOffPending_supplyWork.siteWork

/-- Every step keeps the frames coherent. -/
theorem step_keepsFrames (h : s.FramesCoherent) : LeadsTo State.FramesCoherent (step s) := by
  unfold step
  split
  · exact .next h
  · exact exec_keepsFrames _ (h.of_view rfl)

end Commands

/-- Settles O5: site's work leaves the scheduler's members alone, each move of the scheduler moves one frame together with its place in the
post list, its running and its recipe, and a close completes only while the scheduler is idle. -/
theorem stepKeepsFramesCoherent : Obligations.StepKeepsFramesCoherent := fun _ t hs hstep => step_keepsFrames hs t hstep

end Sys2Proof.Machine

/-!
PROOF. Releases, and stop requests that cancel a queued frame or stop nothing (R136, R143, R144, R146, R147, R155, R166): O24, O25 and O27.
-/

namespace Sys2Proof.Machine

/-! ### The words of a frame -/

theorem wordKind_frameStateWord (f : FrameNo) : wordKind (frameStateWord f) = .frameState f := by
  revert f
  decide +kernel

theorem State.takeWrite_frameStateWord (s : State) (f : FrameNo) (v : Word) : s.takeWrite (frameStateWord f) v = s.writeFrameState f v := by
  simp only [State.takeWrite, wordKind_frameStateWord]

theorem State.takeWrite_frameStopWord (s : State) (f : FrameNo) (v : Word) :
    s.takeWrite (frameStopWord f) v = (s.writeStopWord f v).settle := by
  simp only [State.takeWrite, wordKind_frameStopWord]

/-! ### Release -/

section Release

variable {s : State} {f : FrameNo} {lanes : Lanes}

theorem exec_release (hinit : s.initialising = false) (hreset : s.softReset = false)
    (hvalue : s.writtenValue (frameStateWord f) lanes freeValue = 0) : exec (.release f lanes) s = .next (s.writeFrameState f 0) := by
  show Host.Outcome.next (s.testerWrite (frameStateWord f) lanes freeValue) = _
  rw [State.testerWrite_eq hinit hreset, hvalue, State.takeWrite_frameStateWord]

theorem State.writeFrameState_dropped (howner : (s.frameState f).partOwned = true) (v : Word) : s.writeFrameState f v = s.dropWrite :=
  if_pos howner

theorem State.writeFrameState_release (howner : (s.frameState f).partOwned = false) : s.writeFrameState f 0 = s.setFrame f .free := by
  rw [State.writeFrameState, howner]
  rfl

end Release

/-- Settles O24: the two owners of the frame. -/
theorem releaseFreesTheFrame : Obligations.ReleaseFreesTheFrame := by
  intro f lanes s hinit hreset hvalue
  rw [exec_release hinit hreset hvalue]
  refine ⟨fun howner => ?_, fun howner => ?_⟩
  · rw [State.writeFrameState_release howner]
    rfl
  · rw [State.writeFrameState_dropped howner, State.dropWrite_eq]

/-! ### Stop requests -/

section StopRequests

variable {s : State} {f : FrameNo} {lanes : Lanes} {c : Instr} {v : Word}

/-- Either stop request with its value. -/
def StopRequest (c : Instr) (f : FrameNo) (lanes : Lanes) (v : Word) : Prop :=
  (c = .softStop f lanes ∧ v = 1) ∨ (c = .hardStop f lanes ∧ v = 2)

/-- A stop request is a write of its value to the stop word (R136). -/
theorem StopRequest.exec_eq (hc : StopRequest c f lanes v) (hinit : s.initialising = false) (hreset : s.softReset = false)
    (hvalue : s.writtenValue (frameStopWord f) lanes v = v) : exec c s = .next (s.writeStopWord f v).settle := by
  have hwrite : exec c s = .next (s.testerWrite (frameStopWord f) lanes v) := by
    obtain ⟨rfl, rfl⟩ | ⟨rfl, rfl⟩ := hc
    all_goals rfl
  rw [hwrite, State.testerWrite_eq hinit hreset, hvalue, State.takeWrite_frameStopWord]

/-- With a stop as strong in force a stop request is written back and nothing more (R136, R144). -/
theorem State.writeStopWord_no_stop (hstate : s.frameState f = .running ∨ s.frameState f = .stopping) (hforce : s.sched.stop ≠ .none)
    (hhard : v = 2 → s.sched.stop ≠ .soft) :
    s.WordStored (frameBase f + 0x04) (if s.sched.stop = .soft then 1 else 2) (s.writeStopWord f v) := by
  have hsites : (if v = softValue then s.softStopFrame f else if v = hardValue then s.hardStopFrame f else s) = s := by
    split
    · exact if_neg hforce
    · split
      · exact if_neg (not_or.2 ⟨hforce, hhard ‹_›⟩)
      · rfl
  have hback : s.writeStopWord f v = s.writeBackStop f := by
    unfold State.writeStopWord
    obtain hstate | hstate := hstate
    all_goals rw [hstate]
    all_goals exact congrArg (State.writeBackStop f) hsites
  rw [hback, State.writeBackStop, nat32, FrameStop.code_eq, if_neg hforce]
  exact s.store_wordStored _ _

/-- The stop word of a frame of the tester's keeps what is written (R136). -/
theorem State.writeStopWord_tester (howner : (s.frameState f).partOwned = false) (v : Word) :
    s.WordStored (frameBase f + 0x04) v (s.writeStopWord f v) := by
  have hstored := State.writeStopWord_noRequest (v := v) (.inl howner)
  rwa [if_pos howner] at hstored

end StopRequests

/-- Settles O27: the stop in force written back, and a word of the tester's stored. -/
theorem stopWritesThatStopNothing : Obligations.StopWritesThatStopNothing := by
  intro f lanes s c v hc hinit hreset hvalue hback
  have hexec : exec c s = .next (s.writeStopWord f v).settle := StopRequest.exec_eq hc hinit hreset hvalue
  have hsettle : ∀ {x : Word}, s.WordStored (frameBase f + 0x04) x (s.writeStopWord f v) →
      exec c s = .next (s.writeStopWord f v) := fun ⟨hframe, _, _⟩ => by
    rw [hexec, (hback.of_sched (t := s.writeStopWord f v) (by rw [hframe])).settle_eq]
  refine ⟨fun hstate hforce hhard => ?_, fun howner => ?_⟩
  · have hstored := State.writeStopWord_no_stop hstate hforce hhard
    exact ⟨_, hsettle hstored, hstored⟩
  · have hstored := State.writeStopWord_tester howner v
    exact ⟨_, hsettle hstored, hstored⟩

/-! ### Cancellation -/

section Cancellation

variable {s : State} {f : FrameNo} {v : Word}

/-- The state after the cancellation of a queued frame by a stop request, before an idle report (R143). -/
def State.cancelled (s : State) (f : FrameNo) (v : Word) : State := (s.store (frameBase f + 0x004) (bytes32 v)).cancelFrame f

theorem State.cancelled_eq (s : State) (f : FrameNo) (v : Word) : s.cancelled f v = { s with
    mem := (s.store (frameBase f + 0x04) (bytes32 v)).mem
    attn := s.attn ||| 0x001#11
    sched := { s.sched with
      frames := put s.sched.frames f .cancelled, postList := s.sched.postList.filter (fun g => g != f)
      recipes := put s.sched.recipes f none } } := rfl

/-- A stop request cancels a queued frame, and nothing is handed back (R143, R146). -/
theorem State.writeStopWord_cancels (hqueued : s.frameState f = .queued) (hv : v = 1 ∨ v = 2) (hback : s.NoHandBackDue) :
    (s.writeStopWord f v).settle = (s.cancelled f v).reportIfIdle := by
  have hrequest : v = softValue ∨ v = hardValue := hv
  have hwrite : s.writeStopWord f v = (s.cancelled f v).reportIfIdle := by
    unfold State.writeStopWord
    rw [hqueued]
    exact if_pos hrequest
  have hreport : (s.cancelled f v).reportIfIdle.sched = (s.cancelled f v).sched := by
    unfold State.reportIfIdle State.idleReport
    split
    · split
      · rw [State.completeClose_eq]
      · rfl
    · rfl
  rw [hwrite]
  refine State.settle_of_not_due ?_
  rw [hreport]
  exact hback

/-- Without a close that waits, or with a frame left to the scheduler, no report follows (R146, R155). -/
theorem State.reportIfIdle_quiet (h : s.wafer ≠ .closing ∨ s.sched.running ≠ none ∨ s.sched.postList ≠ []) : s.reportIfIdle = s := by
  unfold State.reportIfIdle State.idleReport
  split
  · rename_i hidle
    obtain ⟨hnone, hnil⟩ := (Scheduler.isIdle_iff _).1 hidle
    exact if_neg (h.resolve_right (not_or.2 ⟨not_not.2 hnone, not_not.2 hnil⟩))
  · rfl

theorem State.reportIfIdle_idle (hnone : s.sched.running = none) (hnil : s.sched.postList = []) : s.reportIfIdle = s.idleReport :=
  if_pos ((Scheduler.isIdle_iff _).2 ⟨hnone, hnil⟩)

theorem exec_closeCompletion_idle (hreset : s.softReset = false) (hnone : s.sched.running = none) (hnil : s.sched.postList = []) :
    exec .closeCompletion s = .next s.idleReport := by
  have hidle := (Scheduler.isIdle_iff s.sched).2 ⟨hnone, hnil⟩
  exact if_pos (by rw [hidle, hreset]; rfl)

/-- A stop word reads as its bytes in memory (R169). -/
theorem State.readWord_frameStopWord (s : State) (f : FrameNo) :
    s.readWord (frameStopWord f) = Memory.read32 s.mem (wordOffset (frameStopWord f)) := by
  have hbyte : ∀ i < 4, s.readByte (wordOffset (frameStopWord f) + i) = Memory.read s.mem (wordOffset (frameStopWord f) + i) :=
    fun i hi => by
      have hword : 4 * ((wordOffset (frameStopWord f) + i) / 4) = wordOffset (frameStopWord f) := by
        unfold wordOffset
        omega
      have hkind : kindAt (wordOffset (frameStopWord f)) = .frameStop f := wordKind_frameStopWord f
      rw [State.readByte, hword, hkind]
  have hfirst := hbyte 0 (by decide)
  rw [Nat.add_zero] at hfirst
  rw [State.readWord, Memory.read32, hbyte 3 (by decide), hbyte 2 (by decide), hbyte 1 (by decide), hfirst]

theorem State.writtenValue_frameStopWord {s t : State} (hmem : t.mem = s.mem) (f : FrameNo) (lanes : Lanes) (v : Word) :
    t.writtenValue (frameStopWord f) lanes v = s.writtenValue (frameStopWord f) lanes v := by
  rw [State.writtenValue, State.writtenValue, State.readWord_frameStopWord, State.readWord_frameStopWord, hmem]

end Cancellation

/-- Settles O25: the cancellation alone, and the idle report that follows it where it leaves the scheduler idle under a CLOSING wafer. -/
theorem stopRequestCancelsAQueuedFrame : Obligations.StopRequestCancelsAQueuedFrame := by
  intro f lanes s c v hc hinit hreset hvalue hqueued hback
  have hv : v = 1 ∨ v = 2 := hc.imp And.right And.right
  have hexec : exec c s = .next (s.cancelled f v).reportIfIdle := by
    rw [StopRequest.exec_eq hc hinit hreset hvalue, State.writeStopWord_cancels hqueued hv hback]
  refine ⟨fun hquiet => ⟨s.cancelled f v, ?_, s.cancelled_eq f v, ?_⟩, fun hclosing hnone hlast => ?_⟩
  · rw [hexec, State.reportIfIdle_quiet]
    refine hquiet.imp id (Or.imp id fun ⟨g, hg, hne⟩ hnil => ?_)
    exact List.not_mem_nil (hnil ▸ List.mem_filter.2 ⟨hg, bne_iff_ne.2 hne⟩ : g ∈ ([] : List FrameNo))
  · obtain ⟨-, hword, hrest⟩ := s.store_wordStored (frameBase f + 0x04) v
    exact ⟨hword, hrest⟩
  · have hnil : (s.cancelled f v).sched.postList = [] := List.filter_eq_nil_iff.2 fun g hg => by simp [hlast g hg]
    have hopened : exec c { s with wafer := .opened } = .next (State.cancelled { s with wafer := .opened } f v) := by
      have hopenValue := (State.writtenValue_frameStopWord (s := s) (t := { s with wafer := .opened }) rfl f lanes v).trans hvalue
      rw [StopRequest.exec_eq (s := { s with wafer := .opened }) hc hinit hreset hopenValue,
        State.writeStopWord_cancels (s := { s with wafer := .opened }) hqueued hv hback,
        State.reportIfIdle_quiet (s := State.cancelled { s with wafer := .opened } f v) (.inl nofun)]
    have hself : { State.cancelled { s with wafer := .opened } f v with wafer := .closing } = s.cancelled f v := by
      rw [State.cancelled_eq, State.cancelled_eq, ← hclosing]
      rfl
    refine ⟨_, hopened, ?_⟩
    rw [hexec, hself, State.reportIfIdle_idle (s := s.cancelled f v) hnone hnil,
      exec_closeCompletion_idle (s := s.cancelled f v) hreset hnone hnil]

end Sys2Proof.Machine

/-!
PROOF. Posts: the checks in their order, the header that acceptance and rejection write, and the snapshot with its clamps and clamp flags
(R133, R137 to R139, R177 to R182): O21 and O22.
-/

namespace Sys2Proof.Machine

/-! ### The snapshot: clamps and clamp flags -/

theorem broughtInto_clampTo {lo hi : Nat} (h : lo ≤ hi) (raw : Nat) : BroughtInto lo hi raw (clampTo lo hi raw) := by
  unfold BroughtInto clampTo
  refine ⟨fun hlow => if_pos hlow, fun hhigh => ?_, fun hlow hhigh => ?_⟩
  · rw [if_neg (by omega), if_pos hhigh]
  · rw [if_neg (by omega), if_neg (by omega)]

/-- The working recipe of a snapshot is the snapshot by the clamps, in each pair the first field first (R178 to R182). -/
theorem RawRecipe.usedAs_clamped (r : RawRecipe) : r.UsedAs r.clamped where
  burn := ⟨broughtInto_clampTo (by decide) _, broughtInto_clampTo (by decide) _, broughtInto_clampTo (by decide) _,
    broughtInto_clampTo (by decide) _⟩
  sense := ⟨broughtInto_clampTo (by decide) _, broughtInto_clampTo (by decide) _, broughtInto_clampTo (by decide) _,
    broughtInto_clampTo (Nat.zero_le _) _⟩
  supply := by
    have hlow : 20 ≤ r.clamped.budget := (clampTo_bounds (by decide) r.budget).1
    exact ⟨broughtInto_clampTo (by decide) _, broughtInto_clampTo (by decide) _, broughtInto_clampTo (by omega) _⟩
  timers := ⟨broughtInto_clampTo (by decide) _, broughtInto_clampTo (by decide) _, broughtInto_clampTo (by decide) _,
    broughtInto_clampTo (by decide) _⟩
  contact := by
    have hhigh : r.clamped.contactOpenMax ≤ 1022 := (clampTo_bounds (Nat.zero_le 1022) r.contactOpenMax).2
    exact ⟨broughtInto_clampTo (by decide) _, broughtInto_clampTo (by decide) _, broughtInto_clampTo (by omega) _⟩
  thermal := by
    have hhigh : r.clamped.thermalWarn ≤ 150 := (clampTo_bounds (by decide) r.thermalWarn).2
    exact ⟨broughtInto_clampTo (by decide) _, broughtInto_clampTo (by omega) _⟩
  bins := fun c => by
    have hbin : look r.clamped.binMap c = clampTo 0 63 (look r.binMap c) := look_ofFn _ c
    rw [hbin]
    exact broughtInto_clampTo (by decide) _
  codes := by
    refine ⟨fun h => ?_, fun h => if_pos h, fun h => if_pos h, fun h => if_neg h, fun h => if_pos h, fun h => if_neg h⟩
    exact if_neg (by rw [h]; decide)
  asWritten := ⟨rfl, rfl, rfl⟩

/-- A flag of a word is seen in its own bit alone. -/
theorem flag_bit (p : Prop) [Decidable p] {b : Nat} (hb : b < 32) (i : Nat) :
    (if p then 0#32 else 1#32 <<< b).getLsbD i = (i == b && !decide p) := by
  by_cases hp : p
  · simp [hp]
  · rw [if_neg hp, BitVec.getLsbD_shiftLeft, BitVec.getLsbD_one, decide_eq_false hp, Bool.eq_iff_iff]
    simp only [Bool.and_eq_true, decide_eq_true_eq, Bool.not_eq_true', decide_eq_false_iff_not, beq_iff_eq, Bool.not_false, and_true]
    omega

theorem clampFlag_bit (raw used : Nat) {b : Nat} (hb : b < 32) (i : Nat) :
    (clampFlag b raw used).getLsbD i = (i == b && raw != used) := by
  show (if raw = used then 0#32 else 1#32 <<< b).getLsbD i = _
  rw [flag_bit _ hb]
  rfl

/-- A bin is changed by its clamp exactly if it lies above 63 (R180). -/
theorem RawRecipe.bins_kept (r : RawRecipe) :
    ((List.finRange 14).all fun c => look r.binMap c == look r.clamped.binMap c)
      = !(List.finRange 14).any fun c => decide (63 < look r.binMap c) := by
  have hbin : ∀ c, (look r.binMap c == look r.clamped.binMap c) = !decide (63 < look r.binMap c) := fun c => by
    have hclamped : look r.clamped.binMap c = clampTo 0 63 (look r.binMap c) := look_ofFn _ c
    rw [hclamped, clampTo, if_neg (Nat.not_lt_zero _)]
    by_cases hc : 63 < look r.binMap c
    · rw [if_pos hc, decide_eq_true hc]
      exact beq_false_of_ne (by omega)
    · rw [if_neg hc, decide_eq_false hc, beq_self_eq_true]
      rfl
  simp only [hbin, List.all_eq_not_any_not, Bool.not_not]

/-- The clamp flags, bit by bit (R178 to R182, 10.5). -/
theorem RawRecipe.clampFlags_bit (r : RawRecipe) (i : Nat) : r.clampFlags.getLsbD i = r.flagOf r.clamped i := by
  unfold RawRecipe.clampFlags
  have horder : decide (r.burstOrder ≤ 1) = !decide (2 ≤ r.burstOrder) := by
    rw [← decide_not]
    exact decide_eq_decide.2 (by omega)
  simp only [BitVec.getLsbD_or, clampFlag_bit, flag_bit, Nat.reduceLT, r.bins_kept, horder, Bool.decide_eq_true, Bool.not_not]
  match i with
  | 0 | 1 | 2 | 3 | 4 | 5 | 6 | 7 | 8 | 9 | 10 | 11 | 12 | 13 | 14 | 15 | 16 | 17 | 18 | 19 | 20 | 21 => simp [RawRecipe.flagOf]
  | n + 22 => simp [RawRecipe.flagOf]

/-! ### What a post reads -/

/-- The recipe snapshot is taken from the bytes of the recipe record (R177, 10.5). -/
theorem rawRecipe_congr {m n : Memory} (h : ∀ a, a < 0x800 → Memory.read m a = Memory.read n a) : rawRecipe m = rawRecipe n := by
  have hbyte : ∀ o, o < 0x600 → Memory.read m (recipeBase + o) = Memory.read n (recipeBase + o) := fun o ho => h _ (by unfold recipeBase; omega)
  have h8 : ∀ o, o < 0x600 → recipeU8 m o = recipeU8 n o := fun o ho => congrArg BitVec.toNat (hbyte o ho)
  have h16 : ∀ o, o < 0x5FF → recipeU16 m o = recipeU16 n o := fun o ho =>
    congrArg BitVec.toNat (Memory.read16_congr (hbyte o (by omega)) (hbyte (o + 1) (by omega)))
  have hdx : ∀ k : SiteNo, Memory.read m (recipeBase + 0x20 + 2 * k.val) = Memory.read n (recipeBase + 0x20 + 2 * k.val) := fun k =>
    h _ (by unfold recipeBase; omega)
  have hdy : ∀ k : SiteNo, Memory.read m (recipeBase + 0x21 + 2 * k.val) = Memory.read n (recipeBase + 0x21 + 2 * k.val) := fun k =>
    h _ (by unfold recipeBase; omega)
  have hbin : ∀ c : Fin 14, recipeU8 m (0x40 + c.val) = recipeU8 n (0x40 + c.val) := fun c => h8 _ (by omega)
  unfold rawRecipe
  simp only [hdx, hdy, hbin, h8, h16, Nat.reduceLT]

/-- The bytes that a post of frame f leaves: all but the stop word, the sequence and the header from the completion kind on (R133). -/
def PostKeeps (f : FrameNo) (a : Nat) : Prop :=
  a < frameBase f + 0x04 ∨ (frameBase f + 0x0C ≤ a ∧ a < frameBase f + 0x12) ∨ frameBase f + 0x1C ≤ a

/-- State t reads as s wherever a post of frame f writes nothing. -/
def State.PostReadsAs (s t : State) (f : FrameNo) : Prop := ∀ a, PostKeeps f a → Memory.read t.mem a = Memory.read s.mem a

section PostReads

variable {s t : State} {f : FrameNo}

/-- The fields of the header that a post judges lie between those that it writes. -/
theorem State.PostReadsAs.read16 (h : s.PostReadsAs t f) {o : Nat} (hlow : 0x0C ≤ o) (hhigh : o + 1 < 0x12) :
    Memory.read16 t.mem (frameBase f + o) = Memory.read16 s.mem (frameBase f + o) :=
  Memory.read16_congr (h _ (.inr (.inl (by omega)))) (h _ (.inr (.inl (by omega))))

theorem State.PostReadsAs.enableMask (h : s.PostReadsAs t f) : t.enableMask f = s.enableMask f := h.read16 (by decide) (by decide)

theorem State.PostReadsAs.enabled (h : s.PostReadsAs t f) (k : SiteNo) : t.enabled f k = s.enabled f k := by
  rw [State.enabled, h.enableMask]
  rfl

theorem State.PostReadsAs.dieX (h : s.PostReadsAs t f) (r : Recipe) (k : SiteNo) : t.dieX f r k = s.dieX f r k := by
  have horigin : t.originX f = s.originX f := congrArg BitVec.toInt (h.read16 (by decide) (by decide))
  rw [State.dieX, horigin]
  rfl

theorem State.PostReadsAs.dieY (h : s.PostReadsAs t f) (r : Recipe) (k : SiteNo) : t.dieY f r k = s.dieY f r k := by
  have horigin : t.originY f = s.originY f := congrArg BitVec.toInt (h.read16 (by decide) (by decide))
  rw [State.dieY, horigin]
  rfl

theorem State.PostReadsAs.rawRecipe (h : s.PostReadsAs t f) : rawRecipe t.mem = rawRecipe s.mem :=
  rawRecipe_congr fun a ha => h a (.inl (by have := le_frameBase f; omega))

theorem State.PostReadsAs.sitesEnabled (h : s.PostReadsAs t f) : t.sitesEnabled f = allSites.countP fun k => s.enabled f k := by
  simp only [State.sitesEnabled, h.enabled]

theorem State.PostReadsAs.postCheck (h : s.PostReadsAs t f) (hwafer : t.wafer = s.wafer) (raw : RawRecipe) :
    t.postCheck f raw = s.postCheck f raw := by
  have hdup : t.duplicateDie f raw.clamped = s.duplicateDie f raw.clamped := by
    simp only [State.duplicateDie, h.enabled, h.dieX, h.dieY]
  rw [State.postCheck, hwafer, h.enableMask, hdup]
  rfl

end PostReads

/-! ### What a post writes -/

/-- Frame f after a post: stop word 0, the sequence, completion kind NONE, reject reason, clamp flags, sites enabled, three zero counts,
and every other byte as in s (R137 to R139). -/
structure State.HeaderWritten (s t : State) (f : FrameNo) (seq : Word) (reason : Nat) (flags : Word) : Prop where
  stopWord : Memory.read32 t.mem (frameBase f + 0x04) = 0
  sequence : Memory.read32 t.mem (frameBase f + 0x08) = seq
  kind : Memory.read t.mem (frameBase f + 0x12) = 0
  reason : Memory.read t.mem (frameBase f + 0x13) = nat8 reason
  flags : Memory.read32 t.mem (frameBase f + 0x14) = flags
  sites : Memory.read t.mem (frameBase f + 0x18) = nat8 (allSites.countP fun k => s.enabled f k)
  counts : ∀ a, 0x19 ≤ a → a < 0x1C → Memory.read t.mem (frameBase f + a) = 0
  other : s.PostReadsAs t f

theorem State.HeaderWritten.of_mem {s t u : State} {f : FrameNo} {seq : Word} {reason : Nat} {flags : Word}
    (h : s.HeaderWritten t f seq reason flags) (hmem : u.mem = t.mem) : s.HeaderWritten u f seq reason flags := by
  obtain ⟨hstop, hseq, hkind, hreason, hflags, hsites, hcounts, hother⟩ := h
  rw [← hmem] at hstop hseq hkind hreason hflags hsites
  exact ⟨hstop, hseq, hkind, hreason, hflags, hsites, hmem ▸ hcounts, fun a ha => hmem ▸ hother a ha⟩

/-- The stop word of a posted frame is cleared before anything is judged (R137). -/
def State.stopWordCleared (s : State) (f : FrameNo) : State := s.store (frameBase f + 0x004) (bytes32 0)

/-- The header from the completion kind on as a post writes it (R138, R139). -/
def postFields (reason : Nat) (flags : Word) (sites : Nat) : List Byte := [0, nat8 reason] ++ bytes32 flags ++ [nat8 sites, 0, 0, 0]

theorem length_postFields (reason : Nat) (flags : Word) (sites : Nat) : (postFields reason flags sites).length = 10 := rfl

/-- The three stores of a post: stop word 0, the sequence, and the header from the completion kind on. -/
def State.postStored (s : State) (f : FrameNo) (seq : Word) (fields : List Byte) : State :=
  ((s.stopWordCleared f).store (frameBase f + 0x08) (bytes32 seq)).store (frameBase f + 0x12) fields

/-- A store into the stop word, the sequence or the header from the completion kind on. -/
theorem State.PostReadsAs.store {s t : State} {f : FrameNo} (h : s.PostReadsAs t f) {o : Nat} {bs : List Byte}
    (hplace : (0x04 ≤ o ∧ o + bs.length ≤ 0x0C) ∨ (0x12 ≤ o ∧ o + bs.length ≤ 0x1C)) :
    s.PostReadsAs (t.store (frameBase f + o) bs) f := fun a ha => by
  refine (Memory.read_writeBytes_outside _ _ ?_).trans (h a ha)
  unfold PostKeeps at ha
  omega

section PostWrites

variable (s : State) (f : FrameNo)

theorem State.stopWordCleared_readsAs : s.PostReadsAs (s.stopWordCleared f) f :=
  State.PostReadsAs.store (bs := bytes32 0) (fun _ _ => rfl) (.inl ⟨Nat.le_refl _, show 0x04 + 4 ≤ 0x0C by decide⟩)

theorem State.stopWordCleared_sequence_readsAs (seq : Word) :
    s.PostReadsAs ((s.stopWordCleared f).store (frameBase f + 0x08) (bytes32 seq)) f :=
  (s.stopWordCleared_readsAs f).store (.inl ⟨by decide, show 0x08 + 4 ≤ 0x0C by decide⟩)

theorem State.writeHeader_eq (seq : Word) (reason : Nat) (flags : Word) :
    (s.stopWordCleared f).writeHeader f seq reason flags
      = s.postStored f seq (postFields reason flags (allSites.countP fun k => s.enabled f k)) := by
  rw [State.writeHeader, (s.stopWordCleared_readsAs f).sitesEnabled]
  rfl

theorem State.read_postStored_field (seq : Word) {fields : List Byte} {j : Nat} (hj : j < fields.length) :
    Memory.read (s.postStored f seq fields).mem (frameBase f + 0x12 + j) = fields.getD j 0 :=
  Memory.read_writeBytes_inside _ _ hj

theorem State.read32_postStored_sequence (seq : Word) (fields : List Byte) :
    Memory.read32 (s.postStored f seq fields).mem (frameBase f + 0x08) = seq := by
  obtain ⟨-, hword, -⟩ := (s.stopWordCleared f).store_wordStored (frameBase f + 0x08) seq
  exact (Memory.read32_congr fun j hj => Memory.read_writeBytes_outside _ _ (.inl (by omega))).trans hword

theorem State.read32_postStored_stopWord (seq : Word) (fields : List Byte) :
    Memory.read32 (s.postStored f seq fields).mem (frameBase f + 0x04) = 0 := by
  obtain ⟨-, hword, -⟩ := s.store_wordStored (frameBase f + 0x04) 0
  refine (Memory.read32_congr fun j hj => ?_).trans hword
  exact (Memory.read_writeBytes_outside _ _ (.inl (by omega))).trans (Memory.read_writeBytes_outside _ _ (.inl (by omega)))

/-- What a post leaves in the frame it posts (R137 to R139). -/
theorem State.writeHeader_headerWritten (seq : Word) (reason : Nat) (flags : Word) :
    s.HeaderWritten ((s.stopWordCleared f).writeHeader f seq reason flags) f seq reason flags := by
  rw [State.writeHeader_eq]
  generalize hsites : (allSites.countP fun k => s.enabled f k) = sites
  have hfield : ∀ j < 10, Memory.read (s.postStored f seq (postFields reason flags sites)).mem (frameBase f + 0x12 + j)
      = (postFields reason flags sites).getD j 0 := fun _ hj => s.read_postStored_field f seq hj
  exact {
    stopWord := s.read32_postStored_stopWord f seq _
    sequence := s.read32_postStored_sequence f seq _
    kind := hfield 0 (by decide)
    reason := hfield 1 (by decide)
    flags := Memory.read32_of_bytes (hfield 2 (by decide)) (hfield 3 (by decide)) (hfield 4 (by decide)) (hfield 5 (by decide))
    sites := by
      rw [hsites]
      exact hfield 6 (by decide)
    counts := fun a hlow hhigh => by
      obtain rfl | rfl | rfl : a = 0x19 ∨ a = 0x1A ∨ a = 0x1B := by omega
      · exact hfield 7 (by decide)
      · exact hfield 8 (by decide)
      · exact hfield 9 (by decide)
    other := (s.stopWordCleared_sequence_readsAs f seq).store
      (.inr ⟨Nat.le_refl _, by rw [length_postFields]⟩) }

end PostWrites

/-! ### The checks (R137) -/

section Checks

variable {s : State} {f : FrameNo} {lanes : Lanes}

theorem rawRecipe_keyLengthOk (m : Memory) : (rawRecipe m).keyLengthOk = true ↔ (Memory.read m 0x200).toNat ≤ 1 := by
  have hcode : (rawRecipe m).keyLengthCode = (Memory.read m 0x200).toNat := rfl
  rw [RawRecipe.keyLengthOk, hcode, Bool.or_eq_true, beq_iff_eq, beq_iff_eq]
  omega

/-- Two enabled sites of frame f, used with a recipe, come to lie on one die (R137, check 5). -/
def State.SharesDie (s : State) (f : FrameNo) (r : Recipe) : Prop :=
  ∃ a b, a < b ∧ s.enabled f a = true ∧ s.enabled f b = true ∧ s.dieX f r a = s.dieX f r b ∧ s.dieY f r a = s.dieY f r b

theorem State.duplicateDie_iff (s : State) (f : FrameNo) (r : Recipe) : s.duplicateDie f r = true ↔ s.SharesDie f r := by
  simp only [State.duplicateDie, State.SharesDie, List.any_eq_true, mem_allSites, true_and, Bool.and_eq_true, decide_eq_true_eq,
    beq_iff_eq, and_assoc]

theorem State.postCheck_accepts (hopen : s.wafer = .opened) (hsites : s.enableMask f ≠ 0) (hlength : (Memory.read s.mem 0x200).toNat ≤ 1)
    (hdie : ¬ s.SharesDie f (rawRecipe s.mem).clamped) : s.postCheck f (rawRecipe s.mem) = none := by
  have hok := (rawRecipe_keyLengthOk s.mem).2 hlength
  have hapart := Bool.eq_false_iff.2 fun h => hdie ((s.duplicateDie_iff f _).1 h)
  rw [State.postCheck, hopen, if_neg nofun, if_neg nofun, if_neg hsites, hok, hapart]
  rfl

/-- The first reason that holds, by its code (R133, R137). -/
theorem State.postCheck_rejects {code : Nat}
    (hcode : code = (if s.wafer = .closed then 1 else if s.wafer = .closing then 2 else if s.enableMask f = 0 then 3
      else if 1 < (Memory.read s.mem 0x200).toNat then 4 else 5))
    (hdie : code = 5 → s.SharesDie f (rawRecipe s.mem).clamped) :
    ∃ why : RejectReason, s.postCheck f (rawRecipe s.mem) = some why ∧ why.code = code := by
  have hlength := rawRecipe_keyLengthOk s.mem
  unfold State.postCheck
  split at hcode
  · rename_i hclosed
    exact ⟨.noWafer, if_pos hclosed, hcode.symm⟩
  rename_i hclosed
  rw [if_neg hclosed]
  split at hcode
  · rename_i hclosing
    exact ⟨.waferClosing, if_pos hclosing, hcode.symm⟩
  rename_i hclosing
  rw [if_neg hclosing]
  split at hcode
  · rename_i hsites
    exact ⟨.noSites, if_pos hsites, hcode.symm⟩
  rename_i hsites
  rw [if_neg hsites]
  split at hcode
  · rename_i hlong
    have hbad : (rawRecipe s.mem).keyLengthOk = false := Bool.eq_false_iff.2 fun h => absurd (hlength.1 h) (by omega)
    exact ⟨.badKeyLength, if_pos (by rw [hbad]; rfl), hcode.symm⟩
  · rename_i hshort
    have hok : (rawRecipe s.mem).keyLengthOk = true := hlength.2 (by omega)
    have hshares := (s.duplicateDie_iff f _).2 (hdie hcode)
    refine ⟨.duplicateDie, ?_, hcode.symm⟩
    rw [hok, if_neg (by decide), if_pos hshares]

/-! ### A post taken -/

theorem exec_post (hinit : s.initialising = false) (hreset : s.softReset = false)
    (hvalue : s.writtenValue (frameStateWord f) lanes postedValue = 1) (howner : (s.frameState f).partOwned = false) :
    exec (.post f lanes) s = .next (s.takePost f).settle := by
  show Host.Outcome.next (s.testerWrite (frameStateWord f) lanes postedValue) = _
  rw [State.testerWrite_eq hinit hreset, hvalue, State.takeWrite_frameStateWord, State.writeFrameState, howner]
  rfl

/-- The checks of a post are made of the state it finds: it clears the stop word first, which none of them reads. -/
theorem State.takePost_eq (s : State) (f : FrameNo) : s.takePost f = match s.postCheck f (rawRecipe s.mem) with
    | some why => (s.stopWordCleared f).rejectPost f why (rawRecipe s.mem)
    | none => ((s.stopWordCleared f).acceptPost f (rawRecipe s.mem)).startIfDue := by
  have hreads := s.stopWordCleared_readsAs f
  have hcheck : (s.stopWordCleared f).postCheck f (rawRecipe s.mem) = s.postCheck f (rawRecipe s.mem) := hreads.postCheck rfl _
  have hraw : rawRecipe (s.stopWordCleared f).mem = rawRecipe s.mem := hreads.rawRecipe
  rw [← hcheck, ← hraw]
  rfl

theorem State.takePost_rejects {why : RejectReason} (h : s.postCheck f (rawRecipe s.mem) = some why) :
    s.takePost f = (s.stopWordCleared f).rejectPost f why (rawRecipe s.mem) := by
  rw [State.takePost_eq, h]

theorem State.takePost_accepts (h : s.postCheck f (rawRecipe s.mem) = none) :
    s.takePost f = ((s.stopWordCleared f).acceptPost f (rawRecipe s.mem)).startIfDue := by
  rw [State.takePost_eq, h]

/-- A rejection in members: the header, FRAME_ENDED and the frame's state (R139). -/
theorem State.rejectPost_eq (f : FrameNo) (why : RejectReason) (raw : RawRecipe) (s : State) : s.rejectPost f why raw = { s with
    mem := (s.writeHeader f 0 why.code raw.clampFlags).mem
    attn := s.attn ||| 0x001#11
    sched := { s.sched with frames := put s.sched.frames f .rejected } } := by
  simp only [State.rejectPost, State.writeHeader, State.raise, State.setFrame, State.store]
  rfl

/-- An acceptance in members: the header, the frame at the end of the list with its working recipe, and the next sequence (R138). -/
theorem State.acceptPost_eq (f : FrameNo) (raw : RawRecipe) (s : State) : s.acceptPost f raw = { s with
    mem := (s.writeHeader f s.sched.nextSeq 0 raw.clampFlags).mem
    sched := { s.sched with
      frames := put s.sched.frames f .queued, postList := s.sched.postList ++ [f],
      recipes := put s.sched.recipes f (some raw.clamped), nextSeq := nextSequence s.sched.nextSeq } } := by
  simp only [State.acceptPost, State.writeHeader, State.store]

end Checks

/-- Settles O22: the first reason in the order of the checks, and the header that reports it. -/
theorem postRejectsWithTheFirstReason : Obligations.PostRejectsWithTheFirstReason := by
  intro f lanes s code hinit hreset hvalue howner hcode hdie hback
  obtain ⟨why, hcheck, hwhy⟩ := State.postCheck_rejects hcode hdie
  set t := (s.stopWordCleared f).rejectPost f why (rawRecipe s.mem) with ht
  have hpost : s.takePost f = t := State.takePost_rejects hcheck
  have hmem : t.mem = ((s.stopWordCleared f).writeHeader f 0 why.code (rawRecipe s.mem).clampFlags).mem := by rw [ht, State.rejectPost_eq]
  have hheader := (s.writeHeader_headerWritten f 0 why.code (rawRecipe s.mem).clampFlags).of_mem hmem
  rw [hwhy] at hheader
  refine ⟨t, ?_, ?_, hheader.stopWord, hheader.sequence, hheader.kind, hheader.reason, hheader.flags, hheader.sites, hheader.counts,
    hheader.other⟩
  · rw [exec_post hinit hreset hvalue howner, hpost]
    exact congrArg _ (State.settle_of_not_due hback)
  · rw [ht, State.rejectPost_eq]
    rfl

/-- Settles O21: the accepted frame at the end of the post list with its snapshot, and the snapshot's clamps and flags. -/
theorem postAcceptsTheFrame : Obligations.PostAcceptsTheFrame := by
  refine ⟨fun f lanes s hinit hreset hvalue howner hopen hsites hlength hdie hquiet => ?_, fun r => ⟨r.usedAs_clamped, r.clampFlags_bit⟩⟩
  have hcheck := State.postCheck_accepts hopen hsites hlength hdie
  set t := (s.stopWordCleared f).acceptPost f (rawRecipe s.mem) with ht
  have hmem : t.mem = ((s.stopWordCleared f).writeHeader f s.sched.nextSeq 0 (rawRecipe s.mem).clampFlags).mem := by
    rw [ht, State.acceptPost_eq]
    rfl
  have hheader := (s.writeHeader_headerWritten f s.sched.nextSeq 0 (rawRecipe s.mem).clampFlags).of_mem hmem
  have hstart : t.startIfDue = t := by
    obtain ⟨-, hrun⟩ | ⟨hrunning, -⟩ := hquiet
    · exact State.startIfDue_of_stopped hrun
    · exact State.startIfDue_of_no_start fun hnone => absurd hnone hrunning
  have hpost : s.takePost f = t := by rw [State.takePost_accepts hcheck, ← ht, hstart]
  refine ⟨t, ?_, ?_, hheader.stopWord, hheader.sequence, hheader.kind, hheader.reason, hheader.flags, hheader.sites, hheader.counts,
    hheader.other⟩
  · rw [exec_post hinit hreset hvalue howner, hpost]
    exact congrArg _ (State.settle_of_not_due (hquiet.imp And.left And.right))
  · rw [ht, State.acceptPost_eq]
    rfl

end Sys2Proof.Machine

/-!
PROOF. A frame starts in the command that makes it able to: a post with RUN 1, and RUN set with a queue (R140, R141, R171): O23.
-/

namespace Sys2Proof.Machine

/-! ### A post with RUN 1 -/

section Post

variable {s z : State}

theorem State.startIfDue_settle_of_idle (h : s.SchedulerIdle) : s.startIfDue.settle = s := by
  obtain ⟨hnone, hnil⟩ := h
  rw [State.startIfDue_of_no_start fun _ => hnil, State.settle_of_no_frame hnone]

theorem State.rejectPost_sched (f : FrameNo) (why : RejectReason) (raw : RawRecipe) (s : State) :
    (s.rejectPost f why raw).sched = { s.sched with frames := put s.sched.frames f .rejected } := by
  simp only [State.rejectPost, State.writeHeader, State.raise_sched, State.setFrame, State.store_sched]

/-- A rejection starts nothing, whatever RUN is. -/
theorem State.rejectPost_run (f : FrameNo) (why : RejectReason) (raw : RawRecipe) (run : Bool) (s : State) :
    State.rejectPost f why raw { s with run := run } = { s.rejectPost f why raw with run := run } := rfl

theorem State.acceptPost_run (f : FrameNo) (raw : RawRecipe) (run : Bool) (s : State) :
    State.acceptPost f raw { s with run := run } = { s.acceptPost f raw with run := run } := rfl

/-- A post to an idle scheduler starts no frame while RUN is 0, and with RUN 1 it starts the one it has just accepted (R140, R141). -/
theorem State.takePost_starts (hidle : z.SchedulerIdle) (hrun : z.run = false) (f : FrameNo) :
    (State.takePost f { z with run := true }).settle = State.settle (State.startIfDue { (z.takePost f).settle with run := true }) := by
  obtain ⟨hnone, hnil⟩ := hidle
  have hcleared : State.stopWordCleared { z with run := true } f = { z.stopWordCleared f with run := true } := rfl
  have hcheck : State.postCheck { z with run := true } f (rawRecipe z.mem) = z.postCheck f (rawRecipe z.mem) := rfl
  cases hz : z.postCheck f (rawRecipe z.mem) with
  | some why =>
    set t := (z.stopWordCleared f).rejectPost f why (rawRecipe z.mem) with ht
    have hsched : t.sched = { z.sched with frames := put z.sched.frames f .rejected } := State.rejectPost_sched _ _ _ _
    have hnone' : t.sched.running = none := by rw [hsched]; exact hnone
    have hnil' : t.sched.postList = [] := by rw [hsched]; exact hnil
    have hpost : State.takePost f { z with run := true } = { t with run := true } :=
      (State.takePost_rejects (hcheck.trans hz)).trans (by rw [hcleared, State.rejectPost_run])
    rw [hpost, State.takePost_rejects hz, ← ht, State.settle_of_no_frame hnone',
      State.startIfDue_settle_of_idle (s := { t with run := true }) ⟨hnone', hnil'⟩]
    exact State.settle_of_no_frame (s := { t with run := true }) hnone'
  | none =>
    set t := (z.stopWordCleared f).acceptPost f (rawRecipe z.mem) with ht
    have hnone' : t.sched.running = none := hnone
    have hpost : State.takePost f { z with run := true } = State.startIfDue { t with run := true } :=
      (State.takePost_accepts (hcheck.trans hz)).trans (by rw [hcleared, State.acceptPost_run])
    rw [hpost, State.takePost_accepts hz, ← ht, State.startIfDue_of_stopped (s := t) hrun, State.settle_of_no_frame hnone']

/-- What a write to a frame's state word leaves of an idle scheduler may start, and no more follows (R136, R141). -/
theorem State.writeFrameState_starts (hidle : z.SchedulerIdle) (hrun : z.run = false) (f : FrameNo) (v : Word) :
    State.writeFrameState f v { z with run := true } = State.settle (State.startIfDue { z.writeFrameState f v with run := true }) := by
  unfold State.writeFrameState
  change (if (z.frameState f).partOwned then _ else _) = _
  split
  · exact (State.startIfDue_settle_of_idle (s := State.dropWrite { z with run := true }) hidle).symm
  · split
    · exact State.takePost_starts hidle hrun f
    · split
      · exact (State.startIfDue_settle_of_idle (s := State.takeRelease f { z with run := true }) hidle).symm
      · exact (State.startIfDue_settle_of_idle (s := { z with run := true }) hidle).symm

theorem State.writtenValue_run (w : WordNo) (lanes : Lanes) (d : Word) (run : Bool) :
    State.writtenValue { z with run := run } w lanes d = z.writtenValue w lanes d := rfl

theorem State.testerWrite_starts (hidle : z.SchedulerIdle) (hrun : z.run = false) (f : FrameNo) (lanes : Lanes) (d : Word) :
    State.testerWrite (frameStateWord f) lanes d { z with run := true }
      = State.settle (State.startIfDue { z.testerWrite (frameStateWord f) lanes d with run := true }) := by
  unfold State.testerWrite
  change (if z.writesDiscarded then _ else _) = _
  split
  · exact (State.startIfDue_settle_of_idle (s := { z with run := true }) hidle).symm
  · rw [State.writtenValue_run, State.takeWrite_frameStateWord, State.takeWrite_frameStateWord, State.writeFrameState_starts hidle hrun]

end Post

/-! ### RUN set -/

/-- RUN is 1, and no burst request waits for a pump that RUN set would wake (R83, R171). -/
structure State.PumpServed (s : State) : Prop where
  run : s.run = true
  served : ¬(s.supply.pump = .off ∧ s.supply.offPending = false ∧ ∃ k, look s.arbiter.requests k ≠ none)

section RunSet

variable {s t : State}

theorem State.PumpServed.of_keepsPower (h : s.PumpServed) (hrun : t.run = s.run) (hpower : s.KeepsPower t) : t.PumpServed :=
  ⟨hrun.trans h.run, by rw [hpower.1, hpower.2]; exact h.served⟩

/-- A request that arrives with RUN 1 leaves the pump OFF only where off pending is set (R83, R90). -/
theorem Supply.onRequest_wakes {p : Supply} (hoff : (p.onRequest true).pump = .off) : p.offPending = true ∧ p.onRequest true = p := by
  unfold Supply.onRequest at hoff ⊢
  cases hpump : p.pump with
  | off =>
    cases hpending : p.offPending with
    | true => exact ⟨rfl, by simp only [Bool.not_true, Bool.and_false, Bool.false_eq_true, if_false]⟩
    | false =>
      simp only [hpump, hpending, Bool.not_false, Bool.and_true, if_true] at hoff
      exact absurd hoff nofun
  | idleLow =>
    simp only [hpump] at hoff
    split at hoff
    · exact absurd (hpump.symm.trans hoff) nofun
    · split at hoff
      · exact absurd hoff nofun
      · exact absurd hoff nofun
  | ready | ramp | wake | hold =>
    simp only [hpump] at hoff
    cases hoff

/-- The idle timer is all that a quiet supply unit may start (R96). -/
theorem State.idleIfQuiet_pump (s : State) : s.idleIfQuiet.pump = s.supply.pump ∧ s.idleIfQuiet.offPending = s.supply.offPending := by
  unfold State.idleIfQuiet
  split
  · exact ⟨rfl, rfl⟩
  · exact ⟨rfl, rfl⟩

theorem State.withdrawBurst_pump (k : SiteNo) (s : State) :
    (s.withdrawBurst k).supply.pump = s.supply.pump ∧ (s.withdrawBurst k).supply.offPending = s.supply.offPending := by
  rw [State.withdrawBurst_eq]
  dsimp only
  split
  · exact ⟨rfl, rfl⟩
  · exact State.idleIfQuiet_pump _

theorem State.writeRecord_keepsPower (k : SiteNo) (o : SiteOutcome) (d : Disposition) (serial : Word) (s : State) :
    s.KeepsPower (s.writeRecord k o d serial) := by
  unfold State.writeRecord
  split
  · exact ⟨State.store_supply _ _ _, State.store_arbiter _ _ _⟩
  · exact ⟨rfl, rfl⟩

namespace State.PumpServed

theorem onSite (h : s.PumpServed) (k : SiteNo) (g : Site → Site) : (s.onSite k g).PumpServed :=
  h.of_keepsPower rfl ⟨rfl, rfl⟩

theorem requestBurst (h : s.PumpServed) (k : SiteNo) (n : Nat) : (s.requestBurst k n).PumpServed := by
  refine ⟨h.run, fun ⟨hoff, hpending, _⟩ => ?_⟩
  rw [State.requestBurst_supply, h.run] at hoff hpending
  obtain ⟨hset, hsame⟩ := Supply.onRequest_wakes hoff
  rw [hsame, hset] at hpending
  cases hpending

theorem withdrawBurst (h : s.PumpServed) (k : SiteNo) : (s.withdrawBurst k).PumpServed := by
  obtain ⟨hpump, hoff⟩ := s.withdrawBurst_pump k
  have hrequests : (s.withdrawBurst k).arbiter.requests = put s.arbiter.requests k none := by rw [State.withdrawBurst_eq]
  refine ⟨by rw [State.withdrawBurst_eq]; exact h.run, ?_⟩
  rw [hpump, hoff, hrequests]
  rintro ⟨hp, ho, j, hj⟩
  refine h.served ⟨hp, ho, j, fun hnone => hj ?_⟩
  rw [look_put]
  split
  · rfl
  · exact hnone

theorem takeKeyGrant (h : s.PumpServed) (g : KeyGrant) : (s.takeKeyGrant g).PumpServed := by
  rw [State.takeKeyGrant_eq]
  set x := s.onSite g.site (Site.keyed s.workingRecipe.keyLength g) with hx
  have hx' : x.PumpServed := h.onSite g.site _
  cases hrow : firstBurnRow x.workingRecipe.keyLength (x.site g.site).seq.plan 0 with
  | none =>
    rw [State.beginRow_of_none hrow]
    exact hx'.of_keepsPower rfl ⟨rfl, rfl⟩
  | some e =>
    rw [State.beginRow_of_some hrow, State.beginAttempt_eq]
    exact (hx'.onSite g.site _).requestBurst g.site _

theorem deliver (h : s.PumpServed) (gs : List KeyGrant) : (s.deliver gs).PumpServed := by
  unfold State.deliver
  induction gs generalizing s with
  | nil => exact h
  | cons g gs ih => exact ih (h.takeKeyGrant g)

/-- The end of a site withdraws its request, and a key it returns brings the request of the site that waited for one (R51, R96). -/
theorem endSite (h : s.PumpServed) (k : SiteNo) (o : SiteOutcome) : (s.endSite k o).PumpServed := by
  refine deliver ?_ _
  cases hrun : (s.site k).seq.state.isRunning with
  | false => simpa [State.endSiteWith, hrun] using h
  | true =>
    have hw := h.withdrawBurst k
    obtain ⟨hkept, -⟩ := (State.endSiteWith_endWork k o s).work.kept
    exact hw.of_keepsPower (hkept.trans (h.run.trans hw.run.symm)) (State.endSiteWith_power k o hrun)

theorem runSite (h : s.PumpServed) (k : SiteNo) (r : Recipe) (x y : Int) : (s.runSite k r x y).PumpServed := by
  have hcontact : (s.onSite k (Site.enterContact r s.lotTag s.supply.pump x y)).PumpServed := h.onSite k _
  unfold State.runSite
  dsimp only
  split
  · exact hcontact.endSite k .thermal
  · exact hcontact

theorem skipSite (h : s.PumpServed) (k : SiteNo) (why : SkipReason) (x y : Int) : (s.skipSite k why x y).PumpServed := by
  refine h.of_keepsPower ?_ ?_
  · obtain ⟨hrun, -⟩ := (State.skipSite_siteWork k why x y s).kept
    exact hrun
  · exact State.writeRecord_keepsPower k .skipped .none 0 (s.onSeq k _)

theorem handSite (h : s.PumpServed) (f : FrameNo) (r : Recipe) (at_ : State) (k : SiteNo) : (State.handSite f r at_ k s).PumpServed := by
  unfold State.handSite
  split
  · exact h.runSite k _ _ _
  · exact h.skipSite k _ _ _

theorem foldl_handSite (f : FrameNo) (r : Recipe) (at_ : State) (l : List SiteNo) (h : s.PumpServed) :
    (l.foldl (fun u k => State.handSite f r at_ k u) s).PumpServed := by
  induction l generalizing s with
  | nil => exact h
  | cons k l ih => exact ih (h.handSite f r at_ k)

/-- A start with no burst request waiting leaves RUN set nothing to ask of the supply unit (R83, R142, R171). -/
theorem startIfDue (hrun : s.run = true) (hnone : ∀ k, look s.arbiter.requests k = none) : s.startIfDue.PumpServed := by
  unfold State.startIfDue
  split
  · rw [if_pos hrun]
    exact foldl_handSite _ _ _ allSites ⟨hrun, fun ⟨_, _, k, hk⟩ => hk (hnone k)⟩
  · exact ⟨hrun, fun ⟨_, _, k, hk⟩ => hk (hnone k)⟩

end State.PumpServed

end RunSet

/-- Settles O23: a post starts the frame that the same post with RUN 0 leaves at the head, and RUN set has nothing to ask of the supply
unit once the head has started. -/
theorem postAndRunSetStartTheHead : Obligations.PostAndRunSetStartTheHead := by
  refine ⟨fun f lanes s hrun hnone hnil => ?_, fun v s hinit hreset hrun _ hrequests hv₀ hv₁ => ?_⟩
  · set z : State := { s with run := false } with hz
    have hs : s = { z with run := true } := by rw [hz, ← hrun]
    refine ⟨State.testerWrite (frameStateWord f) lanes postedValue z, rfl, ?_⟩
    rw [hs]
    exact congrArg Host.Outcome.next (State.testerWrite_starts (z := z) ⟨hnone, hnil⟩ rfl f lanes postedValue)
  · have hserved := State.PumpServed.startIfDue (s := { s with run := true }) rfl hrequests
    rw [exec_runSet hinit hreset hrun hv₀ hv₁, State.takeRunSet, State.supplyRunSet_of_not_due hserved.served]
    rfl

end Sys2Proof.Machine
